-- ==== Sys2Proof/Word.lean ====
section
/-! DEFINITION. The word types of the register file, of records and of frames (02_number_formats.md).
Formats wider than a word, their rounding and their layout stand in Machine/Bits.lean. -/
namespace Sys2Proof

/-- One byte of memory, of a record or of a frame. -/
abbrev Byte := BitVec 8

/-- One 32-bit host word (R84). -/
abbrev Word := BitVec 32

/-- A 40-bit ratio word or reduced mantissa (R56, R69). -/
abbrev Ratio := BitVec 40

/-- A 48-bit transit stamp, counter or coefficient word (R62, R73). -/
abbrev W48 := BitVec 48

end Sys2Proof
end

