-- ==== Sys2Proof/Syntax.lean ====
section
/-! DEFINITION. The commands of the block: one constructor per row of spec/opcode_table.json, with the row's operands.
An operand carries what the event brings from outside (an access path, a word written, a pin level, an analog reading,
a frame); everything else an event needs stands in State. -/
namespace Sys2Proof

/-- The access paths of the register file (16_host_interface.md, Model; R616) and the request queues. -/
inductive Path where
  | pcie
  | spi
  | link
  | queue (k : Fin 8)
  deriving DecidableEq, Repr

/-- The two ports of the Floper link (R690). -/
inductive LinkPort where
  | east
  | west
  deriving DecidableEq, Repr

/-- The output fault conditions of Table 14.4. -/
inductive OutFault where
  | short
  | contend
  | overvolt
  | openLoad
  deriving DecidableEq, Repr

/-- What the field side measured over the two integration phases of a burst pair (R270, R271), as exact means: currents
are magnitudes in nA and sensed excitation in 2^-16 µV, each divided by the common denominator `den`. -/
structure PairMeans where
  den : Nat
  /-- Mean current magnitude of the positive burst. -/
  currentPos : Nat
  /-- Mean current magnitude of the negative burst. -/
  currentNeg : Nat
  /-- Mean current magnitude over both integration phases. -/
  currentMean : Nat
  /-- Mean sensed-excitation magnitude over both integration phases. -/
  sensedMean : Nat
  deriving DecidableEq, Repr

/-- One decimated sample as the filter chain forms it: its value on the ratio-word scale (R340), before the limit of
R60, the magnitude of the sensed excitation in it, in 2^-16 µV (R272), and whether the driver's current limit acted in it
(R252). -/
structure SampleReading where
  value : Int
  excitation : Nat
  ilim : Bool
  deriving DecidableEq, Repr

/-- A lane's drive reverses, and whether the excitation limit acts in the negative burst (R252, R256). -/
structure Reversal where
  lane : Fin 32
  ilim : Bool
  deriving DecidableEq, Repr

/-- A read request: registers, or the vault window of BAR2, from an offset on, and how many words (R611, R612). -/
structure ReadRequest where
  bar2 : Bool
  off : BitVec 22
  words : Nat
  deriving DecidableEq, Repr

/-- An urgent frame as received, byte by byte (Table 18.2). -/
structure UrgentFrame where
  kind : Byte
  code : Byte
  origin : Byte
  target : Byte
  seq : Byte
  crc : Byte
  hops : Byte
  deriving DecidableEq, Repr

/-- A time beacon as received (Table 18.1), with the time since its lead symbol arrived and the time it stays in this
node before its copy leaves, both in 1/16 ns (R712, R713). -/
structure BeaconFrame where
  rho : BitVec 64
  corr : Word
  tk : Byte
  hops : Byte
  crc : BitVec 16
  age : Nat
  residence : Nat
  deriving DecidableEq, Repr

/-- A DELAY_RESP as received (Table 18.1), with the measured t_rx - t_tx in 1/16 ns (R710). -/
structure DelayRespFrame where
  seq : Byte
  node : Byte
  flags : Byte
  turn : Word
  crc : Byte
  roundTrip : Nat
  deriving DecidableEq, Repr

/-- A normal frame as received (Table 18.3); its TYPE byte is the row's own. -/
structure NormalFrame where
  flags : Byte
  origin : Byte
  dest : Byte
  seq : BitVec 16
  arg : Word
  payload : List Byte
  crc : Word
  deriving DecidableEq, Repr

/-- The capabilities of the endpoint (Table 16.1). -/
inductive CfgCap where
  | power | msix | express | aer | serial
  deriving DecidableEq, Repr

/-- A PCIe configuration request (R144, R606): a read of a dword of the header or of a capability, wherever in configuration
space that lies, or one of the writes the spec gives an effect. -/
inductive CfgRequest where
  | read (dword : Nat)
  | readCap (cap : CfgCap) (dword : Nat)
  | writeBar0 (addr : BitVec 64)
  | writeBar2 (addr : BitVec 64)
  | writeCommand (memorySpace busMaster : Bool)
  | writePower (d3hot : Bool)
  | writeMsix (enable functionMask : Bool)
  | writeMaxPayload (bytes256 : Bool)
  | initiateFlr
  deriving DecidableEq, Repr

/-- The commands: one constructor per row of spec/opcode_table.json. -/
inductive Instr where
  /-- SUPPLY_LOSS (R91): VAON or VCORE falls below the reset thresholds and the device enters OFF, losing all state except the vault. -/
  | supplyLoss
  /-- POR_RELEASE (R90): The internal power-on reset releases with RST_N high and the device enters FUSING. -/
  | porRelease (mode : BitVec 2) (rstHigh : Bool)
  /-- RST_N_ASSERT (R99): RST_N held low for at least 1 µs resets the control die. -/
  | rstNAssert
  /-- RST_N_RISE (R109): The rising edge of RST_N samples BOOT_MODE and starts FUSING. -/
  | rstNRise (mode : BitVec 2)
  /-- FUSING_END (R117): The fuse load completes and the device goes to LOADING, HELD or SAFE as the boot mode and checks require. -/
  | fusingEnd
  /-- PERST_N_FALL (R105): PERST_N low resets the PCIe endpoint and stops queue fetches and logbook writes; measurement continues. -/
  | perstNFall
  /-- PERST_N_RISE (R106): PERST_N high starts PCIe link training, or defers it to the end of FUSING. -/
  | perstNRise
  /-- PGOOD_FALL (R52): A quadrant's filtered PGOOD falls; its tickets are cancelled and FIELD_PG and BARRIER_UP are cleared. -/
  | pgoodFall (q : Fin 4)
  /-- PGOOD_RISE (R54): A quadrant's PGOOD rises and barrier training of that quadrant begins. -/
  | pgoodRise (q : Fin 4)
  /-- BARRIER_TRAINED (R97): A quadrant's barrier channel completes training and BARRIER_UP rises. -/
  | barrierTrained (q : Fin 4)
  /-- DOWNSTREAM_SILENCE (R103): A quadrant that receives nothing on its downstream channel for 5 µs takes its safe actions. -/
  | downstreamSilence (q : Fin 4)
  /-- FLASH_DIRECTORY_READ_DONE (R126): The read of boot directory copy A, or of copy B, completes and is checked. -/
  | flashDirectoryReadDone (bytes : List Byte)
  /-- IMAGE_SECTION_CHECK (R807): A header, frame or section CRC of a boot or staged image arrives and checks 1 to 3 are decided on it. -/
  | imageSectionCheck (staged : Bool) (bytes : List Byte)
  /-- IMAGE_CHECKS_COMPLETE (R807): The rollback, signature and content checks of a fully received image complete. -/
  | imageChecksComplete (staged : Bool)
  /-- IMAGE_ACTIVATION (R134): The inactive bank holding a passing image is activated and the device enters HELD. -/
  | imageActivation
  /-- FLASH_TIMEOUT (R132): The flash returns no data within 10 ms of a read command and the source fails. -/
  | flashTimeout
  /-- LINK_BOOT_TIMEOUT (R136): No link-boot image has fully arrived 10 s after LOADING began, and link boot fails. -/
  | linkBootTimeout
  /-- BOOT_CTRL_LOAD (R138): The LOAD command in HELD begins a service load. -/
  | bootCtrlLoad (p : Path)
  /-- BOOT_CTRL_RELOAD_FLASH (R109): The RELOAD_FLASH command in HELD begins a load from the flash directory. -/
  | bootCtrlReloadFlash (p : Path)
  /-- BOOT_CTRL_RELEASE (R114): The RELEASE command moves the device from HELD to RUN and starts the schedule table and the lanes. -/
  | bootCtrlRelease (p : Path)
  /-- BOOT_CTRL_HOLD (R115): The HOLD command cancels all tickets, drives outputs to their clear codes and heads for HELD. -/
  | bootCtrlHold (p : Path)
  /-- HOLD_COMPLETE (R115): After the last CANCELLED record of a HOLD is handed over, the device enters HELD. -/
  | holdComplete
  /-- BOOT_CTRL_ABORT_LOAD (R139): The ABORT_LOAD command ends a service load as a failed source with reason STALLED. -/
  | bootCtrlAbortLoad (p : Path)
  /-- ALM_LOAD_DATA_WRITE (R138): A word of a service-load image is written and taken into the inactive bank. -/
  | almLoadDataWrite (p : Path) (w : Word)
  /-- SERVICE_LOAD_STALL (R139): No ALM_LOAD_DATA write arrives for 1 s and the service load fails as STALLED. -/
  | serviceLoadStall
  /-- FUSE_PROG_GO (R120): A fuse program request starts programming one user fuse bit. -/
  | fuseProgGo (p : Path) (bit : BitVec 12)
  /-- FUSE_PROG_DONE (R121): Fuse programming ends and the bit is updated in FUSE_SHADOW. -/
  | fuseProgDone (readBack : Bool)
  /-- JOURNAL_RECOVERY_END (R759): Vault journal recovery completes by the state of the descriptor in force and sets BOOT_STATUS JRNL. -/
  | journalRecoveryEnd
  /-- CCLK_SEL_WRITE (R161): A write that changes CCLK_SEL switches CCLK to REFCLK and reprograms the core PLL. -/
  | cclkSelWrite (p : Path) (w : Word)
  /-- CORE_PLL_LOCK (R163): The core PLL locks, CCLK switches in from the new output and SWITCHING clears. -/
  | corePllLock
  /-- CORE_PLL_UNLOCK (R168): The core PLL loses lock; CCLK falls back to REFCLK and re-lock begins. -/
  | corePllUnlock
  /-- MEAS_PLL_UNLOCK (R169): The measurement PLL loses lock and every integrating burst is voided. -/
  | measPllUnlock
  /-- MEAS_PLL_LOCK (R169): The measurement PLL locks again and lanes may start bursts. -/
  | measPllLock
  /-- REFCLK_LOSS (R170): With no REFCLK edge for 2 µs, the device enters SAFE and runs from the low-power oscillator. -/
  | refclkLoss
  /-- PD_CTRL_REDUCE_OFF (R172): Setting or clearing REDUCE_OFF turns PD2 off or on, unless a reducer is bound. -/
  | pdCtrlReduceOff (p : Path) (off : Bool)
  /-- PD_CTRL_LINK_OFF (R173): Setting or clearing LINK_OFF turns the link PHYs off or on, unless a link port is enabled. -/
  | pdCtrlLinkOff (p : Path) (off : Bool)
  /-- PD_CTRL_Q_OFF (R174): Setting a Q_OFF bit cancels the quadrant's tickets and turns off its rails; clearing it restores the quadrant. -/
  | pdCtrlQOff (p : Path) (q : Fin 4) (off : Bool)
  /-- SLEEP_ENTER (R176): SLEEP_CTRL ENTER starts the ordered entry to SLEEP. -/
  | sleepEnter (p : Path) (w : Word)
  /-- FREEZE_EDGE (R178): Once converting tickets complete and the last record is written, CCLK stops and the device enters SLEEP. -/
  | freezeEdge
  /-- WAKE_EVENT (R182): An enabled wake event arrives and starts the exit from SLEEP. -/
  | wakeEvent (ev : Fin 6)
  /-- LEDGER_ALARM (R182): The ledger reaches LEDGER_ALARM and raises the ALARM wake event. -/
  | ledgerAlarm
  /-- LEDGER_OVERFLOW (R180): The ledger reaches full scale, stops and sets LEDGER_OVF. -/
  | ledgerOverflow
  /-- RESUME_EDGE (R183): 250 µs after the wake event, CCLK resumes, the ledger stops and the device returns to RUN. -/
  | resumeEdge
  /-- LPO_MEASUREMENT (R181): Every 10 ms in RUN, the low-power oscillator period is measured into LPO_PERIOD. -/
  | lpoMeasurement (period : Word)
  /-- THERMAL_SAMPLE (R189): A die's thermal sensor is sampled and compared with its thresholds. -/
  | thermalSample (die : Fin 5) (temp : BitVec 24) (shutdown : Bool)
  /-- QRESUME (R193): A THERM_CTRL QRESUME write clears HOT_OFF for each named quadrant and returns it to service. -/
  | qresume (p : Path) (mask : BitVec 4)
  /-- STAGE_BEGIN (R221): STAGE_CTRL BEGIN discards any staged image and starts staging a new one. -/
  | stageBegin (p : Path)
  /-- STAGE_DISCARD (R225): STAGE_CTRL DISCARD returns STAGE_STATUS to EMPTY. -/
  | stageDiscard (p : Path)
  /-- STAGE_DATA_WRITE (R223): A word of a staged image is taken and checked as it arrives. -/
  | stageDataWrite (p : Path) (w : Word)
  /-- STAGE_READY (R224): The merge of a passing staged image into the other bank completes and STAGE_STATUS becomes READY. -/
  | stageReady
  /-- APPLY_ARM (R226): APPLY_CTRL ARM arms an apply with the selected trigger. -/
  | applyArm (p : Path) (w : Word)
  /-- APPLY_ABORT (R230): APPLY_CTRL ABORT ends an armed apply, or reports ALREADY_DONE when it comes at or after the trigger edge. -/
  | applyAbort (p : Path)
  /-- APPLY_TRIGGER (R232): On the trigger edge the apply is checked and, if accepted, the new generation comes into force. -/
  | applyTrigger
  /-- CONFIG_APPLIED_LANE (R241): After its last old-generation plate, a lane's CONFIG_APPLIED record is handed to the logbook writer. -/
  | configAppliedLane (n : Fin 32)
  /-- APPLY_CLOSE (R240): Once every lane has switched and every old plate is handed over, the mixed window closes and the final CONFIG_APPLIED is written. -/
  | applyClose
  /-- BURST_START (R255): The positive burst of an attempt starts once the connection, shutter, rest, pre-warm and PLL conditions all hold. -/
  | burstStart (n : Fin 32) (ilim : Bool)
  /-- GRID_START (R350): When the settle time expires, the lane clears its filters and starts the sample grid. -/
  | gridStart (n : Fin 32)
  /-- BURST_REVERSE (R256): Positive integration ends and the drive reverses to −LEVEL, starting the negative burst. -/
  | burstReverse (r : Reversal)
  /-- PAIR_END (R256): Negative integration ends, the drive goes to 0 V and the rest begins. -/
  | pairEnd (n : Fin 32) (m : PairMeans)
  /-- REST_EXPIRY (R260): The duty-cycle rest of a bridge expires. -/
  | restExpiry (b : Fin 2176)
  /-- PREWARM_PULSE_START (R265): A pre-warm pulse starts on the run-ahead ticket's port. -/
  | prewarmPulseStart (n : Fin 32) (ilim : Bool)
  /-- PREWARM_PULSE_END (R267): A pre-warm pulse completes its W ticks. -/
  | prewarmPulseEnd (p : Fin 136)
  /-- SHUT_PIN_CHANGE (R275): A SHUT pin level is accepted after 3 agreeing samples and its shutter line changes. -/
  | shutPinChange (k : Fin 8) (level : Bool)
  /-- SHUT_FORCE_WRITE (R274): A SHUT_FORCE write sets or clears the software source of shutter lines. -/
  | shutForceWrite (p : Path) (w : Word)
  /-- SHUT_TRIP_CLEAR (R274): Writing 1 to a SHUT_TRIP bit releases the trip source of that line. -/
  | shutTripClear (p : Path) (w : Word)
  /-- SHUT_WAIT_TIMEOUT (R283): A ticket waits SHUT_WAIT ms for its shutter lines and ends with a VOID plate carrying SHUT_TIMEOUT. -/
  | shutWaitTimeout (n : Fin 32)
  /-- TURRET_BREAK (R295): On modulator tick 0 of stage 4, the turret opens its old input and then closes the discharge short. -/
  | turretBreak (n : Fin 32)
  /-- TURRET_SHORT_OPEN (R295): After Dt ticks, or after the card sequence is confirmed, the discharge short opens. -/
  | turretShortOpen (n : Fin 32)
  /-- TURRET_MAKE (R295): The new input closes and stage 4 completes. -/
  | turretMake (n : Fin 32)
  /-- TURRET_OPEN_IDLE (R298): When a ticket leaves a lane whose queue is empty, the turret opens its input and breaks any card slot. -/
  | turretOpenIdle (n : Fin 32)
  /-- PORT_YIELD (R293): A lane holding an extension port that another lane waits for breaks the port and passes it on. -/
  | portYield (x : Fin 8)
  /-- TB_BREAK (R314): A BREAK frame makes the card open the slot, or every slot, with no reply. -/
  | tbBreak (x : Fin 8) (err : Word)
  /-- TB_DISCHARGE (R314): A DISCHARGE frame makes the card discharge the port lines for ARG µs, with no reply. -/
  | tbDischarge (x : Fin 8) (err : Word)
  /-- TB_MAKE (R314): A MAKE frame makes the card close all six switches of the slot, with no reply. -/
  | tbMake (x : Fin 8) (err : Word)
  /-- TB_QUERY (R314): A QUERY frame asks the card for its state, with the reply in slot n + 2. -/
  | tbQuery (x : Fin 8) (err : Word)
  /-- TB_ID (R314): An ID frame asks the card for one identification word, with the reply in slot n + 2. -/
  | tbId (x : Fin 8) (err : Word)
  /-- TB_BREAK_A (R314): A BREAK_A frame opens the slot and is acknowledged when complete. -/
  | tbBreakA (x : Fin 8) (err : Word)
  /-- TB_DISCHARGE_A (R314): A DISCHARGE_A frame discharges the port lines and is acknowledged when complete. -/
  | tbDischargeA (x : Fin 8) (err : Word)
  /-- TB_MAKE_A (R314): A MAKE_A frame makes the slot and is acknowledged when complete. -/
  | tbMakeA (x : Fin 8) (err : Word)
  /-- CARD_ACTION_COMPLETE (R316): A card completes a break, discharge or make and sends any reply it owes in the next eligible slot. -/
  | cardActionComplete (x : Fin 8) (c : Fin 4)
  /-- TB_REPLY (R330): A reply frame arrives on TDI and is accepted for the outstanding command or discarded. -/
  | tbReply (x : Fin 8) (frame : Word)
  /-- TB_REPLY_TIMEOUT (R331): A command gets no valid reply in time and the attempt fails and is retried. -/
  | tbReplyTimeout (x : Fin 8)
  /-- TB_PORT_RELEASE (R334): After the post-failure wait, the device releases the extension port. -/
  | tbPortRelease (x : Fin 8)
  /-- TB_TIMED_WAIT_END (R321): Under ACK_MODE 0, the timed wait for a card action expires and the next command may start. -/
  | tbTimedWaitEnd (x : Fin 8)
  /-- TB_BUS_RESET (R305): TSYNC held high for a bus reset makes every card open every slot. -/
  | tbBusReset (x : Fin 8)
  /-- CARD_CLOCK_LOSS (R318): A card sees no rising TCLK edge for 10 µs and opens every slot. -/
  | cardClockLoss (x : Fin 8) (c : Fin 4)
  /-- TB_CMD_PROBE (R323): TB_CMD PROBE probes a card address with ID requests. -/
  | tbCmdProbe (p : Path) (x : Fin 8) (c : Fin 4)
  /-- TB_CMD_QUERY (R336): TB_CMD QUERY sends a QUERY to a card and reports the result in TB_QUERY_RESULT. -/
  | tbCmdQuery (p : Path) (x : Fin 8) (c : Fin 4)
  /-- TB_CMD_BUS_RESET (R336): TB_CMD BUS_RESET sends a bus reset on the port. -/
  | tbCmdBusReset (p : Path) (x : Fin 8)
  /-- TB_CMD_CLR_CNT (R336): TB_CMD CLR_CNT clears TB_ERRORS. -/
  | tbCmdClrCnt (p : Path) (x : Fin 8)
  /-- SAMPLE_LEAVES_FILTER (R353): A decimated sample leaves the lane filter; it is discarded or integrated, and the last one fixes the plate. -/
  | sampleLeavesFilter (n : Fin 32) (m : SampleReading)
  /-- MODULATOR_RESET (R362): The modulator's overload detector fires and its loop integrators are cleared. -/
  | modulatorReset (n : Fin 32) (positive : Bool)
  /-- MODULATOR_RESET_END (R362): The 16-tick modulator reset ends. -/
  | modulatorResetEnd (n : Fin 32)
  /-- SUBMIT (R372): A SUBMIT request is checked and, if accepted, becomes a ticket in the pool. -/
  | submit (k : Fin 8)
  /-- CANCEL (R397): A CANCEL request cancels tickets by handle, bridge or tag. -/
  | cancel (k : Fin 8)
  /-- SLIP_RECORD_TIMER (R403): 10 ms after a lane's first unreported slip, a SLIP record is written. -/
  | slipRecordTimer (n : Fin 32)
  /-- TRANSIT_TRIGGER (R380): An armed TRANSIT ticket's axis reaches TRIG_AT and the ticket is queued. -/
  | transitTrigger (t : Fin 2048)
  /-- TICKET_EXPIRE (R383): An armed ticket's EXPIRE_MS elapses and it ends with a CANCELLED record of cause EXPIRED. -/
  | ticketExpire (t : Fin 2048)
  /-- RUN_AHEAD_ENTRY (R390): A lane's head ticket enters the run-ahead slot while another ticket converts. -/
  | runAheadEntry (n : Fin 32)
  /-- CACHE_FETCH_DONE (R432): A coefficient-line fetch from the vault completes. -/
  | cacheFetchDone (b : Fin 2176)
  /-- REDUCER_ENTRY (R414): A raw ratio enters its reducer, and its temperature sources are read. -/
  | reducerEntry (r : Fin 8)
  /-- REDUCED_VALUE_OUT (R415): 40 cycles after entry, the reduced value reaches the trip comparators and the output bindings. -/
  | reducedValueOut (r : Fin 8)
  /-- PLATE_HANDOVER (R415): The PLATE record is handed to the logbook writer. -/
  | plateHandover
  /-- RED_HOST_TEMP_WRITE (R421): A write to RED_HOST_TEMP sets the host temperature for ratios entering on later edges. -/
  | redHostTempWrite (p : Path) (r : Fin 8) (w : Word)
  /-- COLL_RUN_START (R440): The collimation engine starts a run on an eligible idle bridge and holds its port. -/
  | collRunStart (q : Fin 4) (b : Fin 2176)
  /-- COLL_STEP_END (R447): A collimation step of 10 tone cycles ends and its reading is taken. -/
  | collStepEnd (q : Fin 4) (reading : Word)
  /-- COLL_DECISION (R453): On the decision edge, the run's faults are found and a FAULT record is written if the mask changed. -/
  | collDecision (q : Fin 4)
  /-- COLL_CMD (R443): COLL_CMD GO asks for a run on a named bridge next. -/
  | collCmd (p : Path) (w : Word)
  /-- COLL_FAULTED_CLEAR (R457): Writing 1 to a COLL_FAULTED bit returns the bridge to service. -/
  | collFaultedClear (p : Path) (i : Fin 68) (w : Word)
  /-- ENCODER_EDGE (R476): An accepted AX_A or AX_B transition counts an encoder edge for its axis. -/
  | encoderEdge (a : Fin 8) (lineA lineB : Bool)
  /-- INDEX_EDGE (R478): An accepted AX_I rising edge acts as the index mode selects, possibly homing the axis. -/
  | indexEdge (a : Fin 8)
  /-- LINE_CROSSING (R472): A rising zero crossing on LINE_q is accepted as a line-sense axis edge. -/
  | lineCrossing (q : Fin 4) (age : Int)
  /-- AXIS_HOLD (R473): An edge-driven axis reaches its clamp short of the next edge and sets HOLD. -/
  | axisHold (a : Fin 8)
  /-- AXIS_STALL (R473): The awaited edge is later than the period plus STALL_TOL, and STALL is set. -/
  | axisStall (a : Fin 8)
  /-- AX_SET_COMMIT (R484): A committed AX_SET write moves the axis to the written stamp. -/
  | axSetCommit (p : Path) (a : Fin 8) (w : Word)
  /-- ENTRY_FIRE (R491): A due schedule entry fires its action and advances its due position, counting skips. -/
  | entryFire (i : Fin 512)
  /-- CHR_CMD_ARM (R504): CHR_CMD ARM arms a chronograph and restarts it at 0. -/
  | chrCmdArm (p : Path) (n : Fin 64)
  /-- CHR_ARM (R504): The commit of CHR_ARM arms every channel in its mask on one edge. -/
  | chrArm (p : Path) (w : Word)
  /-- CHR_CMD_STOP (R509): CHR_CMD STOP stops the counter at its present value. -/
  | chrCmdStop (p : Path) (n : Fin 64)
  /-- CHR_COUNT_LOAD (R506): A committed CHR_COUNT write loads the counter and re-evaluates the compare. -/
  | chrCountLoad (p : Path) (n : Fin 64) (w : Word)
  /-- CHR_TERM_WRITE (R508): A committed CHR_TERM write sets the terminal count and may stop a one-shot at once. -/
  | chrTermWrite (p : Path) (n : Fin 64) (w : Word)
  /-- CHR_COMPARE_WRITE (R526): A committed CHR_COMPARE write arms the compare, or marks it LATE. -/
  | chrCompareWrite (p : Path) (n : Fin 64) (w : Word)
  /-- CHR_TERMINAL (R507): A one-shot counter enters its terminal count, stops and sets DONE. -/
  | chrTerminal (n : Fin 64)
  /-- CHR_MATCH (R525): The counter counts into COMPARE and the compare event fires. -/
  | chrMatch (n : Fin 64)
  /-- CAP_LEVEL_ACCEPT (R513): A capture source's new level is accepted after FILTER agreeing samples and may form a capture event. -/
  | capLevelAccept (n : Fin 64) (level : Bool)
  /-- CHR_CAPTURE_LOW_READ (R532): A read of the low half of CHR_CAPTURE latches the high half and clears CAP_NEW. -/
  | chrCaptureLowRead (p : Path) (n : Fin 64)
  /-- OUT_VALUE_WRITE (R548): A committed OUT_VALUE write sets a direct channel's target. -/
  | outValueWrite (p : Path) (n : Fin 32) (w : Word)
  /-- OUT_QPUSH (R553): An OUT_QPUSH write appends a value to a queued channel's queue. -/
  | outQpush (p : Path) (n : Fin 32) (w : Word)
  /-- OUT_CMD_ABORT (R582): OUT_CMD ABORT discards a queued channel's entries, or reports ALREADY_DONE. -/
  | outCmdAbort (p : Path) (n : Fin 32)
  /-- OUT_CMD_RESUME (R578): OUT_CMD RESUME takes a channel out of FAULT, driving its clear code. -/
  | outCmdResume (p : Path) (n : Fin 32)
  /-- OUT_SAMPLE_EVENT (R555): A channel's sample clock fires and the head queue entry, or the pending bound value, becomes the target. -/
  | outSampleEvent (n : Fin 32)
  /-- RANGE_STAGE_OFF (R563): 50 µs into a range change, the stage turns off. -/
  | rangeStageOff (n : Fin 32)
  /-- RANGE_STAGE_ON (R563): At 150 µs, the stage turns on in the new range driving the new safe value. -/
  | rangeStageOn (n : Fin 32)
  /-- RANGE_DONE (R565): At 200 µs, the range change ends and the channel enters DRIVE or CLEAR. -/
  | rangeDone (n : Fin 32)
  /-- CLR_N_ASSERT (R569): CLR_N_q low asserts a clear and every channel of the quadrant goes to its clear value. -/
  | clrNAssert (q : Fin 4)
  /-- CLR_N_RELEASE (R571): When the last clear source releases, channels return to DRIVE holding their clear value. -/
  | clrNRelease (q : Fin 4)
  /-- OUT_QCLR_FORCE_WRITE (R567): An OUT_QCLR_FORCE write asserts or releases the software clear source of quadrants. -/
  | outQclrForceWrite (p : Path) (w : Word)
  /-- OUT_QCLR_TRIP_CLEAR (R571): Writing 1 to an OUT_QCLR_TRIP bit releases the trip clear source. -/
  | outQclrTripClear (p : Path) (w : Word)
  /-- OUT_FAULT_DETECT (R574): An output fault condition persists for its detection time; the flag is set and a protective fault enters FAULT. -/
  | outFaultDetect (n : Fin 32) (f : OutFault) (sense : Word)
  /-- OUT_FAULT_RELEASE (R574): A fault condition stays absent for its release time and its _NOW flag clears. -/
  | outFaultRelease (n : Fin 32) (f : OutFault)
  /-- TRIP_HELD_CLEAR (R599): Writing 1 to TRIP_HELD bits clears latched or remote trips and may release TRIP pins. -/
  | tripHeldClear (p : Path) (w : Word)
  /-- REGISTER_WRITE (R616): A write to a register that has no row of its own is checked and committed. -/
  | registerWrite (p : Path) (off : BitVec 22) (first : BitVec 4 × Word) (rest : List (BitVec 4 × Word))
  /-- HIGH_HALF_STAGE (R28): A write of the high word of a two-half register is staged in the path's staging word. -/
  | highHalfStage (p : Path) (off : BitVec 22) (w : Word)
  /-- RL_LOW_READ (R27): A read of the low half of an RL register latches its other half for that path. -/
  | rlLowRead (p : Path) (r : ReadRequest)
  /-- REJECT_LOG_WRITE (R622): A whole-word write of 1 to REJECT_LOG VALID clears the rejection log. -/
  | rejectLogWrite (p : Path) (w : Word)
  /-- BAR2_WRITE (R611): A write to BAR2 is discarded and logged with code STATE. -/
  | bar2Write (p : Path) (off : BitVec 20) (w : Word)
  /-- Q_CTRL_ENABLE (R628): Setting Q_CTRL EN enables a request queue and zeroes HEAD and TAIL. -/
  | qCtrlEnable (p : Path) (k : Fin 8) (w : Word)
  /-- Q_CTRL_DISABLE (R633): Clearing Q_CTRL EN stops a queue and discards its unprocessed fetched entries. -/
  | qCtrlDisable (p : Path) (k : Fin 8) (w : Word)
  /-- Q_DOORBELL (R629): A doorbell write sets TAIL, and the device starts fetching pending entries. -/
  | qDoorbell (p : Path) (k : Fin 8) (w : Word)
  /-- ENTRY_FETCH_DONE (R631): The DMA fetch of a request-queue entry completes and the entry awaits processing. -/
  | entryFetchDone (k : Fin 8) (bytes : List Byte)
  /-- QUEUE_FETCH_ERROR (R634): An entry fetch fails or times out; the queue is disabled and FETCH_ERR is set. -/
  | queueFetchError (k : Fin 8)
  /-- Q_HEAD_WRITEBACK (R632): The device writes HEAD to Q_HEAD_WB after processing advances. -/
  | qHeadWriteback (k : Fin 8)
  /-- NOP (R636): A NOP request writes a COMPLETION record carrying its TAG. -/
  | nop (k : Fin 8)
  /-- MARK (R639): A MARK request creates an epoch mark in the named logbooks. -/
  | mark (k : Fin 8)
  /-- REG_WRITE (R637): A REG_WRITE request commits a one- or two-half register write on its processing edge. -/
  | regWrite (k : Fin 8)
  /-- REG_READ (R638): A REG_READ request reads a register on its processing edge into its COMPLETION record. -/
  | regRead (k : Fin 8)
  /-- BAD_OPCODE (R636): An entry with an unknown opcode is rejected with BAD_OPCODE. -/
  | badOpcode (k : Fin 8)
  /-- FUNCTION_LEVEL_RESET (R608): A Function Level Reset acts as PERST_N low then high on the endpoint. -/
  | functionLevelReset
  /-- MSIX_SEND (R626): A pending MSI-X message is sent once memory writes are allowed and the vector is unmasked. -/
  | msixSend (v : Fin 64)
  /-- SPI_WRITE_INC (R647): A service-port WRITE_INC frame writes words at advancing addresses. -/
  | spiWriteInc (addr : BitVec 24) (words : List Word)
  /-- SPI_WRITE_FIX (R647): A service-port WRITE_FIX frame writes words to one address. -/
  | spiWriteFix (addr : BitVec 24) (words : List Word)
  /-- SPI_READ_INC (R646): A service-port READ_INC frame returns a ready token and words at advancing addresses. -/
  | spiReadInc (addr : BitVec 24) (count : Nat)
  /-- SPI_READ_FIX (R646): A service-port READ_FIX frame returns a ready token and words from one address. -/
  | spiReadFix (addr : BitVec 24) (count : Nat)
  /-- SPI_STATUS_CMD (R646): A service-port STATUS frame returns a ready token and SPI_STATUS. -/
  | spiStatusCmd
  /-- SPI_BAD_CMD (R645): A frame with an unknown command byte is ignored and sets BAD_CMD. -/
  | spiBadCmd (cmd : Byte)
  /-- SPI_CS_RISE (R647): SPI_CS_N rises, ending the frame; a cut word is discarded and a lone +0 word commits. -/
  | spiCsRise (cut : Bool)
  /-- RECORD_ADMIT (R660): A record handed to the logbook writer is admitted with the next sequence number and goes to the ring or the buffer. -/
  | recordAdmit
  /-- LB_HEAD_WRITE (R654): Software moves a logbook's HEAD, freeing ring slots. -/
  | lbHeadWrite (p : Path) (b : Fin 16) (w : Word)
  /-- LB_CTRL_ENABLE (R652): Setting LB_CTRL EN enables a logbook and zeroes its HEAD and TAIL. -/
  | lbCtrlEnable (p : Path) (b : Fin 16) (w : Word)
  /-- LOSS_RUN_CLOSE (R666): When room for two records returns, a LOST record closes the logbook's loss run. -/
  | lossRunClose (b : Fin 16)
  /-- MARK_ADMIT (R686): Once every before-set record is admitted, the MARK record is admitted and its held records follow. -/
  | markAdmit (b : Fin 16)
  /-- TAIL_WRITEBACK (R656): The device writes TAIL and the last sequence number to LB_TAIL_WB. -/
  | tailWriteback (b : Fin 16)
  /-- LB_MOD_TIMEOUT (R657): TIME µs pass after the first unsignalled record and the logbook's vector is signalled. -/
  | lbModTimeout (b : Fin 16)
  /-- LINK_PORT_UP (R694): A link port gains lock, alignment and a valid DELAY_RESP and becomes UP. -/
  | linkPortUp (e : LinkPort)
  /-- LINK_PORT_DOWN (R694): A link port goes DOWN; the ring opens and a RING_OPEN is broadcast. -/
  | linkPortDown (e : LinkPort) (cause : Fin 4)
  /-- URGENT_TRIGGER (R708): An accepted urgent TRIGGER frame triggers the matching LINK tickets. -/
  | urgentTrigger (e : LinkPort) (f : UrgentFrame)
  /-- URGENT_BLANK (R708): An accepted urgent BLANK frame sets the link source of a shutter line BLANK. -/
  | urgentBlank (e : LinkPort) (f : UrgentFrame)
  /-- URGENT_CLEAR (R708): An accepted urgent CLEAR frame sets the link source of a shutter line CLEAR. -/
  | urgentClear (e : LinkPort) (f : UrgentFrame)
  /-- URGENT_ISSUE (R708): An accepted urgent ISSUE frame at its target issues a template. -/
  | urgentIssue (e : LinkPort) (f : UrgentFrame)
  /-- URGENT_TRIP (R601): An accepted urgent TRIP frame sets REMOTE for the line when enabled. -/
  | urgentTrip (e : LinkPort) (f : UrgentFrame)
  /-- URGENT_WAKE (R708): An accepted urgent WAKE frame raises the LINK wake event. -/
  | urgentWake (e : LinkPort) (f : UrgentFrame)
  /-- BEACON (R713): A received beacon copy is adopted or forwarded, and ring time is corrected. -/
  | beacon (e : LinkPort) (f : BeaconFrame)
  /-- BEACON_SEND (R711): Every 10 µs, the timekeeper sends a beacon carrying its ring time. -/
  | beaconSend
  /-- BEACON_LOSS (R715): No beacon is adopted for 100 µs and ALIGNED clears. -/
  | beaconLoss
  /-- DELAY_REQ_SEND (R710): Every 100 µs, an UP port sends DELAY_REQ. -/
  | delayReqSend (e : LinkPort)
  /-- DELAY_REQ (R710): A received DELAY_REQ is answered with DELAY_RESP carrying TURN. -/
  | delayReq (e : LinkPort) (seq crc : Byte) (turn : Word)
  /-- DELAY_RESP (R710): A received DELAY_RESP updates the port's hop delay. -/
  | delayResp (e : LinkPort) (f : DelayRespFrame)
  /-- RRA_REQ (R728): A received remote register access request runs on the link path and is answered. -/
  | rraReq (e : LinkPort) (f : NormalFrame)
  /-- RRA_RESP (R731): A received remote access response completes the outstanding access. -/
  | rraResp (e : LinkPort) (f : NormalFrame)
  /-- MBOX (R725): A received mailbox message is logged and acknowledged. -/
  | mbox (e : LinkPort) (f : NormalFrame)
  /-- MBOX_ACK (R726): A received mailbox acknowledgement completes the send. -/
  | mboxAck (e : LinkPort) (f : NormalFrame)
  /-- BOOT_DATA (R732): A received link-boot frame is taken in offset order and checked. -/
  | bootData (e : LinkPort) (f : NormalFrame)
  /-- BOOT_ACK (R734): A received link-boot acknowledgement advances or ends the push. -/
  | bootAck (e : LinkPort) (f : NormalFrame)
  /-- ENUM (R721): A received ENUM frame assigns an ID to an unfused node and is forwarded. -/
  | enum (e : LinkPort) (f : NormalFrame)
  /-- CENSUS (R722): A received CENSUS frame is counted and forwarded, or returns to its starter. -/
  | census (e : LinkPort) (f : NormalFrame)
  /-- CENSUS_DONE (R722): A received CENSUS_DONE sets RING_CLOSED and the node count. -/
  | censusDone (e : LinkPort) (f : NormalFrame)
  /-- RING_OPEN (R723): A received RING_OPEN broadcast clears RING_CLOSED. -/
  | ringOpen (e : LinkPort) (f : NormalFrame)
  /-- LK_CMD_ENUMERATE (R720): LK_CMD ENUMERATE starts an enumeration from this node. -/
  | lkCmdEnumerate (p : Path)
  /-- LK_CMD_CENSUS (R722): LK_CMD CENSUS starts a census from this node. -/
  | lkCmdCensus (p : Path)
  /-- LK_CMD_WAKE (R708): LK_CMD WAKE sends an urgent WAKE to one node or to all. -/
  | lkCmdWake (p : Path) (all : Bool) (node : Byte)
  /-- LK_MBOX_SEND (R724): LK_MBOX_SEND GO sends a mailbox message. -/
  | lkMboxSend (p : Path) (bcast : Bool) (node : Byte)
  /-- LR_CMD_GO (R727): LR_CMD GO starts a remote register access. -/
  | lrCmdGo (p : Path) (twoHalf write : Bool) (node : Byte)
  /-- LK_BOOT_CTRL_BEGIN (R734): LK_BOOT_CTRL BEGIN starts pushing a boot image to a node. -/
  | lkBootCtrlBegin (p : Path) (node : Byte)
  /-- LK_BOOT_DATA_WRITE (R734): A LK_BOOT_DATA write adds image words to the outgoing boot frames. -/
  | lkBootDataWrite (p : Path) (w : Word)
  /-- LK_SHUT_LINK_CLEAR (R709): Writing 1 to a LK_SHUT_LINK bit sets the link source of that line CLEAR. -/
  | lkShutLinkClear (p : Path) (w : Word)
  /-- MBOX_RESEND_TIMEOUT (R726): A directed MBOX gets no acknowledgement in 20 µs and is resent or completes with NOT_PRESENT. -/
  | mboxResendTimeout
  /-- RRA_RETRY_TIMEOUT (R731): A remote access gets no valid response in 50 µs and is repeated or completes. -/
  | rraRetryTimeout
  /-- BOOT_RESEND_TIMEOUT (R734): A boot frame gets no acknowledgement in 20 µs and is resent or the push completes. -/
  | bootResendTimeout
  /-- ENUM_TIMEOUT (R722): An ENUM or CENSUS has not returned within 1 ms; the run ends and ENUM_FAIL is set. -/
  | enumTimeout
  /-- CENSUS_AUTO_START (R722): 1 ms after a port comes UP with the other port UP, a census starts. -/
  | censusAutoStart
  /-- VLT_OPEN (R745): VLT_CMD OPEN opens a vault transaction and writes an OPEN descriptor. -/
  | vltOpen (p : Path)
  /-- VLT_LOAD (R748): VLT_CMD LOAD fills the buffer from a page's slot or committed contents. -/
  | vltLoad (p : Path) (page : BitVec 12)
  /-- VLT_PUT (R750): VLT_CMD PUT writes a copy of the buffer into the page's slot. -/
  | vltPut (p : Path) (page : BitVec 12)
  /-- VLT_COMMIT (R753): VLT_CMD COMMIT starts writing the COMMITTED descriptor. -/
  | vltCommit (p : Path)
  /-- VLT_ABORT (R757): VLT_CMD ABORT discards an open transaction, or reports ALREADY_DONE. -/
  | vltAbort (p : Path)
  /-- VLT_BUF_WRITE (R749): A VLT_BUF write changes the transaction buffer. -/
  | vltBufWrite (p : Path) (i : Fin 64) (w : Word)
  /-- VAULT_PAGE_WRITE_DONE (R747): A journal, slot or home-page write, or a LOAD, completes and PAGE_BUSY clears. -/
  | vaultPageWriteDone
  /-- VAULT_COMMIT_POINT (R754): The COMMITTED descriptor write completes; the transaction is committed and copying begins. -/
  | vaultCommitPoint
  /-- VAULT_CLOSE (R753): After the copies, the CLOSED descriptor is written and PHASE returns to IDLE with DONE. -/
  | vaultClose
  /-- UPSTREAM_FRAME_FAIL (R777): An upstream barrier frame fails its check; its bursts are voided and counted. -/
  | upstreamFrameFail (q : Fin 4) (lanes : BitVec 8) (coll : Bool)
  /-- DOWNSTREAM_FRAME_FAIL (R778): A downstream barrier frame fails its check and is sent again. -/
  | downstreamFrameFail (q : Fin 4)
  /-- LINK_TRAINING_COMPLETE (R142): PCIe link training, started at PERST_N rise or at the end of FUSING, completes; from then the endpoint answers configuration requests with CRS while the boot LOADING lasts. -/
  | linkTrainingComplete
  /-- CRS_LIMIT (R143): 900 ms after link training completes, the endpoint stops returning CRS even if the device is still in LOADING. -/
  | crsLimit
  /-- CONFIGURATION_REQUEST (R144): A PCIe configuration request is answered with CRS, or completes and, as a write, assigns a BAR or changes Memory Space Enable, Bus Master Enable or the power state. -/
  | configurationRequest (r : CfgRequest)
  /-- CARD_POWER_LOSS (R318): An external switching card loses power and opens every slot within its BREAK_US. -/
  | cardPowerLoss (x : Fin 8) (c : Fin 4)
  deriving DecidableEq, Repr

end Sys2Proof
end

