-- ==== Sys2Proof/WellFormed.lean ====
section
/-! DEFINITION. Well-formed commands: what their operands can be on the hardware. The meanings are total and do not ask
for it. -/
namespace Sys2Proof

/-- The access path of a register command. -/
def Instr.path? : Instr → Option Path
  | .bootCtrlLoad p => some p
  | .bootCtrlReloadFlash p => some p
  | .bootCtrlRelease p => some p
  | .bootCtrlHold p => some p
  | .bootCtrlAbortLoad p => some p
  | .almLoadDataWrite p _ => some p
  | .fuseProgGo p _ => some p
  | .cclkSelWrite p _ => some p
  | .pdCtrlReduceOff p _ => some p
  | .pdCtrlLinkOff p _ => some p
  | .pdCtrlQOff p _ _ => some p
  | .sleepEnter p _ => some p
  | .qresume p _ => some p
  | .stageBegin p => some p
  | .stageDiscard p => some p
  | .stageDataWrite p _ => some p
  | .applyArm p _ => some p
  | .applyAbort p => some p
  | .shutForceWrite p _ => some p
  | .shutTripClear p _ => some p
  | .tbCmdProbe p _ _ => some p
  | .tbCmdQuery p _ _ => some p
  | .tbCmdBusReset p _ => some p
  | .tbCmdClrCnt p _ => some p
  | .redHostTempWrite p _ _ => some p
  | .collCmd p _ => some p
  | .collFaultedClear p _ _ => some p
  | .axSetCommit p _ _ => some p
  | .chrCmdArm p _ => some p
  | .chrArm p _ => some p
  | .chrCmdStop p _ => some p
  | .chrCountLoad p _ _ => some p
  | .chrTermWrite p _ _ => some p
  | .chrCompareWrite p _ _ => some p
  | .chrCaptureLowRead p _ => some p
  | .outValueWrite p _ _ => some p
  | .outQpush p _ _ => some p
  | .outCmdAbort p _ => some p
  | .outCmdResume p _ => some p
  | .outQclrForceWrite p _ => some p
  | .outQclrTripClear p _ => some p
  | .tripHeldClear p _ => some p
  | .registerWrite p _ _ _ => some p
  | .highHalfStage p _ _ => some p
  | .rlLowRead p _ => some p
  | .rejectLogWrite p _ => some p
  | .bar2Write p _ _ => some p
  | .qCtrlEnable p _ _ => some p
  | .qCtrlDisable p _ _ => some p
  | .qDoorbell p _ _ => some p
  | .lbHeadWrite p _ _ => some p
  | .lbCtrlEnable p _ _ => some p
  | .lkCmdEnumerate p => some p
  | .lkCmdCensus p => some p
  | .lkCmdWake p _ _ => some p
  | .lkMboxSend p _ _ => some p
  | .lrCmdGo p _ _ _ => some p
  | .lkBootCtrlBegin p _ => some p
  | .lkBootDataWrite p _ => some p
  | .lkShutLinkClear p _ => some p
  | .vltOpen p => some p
  | .vltLoad p _ => some p
  | .vltPut p _ => some p
  | .vltCommit p => some p
  | .vltAbort p => some p
  | .vltBufWrite p _ _ => some p
  | _ => none

/-- A path that carries register accesses by itself; a request queue reaches registers through its REG_WRITE and REG_READ
entries only (R637). -/
def Path.direct : Path → Bool
  | .queue _ => false
  | _ => true

/-- The operands beside the path: an entry and a directory copy are 64 bytes (R627, Table 3.4), a check of a staged
image brings no bytes, measured means have a denominator, requests of several words and byte enables exist on PCIe only (R612,
R613), BAR2 spans 1 MiB (R611), and no die shuts down below 127 °C (R191). -/
def Instr.operandsOk : Instr → Bool
  | .entryFetchDone _ bytes => decide (bytes.length = 64)
  | .flashDirectoryReadDone bytes => decide (bytes.length = 64)
  | .imageSectionCheck staged bytes => !staged || decide (bytes = [])
  | .pairEnd _ m => decide (0 < m.den)
  | .thermalSample _ t shutdown => !shutdown || decide (127 * 65536 ≤ t.toInt)
  | .registerWrite p _ first rest => decide (p = .pcie) || (decide (first.1 = 15) && decide (rest = []))
  | .rlLowRead p r =>
    decide (0 < r.words) && (decide (p = .pcie) || decide (r.words = 1)) && (!r.bar2 || decide (r.off.toNat < 0x100000))
  | _ => true

/-- A command that the hardware can meet. -/
def Instr.wf (i : Instr) : Bool := i.path?.all Path.direct && i.operandsOk

end Sys2Proof
end

