-- ==== Sys2Proof/Decode.lean ====
section
/-! DEFINITION. The command that a word of the opcode table spells: none, since no row of spec/opcode_table.json has
bits. -/
namespace Sys2Proof

/-- The command of a table word. -/
def decodeTableWord (_nbits _w : Nat) : Option Instr := none

end Sys2Proof
end

