-- ==== Sys2Proof/Config.lean ====
section
/-! DEFINITION. What one part fixes and the manual leaves open, and the free values. Every constant here is opaque: no
proof can see what it is, so a claim that holds, holds whatever it is. -/
namespace Sys2Proof

/-- A fresh free value for each number, taken with the counter `free` of the state (log entry 2). -/
opaque Config.freeWord : Nat → BitVec 64

/-- Whether the synchronised sample of a CAP_CMP pin that the device drives shows a change 3 edges after it, and not 2 (R513, log
entry 125): the same for every change of the pin, so that a level held for so many periods shows in as many samples (R514). -/
opaque Config.pinLate : Nat → Bool

/-- The phase that the common modulator source takes to τ when the measurement PLL locks for the n-th time, in units of 2^-16 ns,
read modulo one period: R806 leaves it open (log entry 123). -/
opaque Config.modPhase : Nat → Nat

/-- The trimmed zero and step of an output channel for a range and a REFGAIN, as the fuses give them (R545): Z is
`zero / den` and L is `(step + 1) / den` in units of the physical value. -/
structure OutTrim where
  zero : Int
  step : Nat
  den : Nat
  deriving DecidableEq, Repr, Inhabited

/-- The trims of channel `n` in range `range` with REFGAIN `refGain`, read from the fuse shadow (log entry 12). The
layout of the TRIM words is not given (Table 3.13). -/
opaque Config.outTrim (shadow : BitVec 4096) (n range refGain : Nat) : OutTrim

end Sys2Proof
end

