-- ==== Sys2Proof/Machine/Bits.lean ====
section
/-! DEFINITION. Bit fields, byte order, rounding, saturation and the wide formats of 02_number_formats.md, and the CRCs
of the fuses, the almanac, the turret bus and the link. -/
namespace Sys2Proof.Machine

/-! ### Fields of a word -/

/-- Bits [lo+len-1:lo] of a word as a number (R10). -/
def fld (w : Word) (lo len : Nat) : Nat := w.toNat / 2 ^ lo % 2 ^ len

/-- Bit `i` of a word. -/
def bit (w : Word) (i : Nat) : Bool := w.getLsbD i

/-- A word with only bit `i` set, when `b`. -/
def mkBit (b : Bool) (i : Nat) : Word := if b then (1 : Word) <<< i else 0

/-- The value `v` placed at bit `lo` of a word. -/
def at_ (v lo : Nat) : Word := BitVec.ofNat 32 (v * 2 ^ lo)

/-- The word with bits [lo+len-1:lo] replaced by `v`. -/
def setFld (w : Word) (lo len v : Nat) : Word :=
  (w &&& ~~~(at_ (2 ^ len - 1) lo)) ||| at_ (v % 2 ^ len) lo

/-- Adds `k` to a word, saturating at 0xFFFF_FFFF. -/
def satAdd (w : Word) (k : Nat) : Word := BitVec.ofNat 32 (min (w.toNat + k) 0xFFFFFFFF)

/-- Adds `k` to the field [lo+len-1:lo], saturating at its largest value. -/
def satFld (w : Word) (lo len k : Nat) : Word := setFld w lo len (min (fld w lo len + k) (2 ^ len - 1))

/-! ### Bytes (R11) -/

/-- The number that little-endian bytes hold. -/
def leNat : List Byte → Nat
  | [] => 0
  | b :: bs => b.toNat + 256 * leNat bs

/-- The number that big-endian bytes hold. -/
def beNat (bs : List Byte) : Nat := bs.foldl (fun n b => n * 256 + b.toNat) 0

/-- The `k` little-endian bytes of a number. -/
def leBytes : Nat → Nat → List Byte
  | 0, _ => []
  | k + 1, n => BitVec.ofNat 8 n :: leBytes k (n / 256)

/-- The little-endian number of the `k` bytes at offset `off`. -/
def field (bs : List Byte) (off k : Nat) : Nat := leNat ((bs.drop off).take k)

/-- The little-endian word of four bytes at offset `off`. -/
def wordAt (bs : List Byte) (off : Nat) : Word := BitVec.ofNat 32 (field bs off 4)

/-- The bytes of words, each little-endian. -/
def wordsToBytes (ws : List Word) : List Byte := ws.flatMap (fun w => leBytes 4 w.toNat)

/-- Whether every byte is 0. -/
def allZero (bs : List Byte) : Bool := bs.all (· == 0)

/-! ### Signed numbers -/

/-- The two's-complement reading of the low `n` bits of `v`. -/
def signedOf (n v : Nat) : Int :=
  let u := v % 2 ^ n
  if u < 2 ^ (n - 1) then (u : Int) else (u : Int) - (2 ^ n : Nat)

/-- The two's-complement code of `i` in `n` bits. -/
def codeOf (n : Nat) (i : Int) : Nat := (i % ((2 ^ n : Nat) : Int)).toNat

/-! ### Rounding (R9, R81) -/

/-- `num / den` rounded half to even; 0 when `den` is 0. -/
def roundDiv (num : Int) (den : Nat) : Int :=
  if den = 0 then 0
  else
    let q := num / (den : Int)
    let r := (num % (den : Int)).toNat
    if 2 * r < den then q
    else if den < 2 * r then q + 1
    else if q % 2 = 0 then q else q + 1

/-- `⌈num / den⌉` on naturals. -/
def ceilDiv (num den : Nat) : Nat := (num + den - 1) / den

/-! ### Ratio words and reduced values (R56 to R61, R69, R71) -/

/-- VOID (Table 2.1). -/
def voidRatio : Ratio := 0x8000000000#40

/-- Positive saturation (Table 2.1). -/
def ratioMax : Int := 2 ^ 39 - 1

/-- A rounded result delivered with the saturation of R60: never VOID (R59). -/
def satRatio (v : Int) : Ratio :=
  if ratioMax < v then 0x7FFFFFFFFF#40
  else if v < -ratioMax then 0x8000000001#40
  else BitVec.ofInt 40 v

/-- Whether satRatio saturated. -/
def ratioSaturates (v : Int) : Bool := decide (ratioMax < v) || decide (v < -ratioMax)

/-- The low host word of a 40-bit value (Table 2.3). -/
def ratioLo (r : Ratio) : Word := r.setWidth 32

/-- The high host word of a 40-bit value: bits [39:32] with copies of bit 39 (Table 2.3). -/
def ratioHi (r : Ratio) : Word := BitVec.ofInt 32 (r.toInt / 2 ^ 32)

/-! ### Transit stamps (R62 to R68) -/

/-- The low host word of a 48-bit value. -/
def lo48 (s : W48) : Word := s.setWidth 32

/-- Bits [47:32] of a 48-bit value, in bits [15:0] of the high host word. -/
def hi48 (s : W48) : Word := (s >>> 32).setWidth 32

/-- The 48-bit value of two host words: the low word and bits [15:0] of the high word. -/
def of48 (lo hi : Word) : W48 := BitVec.ofNat 48 (lo.toNat + hi.toNat % 2 ^ 16 * 2 ^ 32)

/-- b stands at or later than a in the order of R65. -/
def atOrLater (b a : W48) : Bool := decide ((b - a).toNat < 2 ^ 47)

/-- b is later than a in the order of R65. -/
def laterThan (b a : W48) : Bool := atOrLater b a && b != a

/-- A stamp of 48 bits from an integer count of phase units (R64). -/
def stampOfInt (i : Int) : W48 := BitVec.ofInt 48 i

/-! ### Temperature words (R76, R77, R85) -/

/-- NO_TEMP as its 24-bit code. -/
def noTemp : BitVec 24 := 0x800000#24

/-- A temperature as the register file and records show it: bits [31:24] copy bit 23 (R85). -/
def tempWord (t : BitVec 24) : Word := t.signExtend 32

/-- Whether a 32-bit word is a temperature word with right copy bits (R85, R86). -/
def tempWordOk (w : Word) : Bool := decide ((w.setWidth 24).signExtend 32 = w)

/-- A rounded temperature delivered with the saturation of R77. -/
def satTemp (v : Int) : BitVec 24 :=
  if 2 ^ 23 - 1 < v then 0x7FFFFF#24
  else if v < -(2 ^ 23 - 1) then 0x800001#24
  else BitVec.ofInt 24 v

/-! ### Sparse tables of plain data

A table lists the entries that differ from the default `d` of its use, by number, in rising order. -/

/-- Entry `i` of a table. -/
def tget (d : α) : List (Nat × α) → Nat → α
  | [], _ => d
  | (k, x) :: t, i => if k = i then x else tget d t i

/-- Puts an entry before the first greater number. -/
def tins (i : Nat) (x : α) : List (Nat × α) → List (Nat × α)
  | [] => [(i, x)]
  | (k, y) :: t => if i < k then (i, x) :: (k, y) :: t else (k, y) :: tins i x t

/-- A table without entry `i`. -/
def tdel (t : List (Nat × α)) (i : Nat) : List (Nat × α) := t.filter (fun e => e.1 ≠ i)

/-- A table with entry `i` set to `x`; the default is not listed. -/
def tset [DecidableEq α] (d : α) (t : List (Nat × α)) (i : Nat) (x : α) : List (Nat × α) :=
  if x = d then tdel t i else tins i x (tdel t i)

/-! ### CRCs -/

/-- One bit into a CRC register of `n` bits, most significant bit first. -/
def crcBit (n poly : Nat) (r : Nat) (b : Bool) : Nat :=
  let top := decide (r / 2 ^ (n - 1) % 2 = 1)
  let r' := r * 2 % 2 ^ n
  if top != b then r' ^^^ poly else r'

/-- The bits of a byte, most significant first. -/
def byteBits (b : Byte) : List Bool := [7, 6, 5, 4, 3, 2, 1, 0].map (fun i => b.getLsbD i)

/-- A CRC without reflection over bits in the order given. -/
def crcOver (n poly init : Nat) (bs : List Bool) : Nat := bs.foldl (crcBit n poly) init

/-- One bit into a reflected 32-bit CRC register. -/
def crc32Bit (r : BitVec 32) : Nat → BitVec 32
  | 0 => r
  | k + 1 => crc32Bit (if r.getLsbD 0 then (r >>> 1) ^^^ 0xEDB88320#32 else r >>> 1) k

/-- One byte into the CRC-32 register. -/
def crc32Byte (r : BitVec 32) (b : Byte) : BitVec 32 := crc32Bit (r ^^^ b.setWidth 32) 8

/-- The CRC-32 register over bytes, from an arbitrary register: it can be taken up again as bytes arrive. -/
def crc32Run (r : BitVec 32) (bs : List Byte) : BitVec 32 := bs.foldl crc32Byte r

/-- CRC-32 with the IEEE polynomial: reflected, initial value and final exclusive-or 0xFFFF_FFFF (R200). -/
def crc32 (bs : List Byte) : Word := crc32Run 0xFFFFFFFF#32 bs ^^^ 0xFFFFFFFF#32

/-- The CRC-5 of a turret-bus frame over its bits 31 to 5: polynomial x^5 + x^2 + 1, register from 0b11111 (R311). -/
def crc5 (frame : Word) : Nat :=
  crcOver 5 0b00101 0b11111 ((List.range 27).map (fun i => frame.getLsbD (31 - i)))

end Sys2Proof.Machine
end

