-- ==== Sys2Proof/Machine/Regs.lean ====
section
/-! DEFINITION. The register map of BAR0 (21_register_index.md, R796 to R801): every register of Tables 21.3 to 21.19
by name, its offset, its access, its reset word, its reserved bits, and the register that stands at an offset. -/
namespace Sys2Proof.Machine

/-- The registers of BAR0, by the names of Tables 21.3 to 21.19; instances carry their number (R798). -/
inductive Reg where
  | id
  | caps0
  | caps1
  | quadStatus
  | devState
  | rejectLog
  | rejectOffset
  | rejectValue
  | rejectValueHi
  | hostIntCtrl
  | spiStatus
  | bootStatus
  | bootCtrl
  | bootTime
  | almLoadLen
  | almLoadData
  | fuseProgCtrl
  | fuseProgStatus
  | almGen
  | stageCtrl
  | stageLen
  | stageData
  | stageStatus
  | applyCtrl
  | applyAt
  | applyStatus
  | laneGen (w : Fin 8)
  | fuseShadow (w : Fin 128)
  | lbBuf
  | schedCtrl
  | poolStatus
  | poolReserve
  | poolRejects
  | poolHwm
  | schedStatus
  | collCtrl
  | collAbandon
  | collCmd
  | collFaulted (w : Fin 68)
  | shutCfg
  | shutState
  | shutTrip
  | shutForce
  | cacheStatus
  | cacheFills
  | cacheWaits
  | outQclrForce
  | outQclrTrip
  | outQclrState
  | chrArm
  | tripCfg
  | tripHeld
  | tripRx
  | tripPins
  | ephCtrl
  | ephStatus
  | ephSkips
  | ephFires
  | lkCtrl
  | lkStatus
  | lkCmd
  | lkRing
  | lkRx
  | lkShutLink
  | lkRtime
  | lkCorr
  | lkUrgDrop
  | lkPortDelay (w : Fin 2)
  | lkPortErr (w : Fin 2)
  | lkMboxData
  | lkMboxSend
  | lkMboxStatus
  | lrOffset
  | lrKey
  | lrData
  | lrCmd
  | lrStatus
  | lkRkey
  | lkBootLen
  | lkBootCtrl
  | lkBootData
  | lkBootStatus
  | clkCtrl
  | clkStatus
  | sysLog
  | pdCtrl
  | pdStatus
  | sleepCtrl
  | wakeStatus
  | ledger
  | ledgerAlarm
  | lpoPeriod
  | thermCtrl
  | thermStatus
  | thermWarn (w : Fin 5)
  | thermTemp (w : Fin 5)
  | barrierErr (w : Fin 4)
  | vltCmd
  | vltStatus
  | vltCtrl
  | vltJseq
  | vltCommits
  | vltBuf (w : Fin 64)
  | qCtrl (k : Fin 8)
  | qBase (k : Fin 8)
  | qHeadWb (k : Fin 8)
  | qDoorbell (k : Fin 8)
  | qStatus (k : Fin 8)
  | qCount (k : Fin 8)
  | lbCtrl (b : Fin 16)
  | lbBase (b : Fin 16)
  | lbTailWb (b : Fin 16)
  | lbHead (b : Fin 16)
  | lbTail (b : Fin 16)
  | lbMod (b : Fin 16)
  | lbStatus (b : Fin 16)
  | lbDrops (b : Fin 16)
  | lbSeq (b : Fin 16)
  | lqLimit (n : Fin 32)
  | lqStatus (n : Fin 32)
  | slipTotal (n : Fin 32)
  | raHandle (n : Fin 32)
  | template (k : Fin 256) (w : Fin 16)
  | laneStatus (n : Fin 32)
  | laneSample (n : Fin 32)
  | laneResult (n : Fin 32)
  | laneLineN (n : Fin 32)
  | laneOvrCnt (n : Fin 32)
  | turStatus (n : Fin 32)
  | portCtrl (n : Fin 128)
  | portStatus (n : Fin 128)
  | portRbridge (n : Fin 128)
  | portIexc (n : Fin 128)
  | collPeriod (q : Fin 4)
  | collStatus (q : Fin 4)
  | collArm (q : Fin 4) (w : Fin 4)
  | collLoopP (q : Fin 4)
  | collLoopN (q : Fin 4)
  | collLeak (q : Fin 4)
  | collRuns (q : Fin 4)
  | xportCtrl (x : Fin 8)
  | xportStatus (x : Fin 8)
  | xportRbridge (x : Fin 8)
  | xportIexc (x : Fin 8)
  | xportBridge (x : Fin 8)
  | tbCtrl (x : Fin 8)
  | tbTimeout (x : Fin 8)
  | tbStatus (x : Fin 8)
  | tbErrors (x : Fin 8)
  | tbQueryResult (x : Fin 8)
  | tbCmd (x : Fin 8)
  | cardInfo (x : Fin 8) (w : Fin 4)
  | redCtrl (r : Fin 8)
  | redHostTemp (r : Fin 8)
  | redFlags (r : Fin 8)
  | redEvals (r : Fin 8)
  | redLastValue (r : Fin 8)
  | redLastTemp (r : Fin 8)
  | redLastSrc (r : Fin 8)
  | outCtrl (n : Fin 32)
  | outStatus (n : Fin 32)
  | outValue (n : Fin 32)
  | outQpush (n : Fin 32)
  | outCmd (n : Fin 32)
  | outTarget (n : Fin 32)
  | outCode (n : Fin 32)
  | outSense (n : Fin 32)
  | outUnderruns (n : Fin 32)
  | outCfg (n : Fin 32)
  | chrCtrl (n : Fin 64)
  | chrStatus (n : Fin 64)
  | chrCount (n : Fin 64)
  | chrCapture (n : Fin 64)
  | chrCompare (n : Fin 64)
  | chrCmpPeriod (n : Fin 64)
  | chrTerm (n : Fin 64)
  | chrIssue (n : Fin 64)
  | chrCmd (n : Fin 64)
  | chrCfg (n : Fin 64)
  | cmpStatus (i : Fin 64)
  | cmpTrips (i : Fin 64)
  | cmpLast (i : Fin 64)
  | axCtrl (a : Fin 8)
  | axStatus (a : Fin 8)
  | axPos (a : Fin 8)
  | axPeriod (a : Fin 8)
  | axEdge (a : Fin 8)
  | axSet (a : Fin 8)
  | ephDue (i : Fin 512)
  | ephEstate (i : Fin 512)
  | ephEfires (i : Fin 512)
  deriving DecidableEq, Repr

/-- The offset of a register's (low) word in BAR0 (Tables 21.2 to 21.19). -/
def Reg.offset : Reg → Nat
  | .id => 0x0
  | .caps0 => 0x4
  | .caps1 => 0x8
  | .quadStatus => 0xC
  | .devState => 0x10
  | .rejectLog => 0x40
  | .rejectOffset => 0x44
  | .rejectValue => 0x48
  | .rejectValueHi => 0x4C
  | .hostIntCtrl => 0x50
  | .spiStatus => 0x54
  | .bootStatus => 0x10000
  | .bootCtrl => 0x10004
  | .bootTime => 0x10008
  | .almLoadLen => 0x1000C
  | .almLoadData => 0x10010
  | .fuseProgCtrl => 0x10020
  | .fuseProgStatus => 0x10024
  | .almGen => 0x10040
  | .stageCtrl => 0x10044
  | .stageLen => 0x10048
  | .stageData => 0x1004C
  | .stageStatus => 0x10050
  | .applyCtrl => 0x10054
  | .applyAt => 0x10058
  | .applyStatus => 0x10060
  | .laneGen w => 0x10070 + 4 * w.val
  | .fuseShadow w => 0x10100 + 4 * w.val
  | .lbBuf => 0x21800
  | .schedCtrl => 0x24000
  | .poolStatus => 0x24004
  | .poolReserve => 0x24008
  | .poolRejects => 0x2400C
  | .poolHwm => 0x24010
  | .schedStatus => 0x24014
  | .collCtrl => 0x1E0000
  | .collAbandon => 0x1E0004
  | .collCmd => 0x1E0008
  | .collFaulted w => 0x1E1000 + 4 * w.val
  | .shutCfg => 0x1F0000
  | .shutState => 0x1F0004
  | .shutTrip => 0x1F0008
  | .shutForce => 0x1F000C
  | .cacheStatus => 0x241000
  | .cacheFills => 0x241004
  | .cacheWaits => 0x241008
  | .outQclrForce => 0x288000
  | .outQclrTrip => 0x288004
  | .outQclrState => 0x288008
  | .chrArm => 0x2C1000
  | .tripCfg => 0x2E0000
  | .tripHeld => 0x2E0004
  | .tripRx => 0x2E0008
  | .tripPins => 0x2E000C
  | .ephCtrl => 0x300000
  | .ephStatus => 0x300004
  | .ephSkips => 0x300008
  | .ephFires => 0x30000C
  | .lkCtrl => 0x340000
  | .lkStatus => 0x340004
  | .lkCmd => 0x340008
  | .lkRing => 0x34000C
  | .lkRx => 0x340010
  | .lkShutLink => 0x340014
  | .lkRtime => 0x340018
  | .lkCorr => 0x340020
  | .lkUrgDrop => 0x340024
  | .lkPortDelay w => 0x340028 + 4 * w.val
  | .lkPortErr w => 0x340030 + 4 * w.val
  | .lkMboxData => 0x340040
  | .lkMboxSend => 0x340048
  | .lkMboxStatus => 0x34004C
  | .lrOffset => 0x340050
  | .lrKey => 0x340054
  | .lrData => 0x340058
  | .lrCmd => 0x340060
  | .lrStatus => 0x340064
  | .lkRkey => 0x340068
  | .lkBootLen => 0x340070
  | .lkBootCtrl => 0x340074
  | .lkBootData => 0x340078
  | .lkBootStatus => 0x34007C
  | .clkCtrl => 0x380000
  | .clkStatus => 0x380004
  | .sysLog => 0x380008
  | .pdCtrl => 0x380010
  | .pdStatus => 0x380014
  | .sleepCtrl => 0x380020
  | .wakeStatus => 0x380024
  | .ledger => 0x380028
  | .ledgerAlarm => 0x380030
  | .lpoPeriod => 0x380038
  | .thermCtrl => 0x380040
  | .thermStatus => 0x380044
  | .thermWarn w => 0x380050 + 4 * w.val
  | .thermTemp w => 0x380070 + 4 * w.val
  | .barrierErr w => 0x380100 + 4 * w.val
  | .vltCmd => 0x3C0000
  | .vltStatus => 0x3C0004
  | .vltCtrl => 0x3C0008
  | .vltJseq => 0x3C000C
  | .vltCommits => 0x3C0010
  | .vltBuf w => 0x3C0100 + 4 * w.val
  | .qCtrl k => 0x20000 + 0x40 * k.val
  | .qBase k => 0x20008 + 0x40 * k.val
  | .qHeadWb k => 0x20010 + 0x40 * k.val
  | .qDoorbell k => 0x20018 + 0x40 * k.val
  | .qStatus k => 0x2001C + 0x40 * k.val
  | .qCount k => 0x20020 + 0x40 * k.val
  | .lbCtrl b => 0x21000 + 0x40 * b.val
  | .lbBase b => 0x21008 + 0x40 * b.val
  | .lbTailWb b => 0x21010 + 0x40 * b.val
  | .lbHead b => 0x21018 + 0x40 * b.val
  | .lbTail b => 0x2101C + 0x40 * b.val
  | .lbMod b => 0x21020 + 0x40 * b.val
  | .lbStatus b => 0x21024 + 0x40 * b.val
  | .lbDrops b => 0x21028 + 0x40 * b.val
  | .lbSeq b => 0x2102C + 0x40 * b.val
  | .lqLimit n => 0x24100 + 0x10 * n.val
  | .lqStatus n => 0x24104 + 0x10 * n.val
  | .slipTotal n => 0x24108 + 0x10 * n.val
  | .raHandle n => 0x2410C + 0x10 * n.val
  | .template k w => 0x28000 + 0x40 * k.val + 4 * w.val
  | .laneStatus n => 0x100000 + 0x1000 * n.val
  | .laneSample n => 0x100008 + 0x1000 * n.val
  | .laneResult n => 0x100010 + 0x1000 * n.val
  | .laneLineN n => 0x100018 + 0x1000 * n.val
  | .laneOvrCnt n => 0x10001C + 0x1000 * n.val
  | .turStatus n => 0x100800 + 0x1000 * n.val
  | .portCtrl n => 0x180000 + 0x400 * n.val
  | .portStatus n => 0x180004 + 0x400 * n.val
  | .portRbridge n => 0x180008 + 0x400 * n.val
  | .portIexc n => 0x18000C + 0x400 * n.val
  | .collPeriod q => 0x1E0100 + 0x100 * q.val
  | .collStatus q => 0x1E0104 + 0x100 * q.val
  | .collArm q w => 0x1E0110 + 0x100 * q.val + 4 * w.val
  | .collLoopP q => 0x1E0120 + 0x100 * q.val
  | .collLoopN q => 0x1E0124 + 0x100 * q.val
  | .collLeak q => 0x1E0128 + 0x100 * q.val
  | .collRuns q => 0x1E012C + 0x100 * q.val
  | .xportCtrl x => 0x200000 + 0x1000 * x.val
  | .xportStatus x => 0x200004 + 0x1000 * x.val
  | .xportRbridge x => 0x200008 + 0x1000 * x.val
  | .xportIexc x => 0x20000C + 0x1000 * x.val
  | .xportBridge x => 0x200010 + 0x1000 * x.val
  | .tbCtrl x => 0x200100 + 0x1000 * x.val
  | .tbTimeout x => 0x200104 + 0x1000 * x.val
  | .tbStatus x => 0x200108 + 0x1000 * x.val
  | .tbErrors x => 0x20010C + 0x1000 * x.val
  | .tbQueryResult x => 0x200110 + 0x1000 * x.val
  | .tbCmd x => 0x200114 + 0x1000 * x.val
  | .cardInfo x w => 0x200120 + 0x1000 * x.val + 4 * w.val
  | .redCtrl r => 0x240000 + 0x100 * r.val
  | .redHostTemp r => 0x240004 + 0x100 * r.val
  | .redFlags r => 0x240008 + 0x100 * r.val
  | .redEvals r => 0x24000C + 0x100 * r.val
  | .redLastValue r => 0x240010 + 0x100 * r.val
  | .redLastTemp r => 0x240018 + 0x100 * r.val
  | .redLastSrc r => 0x24001C + 0x100 * r.val
  | .outCtrl n => 0x280000 + 0x100 * n.val
  | .outStatus n => 0x280004 + 0x100 * n.val
  | .outValue n => 0x280008 + 0x100 * n.val
  | .outQpush n => 0x28000C + 0x100 * n.val
  | .outCmd n => 0x280010 + 0x100 * n.val
  | .outTarget n => 0x280014 + 0x100 * n.val
  | .outCode n => 0x280018 + 0x100 * n.val
  | .outSense n => 0x28001C + 0x100 * n.val
  | .outUnderruns n => 0x280020 + 0x100 * n.val
  | .outCfg n => 0x280024 + 0x100 * n.val
  | .chrCtrl n => 0x2C0000 + 0x40 * n.val
  | .chrStatus n => 0x2C0004 + 0x40 * n.val
  | .chrCount n => 0x2C0008 + 0x40 * n.val
  | .chrCapture n => 0x2C0010 + 0x40 * n.val
  | .chrCompare n => 0x2C0018 + 0x40 * n.val
  | .chrCmpPeriod n => 0x2C0020 + 0x40 * n.val
  | .chrTerm n => 0x2C0028 + 0x40 * n.val
  | .chrIssue n => 0x2C0030 + 0x40 * n.val
  | .chrCmd n => 0x2C0034 + 0x40 * n.val
  | .chrCfg n => 0x2C0038 + 0x40 * n.val
  | .cmpStatus i => 0x2E0100 + 0x10 * i.val
  | .cmpTrips i => 0x2E0104 + 0x10 * i.val
  | .cmpLast i => 0x2E0108 + 0x10 * i.val
  | .axCtrl a => 0x300100 + 0x20 * a.val
  | .axStatus a => 0x300104 + 0x20 * a.val
  | .axPos a => 0x300108 + 0x20 * a.val
  | .axPeriod a => 0x300110 + 0x20 * a.val
  | .axEdge a => 0x300114 + 0x20 * a.val
  | .axSet a => 0x300118 + 0x20 * a.val
  | .ephDue i => 0x301000 + 0x10 * i.val
  | .ephEstate i => 0x301008 + 0x10 * i.val
  | .ephEfires i => 0x30100C + 0x10 * i.val

/-- How a register answers a write (Table 0.4): every bit RO (the write is ignored, R805), an RL register no half of
which is writable (STATE), or a register with some RW, WO or W1C field. -/
inductive Access where
  | ro
  | rl
  | rw
  | wo
  deriving DecidableEq, Repr

/-- The access of a register (Tables 21.3 to 21.19). A register of RO and W1C fields counts as rw (R805). -/
def Reg.access : Reg → Access
  | .rejectLog => .rw
  | .hostIntCtrl => .rw
  | .bootStatus => .rw
  | .bootCtrl => .wo
  | .almLoadLen => .rw
  | .almLoadData => .wo
  | .fuseProgCtrl => .wo
  | .fuseProgStatus => .rw
  | .stageCtrl => .wo
  | .stageLen => .rw
  | .stageData => .wo
  | .applyCtrl => .wo
  | .applyAt => .rw
  | .applyStatus => .rw
  | .schedCtrl => .rw
  | .poolReserve => .rw
  | .poolHwm => .rw
  | .schedStatus => .rw
  | .collCtrl => .rw
  | .collCmd => .wo
  | .collFaulted _ => .rw
  | .shutCfg => .rw
  | .shutTrip => .rw
  | .shutForce => .rw
  | .outQclrForce => .rw
  | .outQclrTrip => .rw
  | .chrArm => .wo
  | .tripCfg => .rw
  | .tripHeld => .rw
  | .tripRx => .rw
  | .ephCtrl => .rw
  | .ephStatus => .rw
  | .lkCtrl => .rw
  | .lkStatus => .rw
  | .lkCmd => .wo
  | .lkRx => .rw
  | .lkShutLink => .rw
  | .lkRtime => .rl
  | .lkMboxData => .rw
  | .lkMboxSend => .wo
  | .lkMboxStatus => .rw
  | .lrOffset => .rw
  | .lrKey => .rw
  | .lrData => .rw
  | .lrCmd => .wo
  | .lrStatus => .rw
  | .lkRkey => .wo
  | .lkBootLen => .rw
  | .lkBootCtrl => .wo
  | .lkBootData => .wo
  | .clkCtrl => .rw
  | .clkStatus => .rw
  | .sysLog => .rw
  | .pdCtrl => .rw
  | .sleepCtrl => .rw
  | .wakeStatus => .rw
  | .ledger => .rl
  | .ledgerAlarm => .rw
  | .thermCtrl => .wo
  | .thermWarn _ => .rw
  | .vltCmd => .wo
  | .vltStatus => .rw
  | .vltCtrl => .rw
  | .vltBuf _ => .rw
  | .qCtrl _ => .rw
  | .qBase _ => .rw
  | .qHeadWb _ => .rw
  | .qDoorbell _ => .wo
  | .qStatus _ => .rw
  | .lbCtrl _ => .rw
  | .lbBase _ => .rw
  | .lbTailWb _ => .rw
  | .lbHead _ => .rw
  | .lbMod _ => .rw
  | .lbStatus _ => .rw
  | .lqLimit _ => .rw
  | .template _ _ => .rw
  | .laneStatus _ => .rw
  | .laneSample _ => .rl
  | .laneResult _ => .rl
  | .laneOvrCnt _ => .rw
  | .portCtrl _ => .rw
  | .portStatus _ => .rw
  | .collPeriod _ => .rw
  | .xportCtrl _ => .rw
  | .xportStatus _ => .rw
  | .tbCtrl _ => .rw
  | .tbTimeout _ => .rw
  | .tbStatus _ => .rw
  | .tbCmd _ => .wo
  | .redCtrl _ => .rw
  | .redHostTemp _ => .rw
  | .redFlags _ => .rw
  | .redLastValue _ => .rl
  | .outCtrl _ => .rw
  | .outStatus _ => .rw
  | .outValue _ => .rw
  | .outQpush _ => .wo
  | .outCmd _ => .wo
  | .chrCtrl _ => .rw
  | .chrStatus _ => .rw
  | .chrCount _ => .rw
  | .chrCapture _ => .rl
  | .chrCompare _ => .rw
  | .chrCmpPeriod _ => .rw
  | .chrTerm _ => .rw
  | .chrIssue _ => .rw
  | .chrCmd _ => .wo
  | .cmpStatus _ => .rw
  | .cmpLast _ => .rl
  | .axCtrl _ => .rw
  | .axStatus _ => .rw
  | .axPos _ => .rl
  | .axSet _ => .rw
  | .ephDue _ => .rl
  | _ => .ro

/-- Whether a register has two halves (R84). -/
def Reg.wide : Reg → Bool
  | .applyAt => true
  | .chrArm => true
  | .lkRtime => true
  | .lkMboxData => true
  | .lrData => true
  | .ledger => true
  | .ledgerAlarm => true
  | .qBase _ => true
  | .qHeadWb _ => true
  | .lbBase _ => true
  | .lbTailWb _ => true
  | .laneSample _ => true
  | .laneResult _ => true
  | .redLastValue _ => true
  | .chrCount _ => true
  | .chrCapture _ => true
  | .chrCompare _ => true
  | .chrCmpPeriod _ => true
  | .chrTerm _ => true
  | .cmpLast _ => true
  | .axPos _ => true
  | .axSet _ => true
  | .ephDue _ => true
  | _ => false

/-- Whether a register's reads latch its other half (code RL of Table 0.4). -/
def Reg.isRL : Reg → Bool
  | .lkRtime => true
  | .ledger => true
  | .laneSample _ => true
  | .laneResult _ => true
  | .redLastValue _ => true
  | .chrCount _ => true
  | .chrCapture _ => true
  | .cmpLast _ => true
  | .axPos _ => true
  | .ephDue _ => true
  | _ => false

/-- The reset value of a register's (low) word (R799); 0 for a WO register. Fields loaded in FUSING or kept in AON are
0 here, as the tables show them. -/
def Reg.resetLo : Reg → Word
  | .id => 0x2176C000
  | .caps0 => 0x10080820
  | .caps1 => 0x40080800
  | .quadStatus => 0xF
  | .devState => 0x1
  | .poolReserve => 0x40
  | .collCtrl => 0x100
  | .lkRing => 0xFF00
  | .lkPortDelay _ => 0xFFFFFFFF
  | .clkStatus => 0x3
  | .sleepCtrl => 0x100
  | .lpoPeriod => 0x3E80000
  | .thermWarn _ => 0x6E0000
  | .thermTemp _ => 0xFF800000
  | .vltStatus => 0x10000000
  | .qCtrl _ => 0x4
  | .lbCtrl _ => 0x6
  | .lbMod _ => 0x1
  | .lqLimit _ => 0x40
  | .turStatus _ => 0xFFF0000
  | .portRbridge _ => 0xFFFFFFFF
  | .collPeriod _ => 0x3E8
  | .collArm _ _ => 0xFFFFFFFF
  | .collLoopP _ => 0xFFFFFFFF
  | .collLoopN _ => 0xFFFFFFFF
  | .collLeak _ => 0xFFFFFFFF
  | .xportRbridge _ => 0xFFFFFFFF
  | .tbCtrl _ => 0x201
  | .tbTimeout _ => 0x3E8
  | .redHostTemp _ => 0xFF800000
  | .redLastTemp _ => 0xFF800000
  | .outCtrl _ => 0x80
  | .chrTerm _ => 0xFFFFFFFF
  | .axCtrl _ => 0x1000
  | .axPeriod _ => 0xFFFFFFFF
  | _ => 0x0

/-- The reset value of the high word of a two-half register, in the layout of Table 2.3. That of AX_POS is the stamp's alone, with 0
for the axis identifier of R498 (log entry 131). -/
def Reg.resetHi : Reg → Word
  | .laneSample _ => 0xFFFFFF80
  | .laneResult _ => 0xFFFFFF80
  | .redLastValue _ => 0xFFFFFF80
  | .chrTerm _ => 0xFFFF
  | .cmpLast _ => 0xFFFFFF80
  | _ => 0x0

/-- The reserved bits of a register's (low) word whose access is RW or WO: a write that sets one is rejected with
RESERVED_SET (R14). Reserved fields whose access is RO are ignored (R805). -/
def Reg.reservedLo : Reg → Word
  | .hostIntCtrl => 0xFFFFC0FE
  | .bootCtrl => 0xFFFFFFE0
  | .fuseProgCtrl => 0x7FFFF000
  | .stageCtrl => 0xFFFFFFFC
  | .applyCtrl => 0xFFFF0880
  | .schedCtrl => 0xFFFFFFE0
  | .poolReserve => 0xFFFFF000
  | .poolHwm => 0xFFFFF000
  | .collCtrl => 0xFFFF0CF0
  | .collCmd => 0x7FFFF000
  | .shutCfg => 0xFFFF0000
  | .shutForce => 0xFFFFFF00
  | .outQclrForce => 0xFFFFFFF0
  | .tripCfg => 0x7FF0000
  | .tripRx => 0xFFFFFF00
  | .ephCtrl => 0xFFFFFFFE
  | .lkCtrl => 0x7FFFFFF
  | .lkCmd => 0xFFF8FE00
  | .lkRx => 0xFFFFFF00
  | .lkMboxSend => 0x7FFEFF00
  | .lrOffset => 0x7FC00000
  | .lrCmd => 0x7FFCFF00
  | .lkBootCtrl => 0x7FFFFF00
  | .clkCtrl => 0xFFFFFFFC
  | .sysLog => 0x7FFFFFF0
  | .pdCtrl => 0xFFFFFFC0
  | .sleepCtrl => 0xFFFFC0E0
  | .thermCtrl => 0xFFFFFFF0
  | .vltCmd => 0xF000FFE0
  | .vltCtrl => 0xFFFFC0FE
  | .qCtrl _ => 0x7FF0C070
  | .qDoorbell _ => 0xFFFFF000
  | .lbCtrl _ => 0x3FC0C060
  | .lbHead _ => 0xFFFF0000
  | .lqLimit _ => 0xFFFFF000
  | .laneOvrCnt _ => 0xFFFF0000
  | .portCtrl _ => 0xFF00
  | .collPeriod _ => 0xFFFF0000
  | .xportCtrl _ => 0xFF00
  | .tbCtrl _ => 0xFFFF00FE
  | .tbTimeout _ => 0xFFFF0000
  | .tbCmd _ => 0xFFFFFFC0
  | .redCtrl _ => 0xFFFF0000
  | .outCtrl _ => 0x1FFF07C
  | .outCmd _ => 0xFFFFFFFC
  | .chrCtrl _ => 0x370FC7F
  | .chrIssue _ => 0xFFFFFC00
  | .chrCmd _ => 0xFFFFFFFC
  | .axCtrl _ => 0xFFFC00FF
  | _ => 0x0

/-- The reserved bits of the high word of a writable two-half register (R14). -/
def Reg.reservedHi : Reg → Word
  | .applyAt => 0xFFFF0000
  | .ledgerAlarm => 0xFFFF0000
  | .chrCount _ => 0xFFFF0000
  | .chrCompare _ => 0xFFFF0000
  | .chrCmpPeriod _ => 0xFFFF0000
  | .chrTerm _ => 0xFFFF0000
  | .axSet _ => 0xFFFF0000
  | _ => 0x0

/-- The W1C bits of a register: each 1 written clears the bit (Table 0.4). -/
def Reg.w1c : Reg → Word
  | .rejectLog => 0x80000000
  | .bootStatus => 0x100
  | .fuseProgStatus => 0x6
  | .applyStatus => 0x3000000
  | .schedStatus => 0x100
  | .collFaulted _ => 0xFFFFFFFF
  | .shutTrip => 0xFF
  | .outQclrTrip => 0xF
  | .tripHeld => 0xFFFF
  | .ephStatus => 0x30000
  | .lkStatus => 0x1F0000
  | .lkShutLink => 0xFF
  | .lkMboxStatus => 0x40000000
  | .lrStatus => 0x40000000
  | .clkStatus => 0x600
  | .wakeStatus => 0x13F
  | .vltStatus => 0x3
  | .qStatus _ => 0x40000000
  | .lbStatus _ => 0x30000000
  | .laneStatus _ => 0xC00
  | .portStatus _ => 0x300
  | .xportStatus _ => 0x300
  | .tbStatus _ => 0x3000000
  | .redFlags _ => 0xF
  | .outStatus _ => 0xFE
  | .chrStatus _ => 0xFFE0
  | .cmpStatus _ => 0x1
  | .axStatus _ => 0xF0000
  | _ => 0x0

/-- The number `i` as an instance number below `n`, when it is one (R798). -/
def instanceOf (n i : Nat) (f : Fin n → α) : Option α :=
  if h : i < n then some (f ⟨i, h⟩) else none

/-- The register at offset `o` of block queue number `k`, and whether it is the high half. -/
def queueBlock (k : Fin 8) : Nat → Option (Reg × Bool)
  | 0x0 => some (.qCtrl k, false)
  | 0x8 => some (.qBase k, false)
  | 0xC => some (.qBase k, true)
  | 0x10 => some (.qHeadWb k, false)
  | 0x14 => some (.qHeadWb k, true)
  | 0x18 => some (.qDoorbell k, false)
  | 0x1C => some (.qStatus k, false)
  | 0x20 => some (.qCount k, false)
  | _ => none

/-- The register at offset `o` of block logbook number `b`, and whether it is the high half. -/
def logbookBlock (b : Fin 16) : Nat → Option (Reg × Bool)
  | 0x0 => some (.lbCtrl b, false)
  | 0x8 => some (.lbBase b, false)
  | 0xC => some (.lbBase b, true)
  | 0x10 => some (.lbTailWb b, false)
  | 0x14 => some (.lbTailWb b, true)
  | 0x18 => some (.lbHead b, false)
  | 0x1C => some (.lbTail b, false)
  | 0x20 => some (.lbMod b, false)
  | 0x24 => some (.lbStatus b, false)
  | 0x28 => some (.lbDrops b, false)
  | 0x2C => some (.lbSeq b, false)
  | _ => none

/-- The register at offset `o` of block laneQueue number `n`, and whether it is the high half. -/
def laneQueueBlock (n : Fin 32) : Nat → Option (Reg × Bool)
  | 0x0 => some (.lqLimit n, false)
  | 0x4 => some (.lqStatus n, false)
  | 0x8 => some (.slipTotal n, false)
  | 0xC => some (.raHandle n, false)
  | _ => none

/-- The register at offset `o` of block lane number `n`, and whether it is the high half. -/
def laneBlock (n : Fin 32) : Nat → Option (Reg × Bool)
  | 0x0 => some (.laneStatus n, false)
  | 0x8 => some (.laneSample n, false)
  | 0xC => some (.laneSample n, true)
  | 0x10 => some (.laneResult n, false)
  | 0x14 => some (.laneResult n, true)
  | 0x18 => some (.laneLineN n, false)
  | 0x1C => some (.laneOvrCnt n, false)
  | 0x800 => some (.turStatus n, false)
  | _ => none

/-- The register at offset `o` of block port number `n`, and whether it is the high half. -/
def portBlock (n : Fin 128) : Nat → Option (Reg × Bool)
  | 0x0 => some (.portCtrl n, false)
  | 0x4 => some (.portStatus n, false)
  | 0x8 => some (.portRbridge n, false)
  | 0xC => some (.portIexc n, false)
  | _ => none

/-- The register at offset `o` of block coll number `q`, and whether it is the high half. -/
def collBlock (q : Fin 4) : Nat → Option (Reg × Bool)
  | 0x0 => some (.collPeriod q, false)
  | 0x4 => some (.collStatus q, false)
  | 0x10 => some (.collArm q 0, false)
  | 0x14 => some (.collArm q 1, false)
  | 0x18 => some (.collArm q 2, false)
  | 0x1C => some (.collArm q 3, false)
  | 0x20 => some (.collLoopP q, false)
  | 0x24 => some (.collLoopN q, false)
  | 0x28 => some (.collLeak q, false)
  | 0x2C => some (.collRuns q, false)
  | _ => none

/-- The register at offset `o` of block xport number `x`, and whether it is the high half. -/
def xportBlock (x : Fin 8) : Nat → Option (Reg × Bool)
  | 0x0 => some (.xportCtrl x, false)
  | 0x4 => some (.xportStatus x, false)
  | 0x8 => some (.xportRbridge x, false)
  | 0xC => some (.xportIexc x, false)
  | 0x10 => some (.xportBridge x, false)
  | 0x100 => some (.tbCtrl x, false)
  | 0x104 => some (.tbTimeout x, false)
  | 0x108 => some (.tbStatus x, false)
  | 0x10C => some (.tbErrors x, false)
  | 0x110 => some (.tbQueryResult x, false)
  | 0x114 => some (.tbCmd x, false)
  | 0x120 => some (.cardInfo x 0, false)
  | 0x124 => some (.cardInfo x 1, false)
  | 0x128 => some (.cardInfo x 2, false)
  | 0x12C => some (.cardInfo x 3, false)
  | _ => none

/-- The register at offset `o` of block reducer number `r`, and whether it is the high half. -/
def reducerBlock (r : Fin 8) : Nat → Option (Reg × Bool)
  | 0x0 => some (.redCtrl r, false)
  | 0x4 => some (.redHostTemp r, false)
  | 0x8 => some (.redFlags r, false)
  | 0xC => some (.redEvals r, false)
  | 0x10 => some (.redLastValue r, false)
  | 0x14 => some (.redLastValue r, true)
  | 0x18 => some (.redLastTemp r, false)
  | 0x1C => some (.redLastSrc r, false)
  | _ => none

/-- The register at offset `o` of block output number `n`, and whether it is the high half. -/
def outputBlock (n : Fin 32) : Nat → Option (Reg × Bool)
  | 0x0 => some (.outCtrl n, false)
  | 0x4 => some (.outStatus n, false)
  | 0x8 => some (.outValue n, false)
  | 0xC => some (.outQpush n, false)
  | 0x10 => some (.outCmd n, false)
  | 0x14 => some (.outTarget n, false)
  | 0x18 => some (.outCode n, false)
  | 0x1C => some (.outSense n, false)
  | 0x20 => some (.outUnderruns n, false)
  | 0x24 => some (.outCfg n, false)
  | _ => none

/-- The register at offset `o` of block chrono number `n`, and whether it is the high half. -/
def chronoBlock (n : Fin 64) : Nat → Option (Reg × Bool)
  | 0x0 => some (.chrCtrl n, false)
  | 0x4 => some (.chrStatus n, false)
  | 0x8 => some (.chrCount n, false)
  | 0xC => some (.chrCount n, true)
  | 0x10 => some (.chrCapture n, false)
  | 0x14 => some (.chrCapture n, true)
  | 0x18 => some (.chrCompare n, false)
  | 0x1C => some (.chrCompare n, true)
  | 0x20 => some (.chrCmpPeriod n, false)
  | 0x24 => some (.chrCmpPeriod n, true)
  | 0x28 => some (.chrTerm n, false)
  | 0x2C => some (.chrTerm n, true)
  | 0x30 => some (.chrIssue n, false)
  | 0x34 => some (.chrCmd n, false)
  | 0x38 => some (.chrCfg n, false)
  | _ => none

/-- The register at offset `o` of block comparator number `i`, and whether it is the high half. -/
def comparatorBlock (i : Fin 64) : Nat → Option (Reg × Bool)
  | 0x0 => some (.cmpStatus i, false)
  | 0x4 => some (.cmpTrips i, false)
  | 0x8 => some (.cmpLast i, false)
  | 0xC => some (.cmpLast i, true)
  | _ => none

/-- The register at offset `o` of block axis number `a`, and whether it is the high half. -/
def axisBlock (a : Fin 8) : Nat → Option (Reg × Bool)
  | 0x0 => some (.axCtrl a, false)
  | 0x4 => some (.axStatus a, false)
  | 0x8 => some (.axPos a, false)
  | 0xC => some (.axPos a, true)
  | 0x10 => some (.axPeriod a, false)
  | 0x14 => some (.axEdge a, false)
  | 0x18 => some (.axSet a, false)
  | 0x1C => some (.axSet a, true)
  | _ => none

/-- The register at offset `o` of block schedEntry number `i`, and whether it is the high half. -/
def schedEntryBlock (i : Fin 512) : Nat → Option (Reg × Bool)
  | 0x0 => some (.ephDue i, false)
  | 0x4 => some (.ephDue i, true)
  | 0x8 => some (.ephEstate i, false)
  | 0xC => some (.ephEfires i, false)
  | _ => none

/-- The registers that exist once, and the word arrays that carry their own index formula (R799). -/
def singleReg (off : Nat) : Option (Reg × Bool) :=
  if 0x10070 ≤ off ∧ off < 0x10090 then (if off % 4 = 0 then instanceOf 8 ((off - 0x10070) / 4) (fun i => (.laneGen i, false)) else none) else
  if 0x10100 ≤ off ∧ off < 0x10300 then (if off % 4 = 0 then instanceOf 128 ((off - 0x10100) / 4) (fun i => (.fuseShadow i, false)) else none) else
  if 0x1E1000 ≤ off ∧ off < 0x1E1110 then (if off % 4 = 0 then instanceOf 68 ((off - 0x1E1000) / 4) (fun i => (.collFaulted i, false)) else none) else
  if 0x340028 ≤ off ∧ off < 0x340030 then (if off % 4 = 0 then instanceOf 2 ((off - 0x340028) / 4) (fun i => (.lkPortDelay i, false)) else none) else
  if 0x340030 ≤ off ∧ off < 0x340038 then (if off % 4 = 0 then instanceOf 2 ((off - 0x340030) / 4) (fun i => (.lkPortErr i, false)) else none) else
  if 0x380050 ≤ off ∧ off < 0x380064 then (if off % 4 = 0 then instanceOf 5 ((off - 0x380050) / 4) (fun i => (.thermWarn i, false)) else none) else
  if 0x380070 ≤ off ∧ off < 0x380084 then (if off % 4 = 0 then instanceOf 5 ((off - 0x380070) / 4) (fun i => (.thermTemp i, false)) else none) else
  if 0x380100 ≤ off ∧ off < 0x380110 then (if off % 4 = 0 then instanceOf 4 ((off - 0x380100) / 4) (fun i => (.barrierErr i, false)) else none) else
  if 0x3C0100 ≤ off ∧ off < 0x3C0200 then (if off % 4 = 0 then instanceOf 64 ((off - 0x3C0100) / 4) (fun i => (.vltBuf i, false)) else none) else
  match off with
  | 0x0 => some (.id, false)
  | 0x4 => some (.caps0, false)
  | 0x8 => some (.caps1, false)
  | 0xC => some (.quadStatus, false)
  | 0x10 => some (.devState, false)
  | 0x40 => some (.rejectLog, false)
  | 0x44 => some (.rejectOffset, false)
  | 0x48 => some (.rejectValue, false)
  | 0x4C => some (.rejectValueHi, false)
  | 0x50 => some (.hostIntCtrl, false)
  | 0x54 => some (.spiStatus, false)
  | 0x10000 => some (.bootStatus, false)
  | 0x10004 => some (.bootCtrl, false)
  | 0x10008 => some (.bootTime, false)
  | 0x1000C => some (.almLoadLen, false)
  | 0x10010 => some (.almLoadData, false)
  | 0x10020 => some (.fuseProgCtrl, false)
  | 0x10024 => some (.fuseProgStatus, false)
  | 0x10040 => some (.almGen, false)
  | 0x10044 => some (.stageCtrl, false)
  | 0x10048 => some (.stageLen, false)
  | 0x1004C => some (.stageData, false)
  | 0x10050 => some (.stageStatus, false)
  | 0x10054 => some (.applyCtrl, false)
  | 0x10058 => some (.applyAt, false)
  | 0x1005C => some (.applyAt, true)
  | 0x10060 => some (.applyStatus, false)
  | 0x21800 => some (.lbBuf, false)
  | 0x24000 => some (.schedCtrl, false)
  | 0x24004 => some (.poolStatus, false)
  | 0x24008 => some (.poolReserve, false)
  | 0x2400C => some (.poolRejects, false)
  | 0x24010 => some (.poolHwm, false)
  | 0x24014 => some (.schedStatus, false)
  | 0x1E0000 => some (.collCtrl, false)
  | 0x1E0004 => some (.collAbandon, false)
  | 0x1E0008 => some (.collCmd, false)
  | 0x1F0000 => some (.shutCfg, false)
  | 0x1F0004 => some (.shutState, false)
  | 0x1F0008 => some (.shutTrip, false)
  | 0x1F000C => some (.shutForce, false)
  | 0x241000 => some (.cacheStatus, false)
  | 0x241004 => some (.cacheFills, false)
  | 0x241008 => some (.cacheWaits, false)
  | 0x288000 => some (.outQclrForce, false)
  | 0x288004 => some (.outQclrTrip, false)
  | 0x288008 => some (.outQclrState, false)
  | 0x2C1000 => some (.chrArm, false)
  | 0x2C1004 => some (.chrArm, true)
  | 0x2E0000 => some (.tripCfg, false)
  | 0x2E0004 => some (.tripHeld, false)
  | 0x2E0008 => some (.tripRx, false)
  | 0x2E000C => some (.tripPins, false)
  | 0x300000 => some (.ephCtrl, false)
  | 0x300004 => some (.ephStatus, false)
  | 0x300008 => some (.ephSkips, false)
  | 0x30000C => some (.ephFires, false)
  | 0x340000 => some (.lkCtrl, false)
  | 0x340004 => some (.lkStatus, false)
  | 0x340008 => some (.lkCmd, false)
  | 0x34000C => some (.lkRing, false)
  | 0x340010 => some (.lkRx, false)
  | 0x340014 => some (.lkShutLink, false)
  | 0x340018 => some (.lkRtime, false)
  | 0x34001C => some (.lkRtime, true)
  | 0x340020 => some (.lkCorr, false)
  | 0x340024 => some (.lkUrgDrop, false)
  | 0x340040 => some (.lkMboxData, false)
  | 0x340044 => some (.lkMboxData, true)
  | 0x340048 => some (.lkMboxSend, false)
  | 0x34004C => some (.lkMboxStatus, false)
  | 0x340050 => some (.lrOffset, false)
  | 0x340054 => some (.lrKey, false)
  | 0x340058 => some (.lrData, false)
  | 0x34005C => some (.lrData, true)
  | 0x340060 => some (.lrCmd, false)
  | 0x340064 => some (.lrStatus, false)
  | 0x340068 => some (.lkRkey, false)
  | 0x340070 => some (.lkBootLen, false)
  | 0x340074 => some (.lkBootCtrl, false)
  | 0x340078 => some (.lkBootData, false)
  | 0x34007C => some (.lkBootStatus, false)
  | 0x380000 => some (.clkCtrl, false)
  | 0x380004 => some (.clkStatus, false)
  | 0x380008 => some (.sysLog, false)
  | 0x380010 => some (.pdCtrl, false)
  | 0x380014 => some (.pdStatus, false)
  | 0x380020 => some (.sleepCtrl, false)
  | 0x380024 => some (.wakeStatus, false)
  | 0x380028 => some (.ledger, false)
  | 0x38002C => some (.ledger, true)
  | 0x380030 => some (.ledgerAlarm, false)
  | 0x380034 => some (.ledgerAlarm, true)
  | 0x380038 => some (.lpoPeriod, false)
  | 0x380040 => some (.thermCtrl, false)
  | 0x380044 => some (.thermStatus, false)
  | 0x3C0000 => some (.vltCmd, false)
  | 0x3C0004 => some (.vltStatus, false)
  | 0x3C0008 => some (.vltCtrl, false)
  | 0x3C000C => some (.vltJseq, false)
  | 0x3C0010 => some (.vltCommits, false)
  | _ => none

/-- The register whose word stands at BAR0 offset `off`, and whether it is its high half; none where no register is
(R796, R798). -/
def Reg.ofOffset (off : Nat) : Option (Reg × Bool) :=
  if 0x20000 ≤ off ∧ off < 0x20200 then
    (instanceOf 8 ((off - 0x20000) / 0x40) (fun k => queueBlock k ((off - 0x20000) % 0x40))).join else
  if 0x21000 ≤ off ∧ off < 0x21400 then
    (instanceOf 16 ((off - 0x21000) / 0x40) (fun b => logbookBlock b ((off - 0x21000) % 0x40))).join else
  if 0x24100 ≤ off ∧ off < 0x24300 then
    (instanceOf 32 ((off - 0x24100) / 0x10) (fun n => laneQueueBlock n ((off - 0x24100) % 0x10))).join else
  if 0x28000 ≤ off ∧ off < 0x2C000 then
    (if off % 4 = 0 then (instanceOf 256 ((off - 0x28000) / 0x40) (fun k => (instanceOf 16 ((off - 0x28000) % 0x40 / 4) (fun w => (Reg.template k w, false))))).join else none) else
  if 0x100000 ≤ off ∧ off < 0x120000 then
    (instanceOf 32 ((off - 0x100000) / 0x1000) (fun n => laneBlock n ((off - 0x100000) % 0x1000))).join else
  if 0x180000 ≤ off ∧ off < 0x1A0000 then
    (instanceOf 128 ((off - 0x180000) / 0x400) (fun n => portBlock n ((off - 0x180000) % 0x400))).join else
  if 0x1E0100 ≤ off ∧ off < 0x1E0500 then
    (instanceOf 4 ((off - 0x1E0100) / 0x100) (fun q => collBlock q ((off - 0x1E0100) % 0x100))).join else
  if 0x200000 ≤ off ∧ off < 0x208000 then
    (instanceOf 8 ((off - 0x200000) / 0x1000) (fun x => xportBlock x ((off - 0x200000) % 0x1000))).join else
  if 0x240000 ≤ off ∧ off < 0x240800 then
    (instanceOf 8 ((off - 0x240000) / 0x100) (fun r => reducerBlock r ((off - 0x240000) % 0x100))).join else
  if 0x280000 ≤ off ∧ off < 0x282000 then
    (instanceOf 32 ((off - 0x280000) / 0x100) (fun n => outputBlock n ((off - 0x280000) % 0x100))).join else
  if 0x2C0000 ≤ off ∧ off < 0x2C1000 then
    (instanceOf 64 ((off - 0x2C0000) / 0x40) (fun n => chronoBlock n ((off - 0x2C0000) % 0x40))).join else
  if 0x2E0100 ≤ off ∧ off < 0x2E0500 then
    (instanceOf 64 ((off - 0x2E0100) / 0x10) (fun i => comparatorBlock i ((off - 0x2E0100) % 0x10))).join else
  if 0x300100 ≤ off ∧ off < 0x300200 then
    (instanceOf 8 ((off - 0x300100) / 0x20) (fun a => axisBlock a ((off - 0x300100) % 0x20))).join else
  if 0x301000 ≤ off ∧ off < 0x303000 then
    (instanceOf 512 ((off - 0x301000) / 0x10) (fun i => schedEntryBlock i ((off - 0x301000) % 0x10))).join else
  singleReg off

/-- The reset word of the offset `off` (R799): 0 where no register stands. -/
def resetWord (off : Nat) : Word :=
  match Reg.ofOffset off with
  | some (r, false) => r.resetLo
  | some (r, true) => r.resetHi
  | none => 0

end Sys2Proof.Machine
end

