-- ==== Sys2Proof/Machine/State.lean ====
section
/-! DEFINITION. The state of the block as plain data: the register file, the engines' own state, the nonvolatile cells,
and the queue of waiting commands. Counts and positions that a register only shows are held once, in the engine that
owns them, and read from there. -/
namespace Sys2Proof.Machine

/-! ### Reasons to stop -/

/-- The faults. The block has no fault (INVENTORY.md, Faults): no meaning answers one. -/
inductive Fault where
  /-- Raised by nothing; it keeps the type of faults inhabited. Safe. -/
  | none_
  deriving DecidableEq, Repr

/-- The refusals. -/
inductive Refusal where
  /-- Raised by the arm of exec whose command has no meaning yet. Safe: the machine stops. -/
  | notModelled (mnemonic : String)
  deriving DecidableEq, Repr

/-! ### Records, logbooks and request queues (16_host_interface.md, 17_logbook.md) -/

/-- A record handed to the logbook writer, with the header of Table 17.1 except SEQ and BUF. -/
structure Rec where
  kind : Byte
  cls : Byte
  idx : Nat
  w2 : Word
  w3 : Word
  w4 : Word
  w5 : Word
  w6 : Word
  w7 : Word
  log : Fin 16
  /-- The edge of its hand-over (R660). -/
  cycle : Nat
  /-- How many MARK entries had been processed at its event edge (R685). -/
  epoch : Nat
  /-- The request-queue entry that caused it: the queue, and how many MARKs had been processed then (R685). -/
  cause : Option (Fin 8 × Nat)
  deriving DecidableEq, Repr

/-- An open loss run (R665, R667). -/
structure LossRun where
  count : Nat
  first : Word
  types : Word
  deriving DecidableEq, Repr

/-- Where a MARK record stands that is not admitted: it waits for its before set, or it came behind an earlier mark and is held in the
buffer, or it found no room there (R686, R688, R809). -/
inductive MarkPlace where
  | waits | held | lost
  deriving DecidableEq, Repr

/-- What waits at a logbook behind an epoch mark, in order (R686 to R688, R809). -/
inductive Waiting where
  /-- A MARK record: the mark's number, the queue it came from, and where it stands. -/
  | mark (number : Nat) (queue : Fin 8) (r : Rec) (place : MarkPlace)
  /-- A held record. -/
  | held (r : Rec)
  /-- The place of a record dropped while it would have been held; its type code (R809). -/
  | dropped (kind : Byte)
  deriving DecidableEq, Repr

/-- The state of one logbook (Table 17.9); LB_CTRL, LB_HEAD, LB_DROPS and the sticky flags are registers. -/
structure Logbook where
  tail : Nat := 0
  /-- Buffered records with their sequence numbers, oldest first. -/
  buffer : List (Rec × Word) := []
  waiting : List Waiting := []
  loss : Option LossRun := none
  /-- The next sequence number (R661). -/
  seq : Word := 0
  /-- Records written since the last signal (R657). -/
  since : Nat := 0
  /-- A tail write-back is owed (R656). -/
  owed : Bool := false
  /-- The sequence number of the last record written (R656). -/
  lastSeq : Word := 0
  deriving DecidableEq, Repr

/-- The state of one request queue; Q_CTRL, FETCH_ERR and Q_COUNT are registers. -/
structure Queue where
  head : Nat := 0
  tail : Nat := 0
  /-- Fetched entries not yet processed, in ring order (R631). -/
  fetched : List (List Byte) := []
  /-- A fetch is outstanding; and it was started before the queue was last disabled, so that its entry is not taken. -/
  fetching : Bool := false
  stale : Bool := false
  /-- The fetch of the entry after the fetched ones has failed (R634). -/
  failed : Bool := false
  /-- A write-back of HEAD is owed (R632). -/
  owed : Bool := false
  deriving DecidableEq, Repr

/-- A symbol of a link frame: the K symbols that begin one of each form and end a normal frame, and a byte (Table 18.1). -/
inductive LinkSymbol where
  | k28_2 | k28_6 | k28_3 | k28_4 | k27_7 | k29_7
  | data (b : Byte)
  deriving DecidableEq, Repr

/-- What leaves the device, in the order it leaves. In its own PCIe requests the Relaxed Ordering and No Snoop attributes are
always 0 (R607), so that no output has a place for them. -/
inductive Output where
  /-- A memory write to the host, and a read request of so many bytes (R607). -/
  | hostWrite (addr : Nat) (words : List Word)
  | hostRead (addr bytes : Nat)
  /-- An MSI-X message (R626). -/
  | msix (vector : Fin 64)
  /-- A read command on the flash pins: the command byte, the address in that many bytes, the dummy clocks, and whether
  address and data go on four lines (R126, R129). -/
  | flashRead (cmd : Byte) (addr addrBytes dummy : Nat) (quad : Bool)
  /-- A PCIe memory request completes with Unsupported Request (R144). -/
  | unsupported
  /-- A completion of a PCIe configuration request: CRS, or the dword returned (R144). -/
  | cfgCrs
  | cfgData (dword : Word)
  /-- A turret-bus command frame, as sent (R309). -/
  | busFrame (x : Fin 8) (frame : Word)
  /-- A turret-bus reset (R305). -/
  | busReset (x : Fin 8)
  /-- A reply frame that a card places on TDI (R316). -/
  | cardReply (x : Fin 8) (frame : Word)
  /-- The word that a register read returns along a path (R612). -/
  | busData (p : Path) (w : Word)
  /-- The reply of a frame on SPI_MISO: so many 0x00 bytes, and the bytes after them, the token first (R646). -/
  | spiReply (zeros : Nat) (bytes : List Byte)
  /-- An urgent frame, a beacon, a delay frame or a normal frame handed to a link port's transmitter. -/
  | linkFrame (port : LinkPort) (symbols : List LinkSymbol)
  deriving DecidableEq, Repr

/-! ### The almanac (05_almanac.md) -/

/-- One bank: for each (KIND, INSTANCE) of Table 5.2 the entries by key, as their bytes. An entry that is not listed is
in its zero state (R207). FILTER keys are 16 × QUAD + PROFILE; LINK has the key 0. -/
structure Bank where
  gen : Byte := 0
  fabric : List (Nat × List Byte) := []
  filter : List (Nat × List Byte) := []
  excite : List (Nat × List Byte) := []
  reduce : List (Nat × List Byte) := []
  output : List (Nat × List Byte) := []
  axes : List (Nat × List Byte) := []
  table : List (Nat × List Byte) := []
  chrono : List (Nat × List Byte) := []
  trip : List (Nat × List Byte) := []
  link : List (Nat × List Byte) := []
  logbook : List (Nat × List Byte) := []
  deriving DecidableEq, Repr

/-- The reasons an image or its source fails (Table 3.9). -/
inductive Reason where
  | none | dir | magic | length | crc | auth | rollback | content | flashTimeout | linkTimeout | mode | stalled
  deriving DecidableEq, Repr

/-- An image arriving into the inactive bank or the staging memory (R807, R221). -/
structure Image where
  /-- Its length as far as its source has told it: the slot length, ALM_LOAD_LEN or STAGE_LEN; none in link boot. -/
  announced : Option Nat := none
  bytes : List Byte := []
  /-- The last byte has arrived. -/
  ended : Bool := false
  deriving DecidableEq, Repr

/-- The states of STAGE_STATUS (Table 5.15). -/
inductive StageState where
  | empty | loading | checking | merging | ready | failed
  deriving DecidableEq, Repr

/-- Staging (R220 to R225): the image, and the merged bank while it is READY. -/
structure Staging where
  state : StageState := .empty
  image : Image := {}
  merged : Bank := {}
  /-- Why the image failed (STAGE_STATUS REASON). -/
  reason : Reason := .none
  deriving DecidableEq, Repr

/-- The triggers of Table 5.13. -/
inductive ApplyTrigger where
  | immediate
  | transit (axis : Fin 8)
  | mark (queue : Fin 8)
  deriving DecidableEq, Repr

/-- The phases of an apply (Table 5.16). -/
inductive ApplyPhase where
  | idle | armed | mixed
  deriving DecidableEq, Repr

/-- An apply in progress (R226 to R243). -/
structure Apply where
  phase : ApplyPhase := .idle
  trigger : ApplyTrigger := .immediate
  log : Fin 16 := 0
  /-- The staged image as ARM found it READY, and the bank it merges to (R224, R226). -/
  image : Image := {}
  merged : Bank := {}
  /-- The trigger edge. -/
  edge : Nat := 0
  oldGen : Byte := 0
  newGen : Byte := 0
  /-- Tickets moved out of each lane (R241). -/
  moved : List (Nat × Nat) := []
  /-- Lanes that have not passed their switch edge (R234). -/
  unswitched : List (Fin 32) := []
  /-- Lanes that have switched and whose CONFIG_APPLIED record, as of the switch edge, is not handed over (R241). -/
  owed : List (Fin 32 × Rec) := []
  deriving DecidableEq, Repr

/-! ### Tickets and the scheduler (09_tickets.md) -/

/-- The triggers of a ticket (Table 9.1). -/
inductive Trigger where
  | immediate
  | transit (axis : Fin 8) (pos : W48)
  | chrono (n : Fin 64) (onMatch : Bool)
  | link (code : Byte)
  deriving DecidableEq, Repr

/-- A checked ticket descriptor (Table 9.1). -/
structure Desc where
  bridge : Fin 2176
  tag : Word
  excite : Fin 64
  filter : Fin 16
  gain : Fin 9
  /-- The REDUCER field: an override, or none as bound in FABRIC (R370). -/
  reducer : Option (Fin 8)
  noRunAhead : Bool
  pairs : Nat
  samples : Nat
  retry : Nat
  log : Fin 16
  trigger : Trigger
  expireMs : Nat
  deriving DecidableEq, Repr

/-- Where a ticket stands (Tables 9.3, 9.4). -/
inductive Stage where
  | armed | queued | runAhead | turret | bursts | committed
  deriving DecidableEq, Repr

/-- The causes of a CANCELLED record (Table 9.4). -/
inductive CancelCause where
  | software | hold | sleep | field | thermal | expired | fault | safe
  deriving DecidableEq, Repr

/-- A cancelled ticket whose record is not yet handed over (Table 9.3). -/
structure Cancelled where
  cause : CancelCause
  stage : Stage
  pulseRunning : Bool
  laneMade : Bool
  /-- The CANCEL entry that cancelled it (R685). -/
  by_ : Option (Fin 8 × Nat)
  deriving DecidableEq, Repr

/-- A pool entry in use (R376). -/
structure Ticket where
  desc : Desc
  stage : Stage
  lane : Fin 32
  /-- TRIG_LATE (R380). -/
  late : Bool := false
  /-- Its EXPIRE_MS has elapsed in SLEEP (R384). -/
  lapsed : Bool := false
  /-- Pre-warm pulses started (R269). -/
  pulses : Nat := 0
  dischargeSent : Bool := false
  makeSent : Bool := false
  makeConfirmed : Bool := false
  /-- The card sequence of Table 7.7 has been asked for and not withdrawn. -/
  connect : Bool := false
  /-- The edge on which the ticket, at the head of its queue, began to wait for a port held by another lane (R293). -/
  waitSince : Option Nat := none
  cancelled : Option Cancelled := none
  /-- Its place in the order in which tickets have entered lane queues (R237). -/
  order : Nat := 0
  deriving DecidableEq, Repr

/-! ### Lanes, turrets and ports (06 to 08) -/

/-- The steps of the turret (Table 7.9). -/
inductive TurStep where
  | idle | break_ | short | cardWait | made
  deriving DecidableEq, Repr

/-- The phases of a lane (Table 8.4). -/
inductive LanePhase where
  | idle | turret | settle | discard | integrate
  deriving DecidableEq, Repr

/-- Unreported slips of a lane (R403, R404). -/
structure Slips where
  count : Nat := 0
  full : Bool := false
  reserve : Bool := false
  bridge : Nat := 0
  tag : Word := 0
  deriving DecidableEq, Repr

/-- A committed ticket on its way to its PLATE record (Table 10.1). -/
structure Plate where
  ticket : Nat
  lane : Fin 32
  bridge : Fin 2176
  /-- The reducer the plate passes through, if any (R411, R413). -/
  reducer : Option (Fin 8)
  gen : Byte
  /-- Its lane-scoped entries come from the old bank (R236). -/
  old : Bool
  raw : Ratio
  /-- The STATUS bits that the lane and the turret set (Table 17.6). -/
  status : BitVec 16
  /-- The ticket's own bridge resistance (R418). -/
  resistance : Option Word
  tag : Word
  log : Fin 16
  /-- The commit edge and the number of MARKs processed by then (R42, R685). -/
  commit : Nat
  epoch : Nat
  /-- Its ticket holds the bridge's cache line (R432). -/
  holds : Bool
  /-- The edge on which its value has reached the comparators (R43). -/
  reached : Nat := 0
  /-- Stamp words and axis flags taken at the commit edge (R42, R496, R497). -/
  w3 : Word
  w4 : Word
  flags : Word
  /-- The result, once formed (R423), with its temperature. -/
  value : Ratio := voidRatio
  temp : BitVec 24 := noTemp
  /-- It has been counted in CACHE_WAITS (R434). -/
  waited : Bool := false
  deriving DecidableEq, Repr

/-- What a lane does for the ticket at stage 4 or 5; a fresh one for every ticket. -/
structure Work where
  /-- The positive burst, the negative burst, or none yet, of the present pair. -/
  neg : Bool := false
  /-- Samples that have left the filter since the grid start. -/
  samples : Nat := 0
  /-- τ of the grid start, and the sample boundaries of a line-cycle window that have passed since (R350, R354). -/
  gridAt : Int := 0
  passed : Nat := 0
  /-- Integrated samples of the positive burst of the pair (M, or N_L, R357); 0 while not known. -/
  length : Nat := 0
  /-- Sums of the integrated samples of the pair. -/
  sumPos : Int := 0
  sumNeg : Int := 0
  /-- Integration target of a line-cycle window (R354). -/
  target : Option W48 := none
  /-- Direction of the pair's first OVR integrated sample, signed for the bridge (R363). -/
  pairOvr : Option Bool := none
  /-- The last sample of the positive integration is still in the filter after the reversal. -/
  tail : Bool := false
  /-- The drive of the negative burst has ended, and the last sample is still in the filter. -/
  ended : Bool := false
  /-- The last sample has left, and the end of the negative burst's drive is still to come. -/
  taken : Bool := false
  /-- The plate fixed by that sample (R393), when the pair was the ticket's last. -/
  plate : Option Plate := none
  /-- Completed pairs of the ticket: the difference of the sums and the samples per burst (R359). -/
  pairs : List (Int × Nat) := []
  /-- Direction of the ticket's first OVR integrated sample (R363). -/
  ovr : Option Bool := none
  voids : Nat := 0
  lineFault : Bool := false
  /-- A burst of the ticket ran into the current limit, or a sample had a low excitation (R252, R272, R273). -/
  ilim : Bool := false
  excLow : Bool := false
  /-- Resistances of the ticket's completed pairs (R271, R418). -/
  resistances : List Nat := []
  /-- The resistance of the pair whose drive has ended and whose last sample is still in the filter. -/
  pairRes : Option Nat := none
  deriving DecidableEq, Repr

/-- A modulator reset: τ of its start and of its end, none while it is in progress, and the sign of its overload (R361,
R362). -/
structure ModReset where
  start : Int
  stop : Option Int
  positive : Bool
  deriving DecidableEq, Repr

/-- One lane with its turret. -/
structure Lane where
  /-- Pool indexes of the tickets before stage 4, oldest first (R387). -/
  queue : List Nat := []
  /-- The ticket in the run-ahead slot, which is also the head of the queue (R390). -/
  runAhead : Option Nat := none
  /-- The ticket at stage 4 or 5. -/
  current : Option Nat := none
  /-- Its lane-scoped state comes from the old bank: the lane has not passed its switch edge (R234). -/
  old : Bool := false
  step : TurStep := .idle
  /-- τ of tick 0 of the last stage 4 (Table 7.1), and the gain until its tick 1 (R341). -/
  brokeAt : Int := 0
  gainWas : Fin 9 := 0
  /-- The discharge short has opened and the make is awaited (Table 7.1 step 3). -/
  shortOpen : Bool := false
  /-- The bridge whose input is closed (Table 7.9). -/
  closed : Option (Fin 2176) := none
  phase : LanePhase := .idle
  gain : Fin 9 := 0
  profile : Fin 16 := 0
  work : Work := {}
  /-- The last two modulator resets, the newest first (R361, R362). -/
  resets : List ModReset := []
  slips : Slips := {}
  deriving DecidableEq, Repr

/-- What the driver of a port does (R246, R247, R265); ports are numbered 0 to 127 direct, 128 to 135 extension. -/
inductive Drive where
  | off | pos | neg
  deriving DecidableEq, Repr

/-- One port: its drive, the handle of the ticket whose pre-warm pulse runs, and the bridge it drives. -/
structure Port where
  drive : Drive := .off
  pulse : Option Word := none
  bridge : Option (Fin 2176) := none
  /-- Collimation holds the port (R440). -/
  collimated : Bool := false
  deriving DecidableEq, Repr

/-- The shutter sources that are no register (Table 6.3): accepted pin levels and ephemeris windows. -/
structure Shutter where
  pins : BitVec 8 := 0
  eph : BitVec 8 := 0
  deriving DecidableEq, Repr

/-! ### The turret bus (07_turret.md) -/

/-- The commands of Table 7.5. -/
inductive BusCmd where
  | brk | discharge | make | query | ident | breakA | dischargeA | makeA
  deriving DecidableEq, Repr

/-- Why the device sends a command. -/
inductive BusWhy where
  /-- Step 2 of Table 7.7, R298, R293 or R326: breaking the connection of lane n. -/
  | break_ (lane : Fin 32)
  /-- Making the slot for a ticket (Table 7.7 steps 4 to 7, R327). -/
  | connect (lane : Fin 32) (ticket : Nat)
  /-- R328: the break after a cancel or a withdrawal. -/
  | withdraw (lane : Fin 32) (ticket : Nat)
  /-- R332: the break with ALL 1 after a NAK_BAD. -/
  | recover
  /-- R333, R329: a break with ALL 1 and no reply. -/
  | safety
  /-- R323: a word of a probe. -/
  | probe
  /-- R336: TB_CMD QUERY. -/
  | query
  /-- Collimation connects or breaks a slot. -/
  | coll (q : Fin 4)
  deriving DecidableEq, Repr

/-- A command the device is to send. -/
structure BusItem where
  cmd : BusCmd
  card : Fin 4
  slot : Fin 64
  arg : Nat := 0
  all : Bool := false
  why : BusWhy
  /-- The SEQ it was sent with, once it has been sent: a repeat keeps it (R320). -/
  seq : Option (Fin 16) := none
  /-- Failed attempts so far (R332). -/
  tries : Nat := 0
  deriving DecidableEq, Repr

/-- How the last attempt failed (R335). -/
inductive BusFail where
  | silent | badReply | nak
  deriving DecidableEq, Repr

/-- The bus master of one extension port. -/
structure XPort where
  /-- The lane that holds the port (R291). -/
  holder : Option (Fin 32) := none
  /-- The slot made, as last confirmed. -/
  made : Option (Fin 4 × Fin 64) := none
  /-- The slot whose MAKE has been sent and is neither confirmed nor broken (R329). -/
  closing : Option (Fin 4 × Fin 64) := none
  /-- Commands to send, in order. -/
  wanted : List BusItem := []
  /-- The command whose reply is outstanding, and the frame sent. -/
  outstanding : Option (BusItem × Word) := none
  /-- A timed wait after a command that takes no reply (R321), for that command. -/
  timed : Option BusItem := none
  /-- A frame was discarded during the outstanding attempt (R335). -/
  bad : Bool := false
  /-- The SEQ counter (R320), and the SEQ of the last command sent that expected a reply (Table 7.10). -/
  seq : Fin 16 := 0
  lastSeq : Fin 16 := 0
  /-- Last command frame sent to each card and last reply frame received from it (R681). -/
  lastSent : List (Nat × Word) := []
  lastReply : List (Nat × Word) := []
  /-- A bus reset is to be sent. -/
  resetWanted : Bool := false
  /-- The wait of R333 or R334 runs; the port is released at its end. -/
  releasing : Bool := false
  /-- A probe by TB_CMD names one card; the probe on BARRIER_UP all four. -/
  probing : List (Fin 4) := []
  /-- Words of the probed card so far. -/
  ids : List (BitVec 15) := []
  deriving DecidableEq, Repr

/-- A card on an extension port: what it is (R310, Table 7.6), and the part of its state that the protocol reaches
(R313 to R318). -/
structure Card where
  /-- A card is fitted at this address, with so many slots, and its times in µs. -/
  fitted : Bool := false
  slotsFitted : Nat := 64
  breakUs : BitVec 11 := 1
  makeUs : BitVec 11 := 1
  version : BitVec 3 := 1
  /-- Slots whose switches the card has found faulty (R315). -/
  faulty : BitVec 64 := 0
  made : Option (Fin 64) := none
  closing : Option (Fin 64) := none
  /-- The slot that a break is opening. -/
  opening : Option (Fin 64) := none
  discharging : Bool := false
  /-- The replies the card owes when its actions are complete: CMD and SEQ (R316). -/
  owed : List (BusCmd × Nat) := []
  deriving DecidableEq, Repr

/-! ### The ephemeris (12_ephemeris.md) -/

/-- One axis. Times are in units of 2^-16 ns. -/
structure Axis where
  /-- Start time of an internal axis (R466), in units of 2^-18 ns, in which every stamp is a whole number. -/
  start : Int := 0
  /-- Edge-driven: cycle and edge counts (R468). -/
  c : Nat := 0
  e : Nat := 0
  /-- A known edge count; when not, the axis holds `held` (R475). -/
  known : Bool := false
  held : W48 := 0
  /-- Time of the last edge, whether it was forward, and the period (R470). -/
  last : Option Int := none
  forward : Bool := true
  period : Option Nat := none
  hold : Bool := false
  stall : Bool := false
  est : Bool := false
  homed : Bool := false
  /-- INDEX was written and no index has homed the axis since (R478). -/
  armed : Bool := false
  /-- Accepted levels of AX_A and AX_B. -/
  lineA : Bool := false
  lineB : Bool := false
  /-- Position on the previous CCLK edge (R492). -/
  prev : W48 := 0
  deriving DecidableEq, Repr

/-- One active schedule entry (R487). -/
structure SchedEntry where
  due : W48 := 0
  spent : Bool := false
  /-- The first edge on which the table acts after its load, a start or a restart has not passed yet (R492). -/
  fresh : Bool := true
  late : Bool := false
  defer_ : Bool := false
  skips : Nat := 0
  fires : Nat := 0
  /-- It was due on an earlier edge and did not fire (R490). -/
  deferred : Bool := false
  deriving DecidableEq, Repr

/-! ### Device, boot, clocks and power (03_bring_up.md, 04_clocks_power_heat.md) -/

/-- The device states (Table 3.3, Table 1.11); `inReset` is the time RST_N is low. -/
inductive Phase where
  | off | inReset | fusing | loading | held | run | sleep | safe
  deriving DecidableEq, Repr

/-- The source a LOADING reads (Tables 3.2, 3.3, R131). -/
inductive LoadSource where
  | directoryA | directoryB | primary | fallback | service | link
  deriving DecidableEq, Repr

/-- What a boot directory says of its slots (Table 3.4): how they are read, and where the fallback lies. -/
structure FlashDir where
  readCmd : Byte := 0
  dummy : Nat := 0
  addrBytes : Nat := 3
  primary : Nat := 0
  fallback : Nat := 0
  deriving DecidableEq, Repr

/-- A LOADING in progress. -/
structure Load where
  source : LoadSource
  /-- The directory in use, once one has been read (R127, R129). -/
  dir : FlashDir := {}
  /-- It was entered from FUSING, so configuration requests meet CRS (R116, R142). -/
  boot : Bool
  image : Image := {}
  /-- The fallback slot of the directory in use: its length, 0 for none, and whether it keeps the rules of Table 3.4
  (R128, R131). -/
  fallback : Nat × Bool := (0, true)
  /-- Every check of Table 3.6 has passed and activation is awaited (R134). -/
  passed : Bool := false
  deriving DecidableEq, Repr

/-- A CCLK selection as CLK_STATUS shows it (Table 4.7). -/
inductive Cclk where
  | mhz250 | mhz125 | mhz62 | refclk | lpo
  deriving DecidableEq, Repr

/-- A switch of CCLK in progress (Table 4.3): its cause and the clock before it. -/
structure ClkSwitch where
  unlock : Bool
  old : Cclk
  deriving DecidableEq, Repr

/-- An edge on which CCLK changed, or τ leapt over SLEEP: τ and the CCLK period before that, and whether it is a switch edge of
Table 4.3 (R518, R534). -/
structure ClkCut where
  edge : Nat
  tau : Int
  period : Nat
  switch : Bool
  deriving DecidableEq, Repr

/-- Clocks and sleep. Times are in units of 2^-16 ns. -/
structure Clock where
  /-- CCLK edges since reset (R7). -/
  cycle : Nat := 0
  /-- Ephemeris time τ (R461). -/
  tau : Int := 0
  now : Cclk := .refclk
  switch : Option ClkSwitch := none
  /-- The breaks in τ of the last 16 edges, the newest first. -/
  cuts : List ClkCut := []
  /-- The core PLL has locked once since reset (Table 3.5 step 2). -/
  corePll : Bool := false
  measPll : Bool := true
  /-- How often the measurement PLL has locked: it takes another phase each time (R806). -/
  modLock : Nat := 0
  /-- The ledger counts (R178, R183). -/
  ledgerRun : Bool := false
  ledger : Nat := 0
  /-- A wake event has been taken and the resume edge is awaited (R183). -/
  waking : Bool := false
  deriving DecidableEq, Repr

/-- One quadrant. -/
structure Quad where
  fieldPg : Bool := false
  /-- The barrier channel is trained, whether or not the configuration has been sent (R97, R98). -/
  trained : Bool := false
  barrierUp : Bool := false
  hotOff : Bool := false
  /-- The quadrant holds a configuration (R145), and the OUTPUT entries of it. -/
  configured : Bool := false
  cfg : List (Nat × List Byte) := []
  /-- CLR_N_q is low (R569). -/
  clrLow : Bool := false
  deriving DecidableEq, Repr

/-- Boot, fuse programming, the PCIe endpoint and the device state. -/
structure Boot where
  phase : Phase := .fusing
  /-- A HOLD is in progress (R115). -/
  holding : Bool := false
  /-- A SLEEP entry is in progress (R177). -/
  sleeping : Bool := false
  mode : BitVec 2 := 0b01
  load : Option Load := none
  /-- FUSING ended and HELD awaits journal recovery (R136a, R141). -/
  heldWaits : Bool := false
  /-- Journal recovery has ended since reset (R141, R743). -/
  journalDone : Bool := false
  /-- FUSE_SHADOW (R117, R121). -/
  shadow : BitVec 4096 := 0
  /-- The fuses as FUSING loaded them, whose values are in effect (R121). -/
  loaded : BitVec 4096 := 0
  /-- FUSING has ended. -/
  fused : Bool := false
  /-- The fuse bit being programmed (R121). -/
  programming : Option (BitVec 12) := none
  perstHigh : Bool := false
  /-- Link training runs, or waits for the end of FUSING (R106). -/
  training : Bool := false
  trainAfterFusing : Bool := false
  linkUp : Bool := false
  /-- The limit of R143 has passed. -/
  crsLimit : Bool := false
  bar0 : Option Nat := none
  bar2 : Option Nat := none
  memSpace : Bool := false
  busMaster : Bool := false
  d3hot : Bool := false
  payload256 : Bool := false
  msixEnable : Bool := false
  msixMask : Bool := false
  /-- The MSI-X table: four words per vector, vector control last; and the Pending Bit Array. -/
  msixTable : List (Nat × Word) := []
  msixPending : BitVec 64 := 0
  deriving DecidableEq, Repr

/-- A service-port frame whose +0 word waits for its +4 word (R647). -/
structure SpiHeld where
  addr : BitVec 24
  word : Word
  deriving DecidableEq, Repr

/-! ### Reduction (10_reduction.md) -/

/-- One reducer: ratios waiting in the order of R414, and plates in its pipeline, oldest first. -/
structure Reducer where
  waiting : List Plate := []
  pipeline : List Plate := []
  deriving DecidableEq, Repr

/-- A line of the coefficient cache (R431 to R435): its bridge and contents; `fetching` while not valid. -/
structure CacheLine where
  bridge : Fin 2176
  fetching : Bool
  /-- It is fetched again, after a commit made it stale (R434). -/
  again : Bool := false
  /-- Coefficient block (192 bytes) and thermometry record (16 bytes) as last fetched. -/
  block : List Byte
  record : List Byte
  deriving DecidableEq, Repr

/-- The latest reduced value of a bridge that counts as a reading (R419): its mantissa and exponent, and τ. -/
structure Reading where
  mantissa : Int
  exponent : Int
  tau : Int
  deriving DecidableEq, Repr

/-- The reduction engine. -/
structure Reduction where
  reducers : Vector Reducer 8 := Vector.replicate 8 {}
  /-- Plates that pass no reducer, on their way to the edge after their commit edge (R413). -/
  direct : List Plate := []
  /-- Plates reduced whose records are not yet handed over (Table 10.1 step 4). -/
  plates : List Plate := []
  /-- The cache, least recently used first. -/
  cache : List CacheLine := []
  /-- Lines held: bridge and the number of tickets holding it (R432). -/
  held : List (Nat × Nat) := []
  readings : List (Nat × Reading) := []
  deriving DecidableEq, Repr

/-! ### Collimation (11_collimation.md) -/

/-- A run in progress (Table 11.1). -/
structure CollRun where
  bridge : Fin 2176
  /-- The present step, 1 to 7; 0 while the card sequence runs; 8 when the decision edge is awaited. -/
  step : Nat
  /-- Readings taken so far, in step order. -/
  readings : List Word
  /-- The window record read at the start (R451). -/
  window : List Byte
  /-- The run is abandoned at the end of its step (R444). -/
  yielding : Bool := false
  deriving DecidableEq, Repr

/-- The collimation engine of one quadrant. -/
structure Coll where
  run : Option CollRun := none
  /-- A bridge named by COLL_CMD and not yet run (R443). -/
  commanded : Option (Fin 2176) := none
  /-- Present or last step and bridge, and the mask of the last completed run (COLL_STATUS). -/
  lastStep : Nat := 0
  lastBridge : Nat := 0
  lastMask : Nat := 0
  deriving DecidableEq, Repr

/-! ### Chronographs (13_chronographs.md) -/

/-- An open interval (R520). -/
structure Interval where
  start : W48
  repeatStart : Bool := false
  /-- The first edge from its start on at which CCLK switched (R534). -/
  mixedAt : Option Nat := none
  deriving DecidableEq, Repr

/-- How a counter stood on an edge on which it was set, stopped or started, before that (R518). -/
structure CountCut where
  edge : Nat
  count : W48
  residue : Nat
  prescale : Nat
  running : Bool
  deriving DecidableEq, Repr

/-- One chronograph. -/
structure Chrono where
  count : W48 := 0
  residue : Nat := 0
  running : Bool := false
  /-- Accepted edges of the selected polarity since the last capture event (R517). -/
  edges : Nat := 0
  /-- Accepted level of a level source. -/
  level : Bool := false
  /-- Level driven on CAP_CMP[n] while it is an output (R529), and the changes on their way to it with their edges (R528). -/
  pin : Bool := false
  pinNext : List (Nat × Bool) := []
  /-- Levels driven of late, the newest first, each with the edge whose synchronised sample shows it first (R513, R529). -/
  drives : List (Nat × Bool) := []
  interval : Option Interval := none
  armed : Bool := false
  /-- The compare has matched since the last arm (R507). -/
  matched : Bool := false
  /-- The counter changed by counting on the present edge (R525). -/
  moved : Bool := false
  /-- The breaks in its counting of the last 16 edges, the newest first (R518). -/
  cuts : List CountCut := []
  capNew : Bool := false
  /-- Count latched at switch-out (Table 4.3 step 3). -/
  countOut : Option W48 := none
  deriving DecidableEq, Repr

/-! ### Outputs (14_outputs.md) -/

/-- The states of a channel (Table 14.7). -/
inductive OutState where
  | off | clear | drive | ranging | fault
  deriving DecidableEq, Repr

/-- A range change in progress: the step of Table 14.3 it has reached (1 driving SAFE_old, 3 stage off, 5 driving
SAFE_new), and the queue entries discarded. -/
structure Ranging where
  step : Nat
  discarded : Nat
  /-- The change came with an apply, so its end drives SAFE_new (R565). -/
  byApply : Bool
  deriving DecidableEq, Repr

/-- One output channel. -/
structure Out where
  state : OutState := .off
  target : Int := 0
  /-- The RANGE and REFGAIN that the stage is set to, which it keeps while it is off; RANGE 0 while it has never been set
  (Table 14.3, R566). -/
  range : Nat := 0
  refGain : Nat := 0
  queue : List Int := []
  /-- A pending bound value (R562). -/
  pending : Option Int := none
  ranging : Option Ranging := none
  /-- OPEN, CONTEND, OVERVOLT and SHORT as they stand (R574). -/
  openNow : Bool := false
  contendNow : Bool := false
  overvoltNow : Bool := false
  shortNow : Bool := false
  /-- The FAULT was entered through OVERVOLT (R578). -/
  byOvervolt : Bool := false
  abortResult : Nat := 0
  /-- An underrun has occurred since the queue last held an entry (R557). -/
  dry : Bool := false
  /-- The last bound value was VOID (R561). -/
  wasVoid : Bool := false
  /-- Its quadrant has driven it by itself since a control-die reset: the registers show nothing of it (R102, R799). -/
  alone : Bool := false
  deriving DecidableEq, Repr

/-! ### Trip comparators (15_trip_path.md) -/

/-- The trip side (Table 15.6). -/
inductive Side where
  | none | low | high | coll
  deriving DecidableEq, Repr

/-- One comparator. -/
structure Cmp where
  tripped : Bool := false
  side : Side := .none
  count : Nat := 0
  gen : Byte := 0
  /-- The entry of the last value compared (R596). -/
  entry : List Byte := []
  /-- The TRIP pin the comparator holds (R597). -/
  hold : Option (Fin 8) := Option.none
  deriving DecidableEq, Repr

/-- What the comparators have still to do (Table 15.3). -/
inductive TripJob where
  /-- A value presented to comparator i, under the entry of its generation. -/
  | value (i : Fin 64) (entry : List Byte) (gen : Byte) (v : Ratio)
  /-- The actions of comparator i, which has entered TRIPPED under the entry. -/
  | act (i : Fin 64) (entry : List Byte)
  /-- The broadcast of line k. -/
  | send (k : Nat)
  deriving DecidableEq, Repr

/-! ### The Floper link (18_floper_link.md) -/

/-- One link port. -/
structure LinkSide where
  up : Bool := false
  /-- (t_rx − t_tx) − TURN of the last exchanges, newest first, at most 16, in 1/16 ns (R710). -/
  delays : List Int := []
  /-- The neighbour's node, when valid. -/
  neighbour : Option Nat := none
  /-- SEQ of the outstanding DELAY_REQ, and the next SEQ. -/
  delaySeq : Nat := 0
  delayWaits : Bool := false
  deriving DecidableEq, Repr

/-- A mailbox send outstanding (R724, R726). -/
structure MboxSend where
  node : Nat
  mid : Nat
  lo : Word
  hi : Word
  sends : Nat
  deriving DecidableEq, Repr

/-- A remote access outstanding (R727, R731). -/
structure RemoteAccess where
  node : Nat
  rid : Nat
  twoHalf : Bool
  write : Bool
  bar2 : Bool
  offset : Nat
  lo : Word
  hi : Word
  key : Word
  tries : Nat
  /-- A port has counted a check failure since the access began (R731). -/
  failed : Bool := false
  deriving DecidableEq, Repr

/-- An image push in progress (R734). -/
structure BootPush where
  node : Nat
  length : Nat
  /-- Bytes written and not yet sent in a frame. -/
  open_ : List Byte
  /-- Frames sent and not acknowledged: offset, bytes, LAST, sends; the one whose last send is longest ago comes first. -/
  frames : List (Nat × List Byte × Bool × Nat)
  /-- Bytes given to frames. -/
  sent : Nat
  acked : Nat
  deriving DecidableEq, Repr

/-- How ring time advances (R714). -/
inductive RingMode where
  /-- ρ stands: at 0 before the first adoption, and after SLEEP until the link delivers ring time (R483, R714). -/
  | waiting
  /-- ρ advances, with an error still to be taken up by the rate in the time that is left, both in 2^-16 ns. -/
  | running (slew : Int) (left : Nat)
  /-- ρ holds until the correct value reaches it; the correct value, in 2^-16 ns. -/
  | holding (goal : Int)
  deriving DecidableEq, Repr

/-- The link of this node. -/
structure Link where
  east : LinkSide := {}
  west : LinkSide := {}
  /-- An almanac has been activated since reset (R693). -/
  byAlmanac : Bool := false
  node : Nat := 0
  idValid : Bool := false
  /-- Last SEQ accepted from each origin (R702). -/
  urgentSeen : List (Nat × Nat) := []
  normalSeen : List (Nat × Nat) := []
  urgentSeq : Nat := 0
  normalSeq : Nat := 0
  /-- Frames sent in each class since reset, for DUP_ID (R703). -/
  urgentSent : Nat := 0
  normalSent : Nat := 0
  /-- The time from which the next urgent frame of this node may start (R705), in units of 2^-16 ns. -/
  urgentFree : Int := 0
  /-- Urgent frames of this node that wait for their turn, in order: kind, code and target (R705). -/
  urgentWait : List (Nat × Nat × Nat) := []
  /-- Ring time ρ in units of 2^-16 ns. -/
  rho : Int := 0
  mode : RingMode := .waiting
  /-- The adopted timekeeper and HOPS. -/
  tkNode : Nat := 0
  tkHops : Nat := 255
  /-- A timekeeper is followed: a beacon has been adopted, and none has been missed for 100 µs since (R715). -/
  adopted : Bool := false
  /-- No beacon has been adopted since reset or since the last almanac activation (R714). -/
  fresh : Bool := true
  /-- RHO of the newest beacon of the timekeeper followed, the best copy of it that has come, and the best copy of the beacon before
  it, which tells what copy to expect: HOPS and port (R713). -/
  lastRho : Nat := 0
  seen : Nat × LinkPort := (255, .west)
  want : Nat × LinkPort := (255, .west)
  /-- A copy of that beacon that is worse than the one expected, while none has been adopted; its port and its error (R713). -/
  spare : Option (BeaconFrame × LinkPort × Int) := none
  /-- τ at the last new beacon of the timekeeper followed (R713). -/
  heardAt : Int := 0
  /-- Consecutive adopted beacons with |e| ≤ 1 ns (R715). -/
  good : Nat := 0
  aligned : Bool := false
  /-- This node has stopped sending beacons for a lower TK (R717). -/
  yielded : Bool := false
  ringClosed : Bool := false
  nodes : Nat := 0
  enumRunning : Bool := false
  censusRunning : Bool := false
  mbox : Option MboxSend := none
  mid : Nat := 0
  mboxCode : Nat := 0
  /-- The MID last delivered from each origin (R725). -/
  mboxSeen : List (Nat × Nat) := []
  access : Option RemoteAccess := none
  rid : Nat := 0
  accessCode : Nat := 0
  tries : Nat := 0
  /-- The last RID answered for each origin, with CODE and data (R730). -/
  answered : List (Nat × Nat × Nat × Word × Word) := []
  push : Option BootPush := none
  pushDone : Bool := false
  pushCode : Nat := 0
  pushAcked : Nat := 0
  /-- The origin whose image a link-mode LOADING takes (R732). -/
  bootOrigin : Option Nat := none
  rkey : Word := 0
  deriving DecidableEq, Repr

/-! ### The vault (19_vault.md) -/

/-- The kinds of descriptor (Table 19.4). -/
inductive DescKind where
  | closed | open_ | committed
  deriving DecidableEq, Repr

/-- The phases of a transaction (R744). -/
inductive VaultPhase where
  | idle | open_ | committing | copying
  deriving DecidableEq, Repr

/-- A page operation in progress (R747). -/
inductive PageOp where
  | openDesc
  | load (page : Fin 4096)
  | put (page : Fin 4096) (data : List Byte)
  | closing
  deriving DecidableEq, Repr

/-- The vault's control side. -/
structure Vault where
  phase : VaultPhase := .idle
  owner : Path := .pcie
  op : Option PageOp := none
  /-- A CLOSED descriptor is to follow the operation in progress: the transaction was aborted (R756). -/
  aborting : Bool := false
  /-- Pages the transaction holds, each with its slot (R750). -/
  slots : List Nat := []
  /-- Slots not yet copied to their home pages (Table 19.3 step 3). -/
  toCopy : List Nat := []
  /-- The last transaction ended by commit, with no OPEN since (R757). -/
  committedLast : Bool := false
  abortResult : Nat := 0
  /-- PD5 is on and recovery has ended (R743). -/
  ready : Bool := false
  /-- The control die is hot: the page being written is the last (R195). -/
  stopping : Bool := false
  deriving DecidableEq, Repr

/-! ### The whole device -/

/-- Wires between engines: what one engine tells the others on the edge of a command. The list of them is worked off
within the command and is empty between commands (log entry 15). -/
inductive Ev where
  /-- A pulse on the capture source with this CAP_SRC code (Table 13.1). -/
  | pulse (src : Nat)
  /-- A new level of a level capture source, taken at once. -/
  | level (src : Nat) (high : Bool)
  /-- A capture event of chronograph n and its capture time (R517, R518). -/
  | captured (n : Fin 64) (time : Int)
  /-- A shutter line has become BLANK, or a port's SHUT_MASK has changed (R276). -/
  | blanked
  /-- An urgent frame of this node: kind, code, target (R699, R705). -/
  | urgent (kind code target : Nat)
  /-- A ticket has left lane n or entered its run-ahead slot: lanes and collimation look again at what they wait for (R293,
  R298, R391, R444). -/
  | freed (n : Fin 32)
  deriving DecidableEq, Repr

/-- Everything that loses its state with the supplies. -/
structure Dev where
  /-- The stored words of the register file by BAR0 offset; an unlisted offset holds its reset word. -/
  regs : List (Nat × Word) := []
  /-- Staging words and RL latches by 4 × low-word offset + path number (R617, R618). -/
  staging : List (Nat × Word) := []
  latches : List (Nat × Word) := []
  spiHeld : Option SpiHeld := none
  boot : Boot := {}
  clk : Clock := {}
  quads : Vector Quad 4 := Vector.replicate 4 {}
  /-- The bank in force and, in the mixed window, the one before it (R236). -/
  alm : Bank := {}
  oldAlm : Bank := {}
  almValid : Bool := false
  stage : Staging := {}
  apply : Apply := {}
  logs : Vector Logbook 16 := Vector.replicate 16 {}
  queues : Vector Queue 8 := Vector.replicate 8 {}
  /-- Records handed to the writer and not yet admitted, in order (R660). -/
  handed : List Rec := []
  /-- MARK entries processed since reset (R685). -/
  marks : Nat := 0
  /-- The pool: entries in use by index, and the incarnation of each entry (R376, R377). -/
  pool : List (Nat × Ticket) := []
  incarn : List (Nat × Nat) := []
  lanes : Vector Lane 32 := Vector.replicate 32 {}
  ports : Vector Port 136 := Vector.replicate 136 {}
  /-- Tickets that have entered a lane queue since reset (R237). -/
  queuings : Nat := 0
  /-- Bridges whose rest has not expired (R261). -/
  rests : List (Fin 2176) := []
  shut : Shutter := {}
  xports : Vector XPort 8 := Vector.replicate 8 {}
  /-- The cards of extension port x at 4x + c. -/
  cards : Vector Card 32 := Vector.replicate 32 {}
  red : Reduction := {}
  colls : Vector Coll 4 := Vector.replicate 4 {}
  /-- The mask of each bridge's last completed run (R454), and the edges of last starts (R443). -/
  collMasks : List (Nat × Nat) := []
  collStarts : List (Nat × Nat) := []
  axes : Vector Axis 8 := Vector.replicate 8 {}
  sched : List (Nat × SchedEntry) := []
  schedRun : Bool := false
  /-- Entries of the schedule table that have fired on the present CCLK edge (R490). -/
  fired : Nat := 0
  /-- The last CCLK edge whose own work has been done (log entry 16). -/
  worked : Nat := 0
  chronos : Vector Chrono 64 := Vector.replicate 64 {}
  /-- Chronographs that have still to take an edge of their internal source on the present CCLK edge, in ascending order, and
  whether it rises (R530, R536). -/
  caps : List (Fin 64 × Bool) := []
  outs : Vector Out 32 := Vector.replicate 32 {}
  cmps : Vector Cmp 64 := Vector.replicate 64 {}
  /-- TRIP_CFG has been written since reset (R600). -/
  tripCfgWritten : Bool := false
  /-- What the comparators have still to do, each with its edge; and the TRIP lines as driven (Table 15.3). -/
  tripJobs : List (Nat × TripJob) := []
  tripOut : BitVec 8 := 0
  link : Link := {}
  vault : Vault := {}
  outputs : List Output := []
  /-- Wires still to be worked off; empty between commands (log entry 15). -/
  events : List Ev := []
  /-- The model's own counter of free values (log entry 2). -/
  free : Nat := 0
  deriving DecidableEq, Repr

/-- What survives the loss of the control supplies: the fuses and the vault's cells (R91, R122). -/
structure NonVolatile where
  /-- The fuse array (R119, R122). -/
  fuses : BitVec 4096 := 0
  /-- The home pages, as cells (R739). -/
  home : List Host.Cell := []
  /-- The slots of the journal: page and its 256 bytes (R750). -/
  journal : List (Nat × List Byte) := []
  /-- The descriptor in force: its kind and sequence number (R759). -/
  kind : DescKind := .closed
  seq : Word := 0
  deriving DecidableEq, Repr

/-- The state of the block. -/
structure State where
  dev : Dev
  nv : NonVolatile
  /-- The commands that wait, first in, first out. -/
  pending : List Instr
  deriving DecidableEq, Repr

/-- The fuses of a part as the model starts it: a factory zone of zeros with its own CRC in word 63 (log entry 5). -/
def factoryFuses : BitVec 4096 :=
  BitVec.ofNat 4096 ((crc32 (List.replicate 252 0)).toNat * 2 ^ (32 * 63))

/-- The device right after RST_N rises (R799): every field at the value the spec gives for reset, or at the value that a
log entry names. -/
def State.reset : State :=
  { dev := {}, nv := { fuses := factoryFuses }, pending := [] }

end Sys2Proof.Machine
end

