-- ==== Sys2Proof/Machine/Alm.lean ====
section
/-! DEFINITION. The entries of an almanac bank as their fields (05_almanac.md, Tables 5.4 to 5.12). An entry that a bank
does not list is in its zero state, and every field of it reads 0 (R207). -/
namespace Sys2Proof.Machine

/-- The bytes of an entry; none listed for the zero state. -/
def entryOf (t : List (Nat × List Byte)) (k : Nat) : List Byte := tget [] t k

/-- A byte of an entry as a number. -/
def byteAt (bs : List Byte) (off : Nat) : Nat := field bs off 1

/-- A FABRIC entry (Table 5.4). -/
structure Fabric where
  lane : Fin 32
  inService : Bool
  collimate : Bool
  unit : Nat
  exponent : Int
  reducer : Option (Fin 8)
  tempSrc : Nat
  companion : Nat
  dischargeUs : Nat
  deriving DecidableEq, Repr

/-- A number below `n + 1` from any number, by its remainder. -/
def toFin (n : Nat) (v : Nat) : Fin (n + 1) := Fin.ofNat (n + 1) v

/-- The FABRIC entry of bridge index `b`. -/
def fabricOf (k : Bank) (b : Nat) : Fabric :=
  let e := entryOf k.fabric b
  { lane := toFin 31 (byteAt e 2)
    inService := byteAt e 3 % 2 = 1
    collimate := byteAt e 3 / 2 % 2 = 1
    unit := byteAt e 4
    exponent := signedOf 8 (byteAt e 5)
    reducer := if byteAt e 6 < 8 then some (toFin 7 (byteAt e 6)) else none
    tempSrc := byteAt e 7
    companion := field e 8 2
    dischargeUs := byteAt e 10 }

/-- A FILTER entry (Table 5.5). -/
structure Filter where
  firSet : Nat
  lineAxis : Option (Fin 8)
  totalDec : Nat
  lineCycles : Nat
  settle : Nat
  deriving DecidableEq, Repr

/-- The FILTER entry of profile `p` of quadrant `q`. -/
def filterOf (k : Bank) (q p : Nat) : Filter :=
  let e := entryOf k.filter (16 * q + p)
  { firSet := byteAt e 2
    lineAxis := if byteAt e 3 < 8 then some (toFin 7 (byteAt e 3)) else none
    totalDec := field e 4 4
    lineCycles := byteAt e 8
    settle := field e 10 2 }

/-- S_set of a FIR set (Table 8.2). -/
def settleSamples (firSet : Nat) : Nat :=
  match firSet with
  | 0 => 5
  | 1 => 4
  | 2 => 3
  | 3 => 2
  | _ => 5

/-- D_f of a FIR set (Table 8.2). -/
def firDec (firSet : Nat) : Nat :=
  match firSet with
  | 0 => 1
  | 1 => 2
  | 2 => 4
  | _ => 8

/-- An EXCITE entry (Table 5.6). -/
structure Excite where
  level : Nat
  ilimit : Nat
  prewarm : Bool
  settleUs : Nat
  duty : Nat
  prewarmN : Nat
  deriving DecidableEq, Repr

/-- The EXCITE entry of profile `p`. -/
def exciteOf (k : Bank) (p : Nat) : Excite :=
  let e := entryOf k.excite p
  { level := byteAt e 1
    ilimit := byteAt e 2
    prewarm := byteAt e 3 % 2 = 1
    settleUs := field e 4 4
    duty := field e 8 2
    prewarmN := field e 10 2 }

/-- A REDUCE entry (Table 5.7). -/
structure ReduceEntry where
  en : Bool
  maxI : Nat
  maxJ : Nat
  hostTemp : BitVec 24
  deriving DecidableEq, Repr

/-- The REDUCE entry of reducer `r`. -/
def reduceOf (k : Bank) (r : Nat) : ReduceEntry :=
  let e := entryOf k.reduce r
  { en := byteAt e 1 % 2 = 1
    maxI := byteAt e 2
    maxJ := byteAt e 3
    hostTemp := BitVec.ofNat 24 (field e 4 3) }

/-- The value of a coefficient word: mantissa and exponent (R73). -/
def coefOf (v : Nat) : Int × Int := (signedOf 40 (v / 256), signedOf 8 (v % 256))

/-- An OUTPUT entry (Table 5.8). -/
structure OutEntry where
  range : Nat
  refGain : Nat
  clkSrc : Nat
  clkArg : Nat
  bind : Option Nat
  safe : Int
  clear : Int
  gain : Int × Int
  offset : Int
  deriving DecidableEq, Repr

/-- The OUTPUT entry of channel `n`. A zero-state entry names no binding (R207, R213). -/
def outputOf (k : Bank) (n : Nat) : OutEntry :=
  let e := entryOf k.output n
  { range := byteAt e 1
    refGain := byteAt e 2
    clkSrc := byteAt e 3
    clkArg := field e 4 2
    bind := if byteAt e 1 = 0 ∨ field e 6 2 = 0xFFFF then none else some (field e 6 2)
    safe := signedOf 32 (field e 8 4)
    clear := signedOf 32 (field e 12 4)
    gain := coefOf (field e 16 6)
    offset := signedOf 32 (field e 24 4) }

/-- The limits of an output range (Table 14.1). -/
def rangeLimits (range : Nat) : Int × Int :=
  match range with
  | 1 => (0, 5000000)
  | 2 => (0, 10000000)
  | 3 => (-5000000, 5000000)
  | 4 => (-10000000, 10000000)
  | 5 => (0, 20000000)
  | 6 => (4000000, 20000000)
  | 7 => (0, 24000000)
  | _ => (0, 0)

/-- The sources of an axis (Table 12.1). -/
inductive AxisSource where
  | internal | encoder | line (q : Fin 4) | ring | tach (n : Fin 64)
  deriving DecidableEq, Repr

/-- An EPHEM instance 0 entry (Table 5.9). -/
structure AxisEntry where
  source : AxisSource
  reverse : Bool
  counts : Nat
  deriving DecidableEq, Repr

/-- The axis entry of axis `a`; a line-sense axis has one edge per cycle (Table 12.1). -/
def axisOf (k : Bank) (a : Nat) : AxisEntry :=
  let e := entryOf k.axes a
  let src : AxisSource := match byteAt e 1 with
    | 1 => .encoder
    | 2 => .line (toFin 3 (byteAt e 2))
    | 3 => .ring
    | 4 => .tach (toFin 63 (byteAt e 2))
    | _ => .internal
  { source := src
    reverse := byteAt e 3 % 2 = 1
    counts := match src with
      | .line _ => 1
      | _ => max 1 (field e 4 4) }

/-- An EPHEM instance 1 entry (Table 5.9). -/
structure TableEntry where
  axis : Fin 8
  action : Nat
  arg : Word
  position : W48
  period : Nat
  deriving DecidableEq, Repr

/-- The schedule-table entry of index `i`. -/
def tableOf (k : Bank) (i : Nat) : TableEntry :=
  let e := entryOf k.table i
  { axis := toFin 7 (byteAt e 2)
    action := byteAt e 3
    arg := wordAt e 4
    position := BitVec.ofNat 48 (field e 8 6)
    period := field e 14 6 }

/-- A CHRONO entry (Table 5.10). -/
structure ChronoEntry where
  mode : Nat
  prescale : Nat
  filter : Nat
  edgeDiv : Nat
  capSrc : Nat
  deriving DecidableEq, Repr

/-- The CHRONO entry of channel `n`. -/
def chronoOf (k : Bank) (n : Nat) : ChronoEntry :=
  let e := entryOf k.chrono n
  { mode := byteAt e 1
    prescale := byteAt e 2
    filter := byteAt e 3
    edgeDiv := field e 4 2
    capSrc := byteAt e 6 }

/-- A TRIP entry (Table 5.11). -/
structure TripEntry where
  en : Bool
  reduced : Bool
  bridge : Nat
  low : Int
  high : Int
  hyst : Int
  persist : Nat
  actions : Nat
  pin : Fin 8
  deriving DecidableEq, Repr

/-- The TRIP entry that a comparator's bytes hold. -/
def tripFields (e : List Byte) : TripEntry :=
  { en := byteAt e 1 % 2 = 1
    reduced := byteAt e 1 / 2 % 2 = 1
    bridge := field e 2 2
    low := signedOf 40 (field e 4 5)
    high := signedOf 40 (field e 9 5)
    hyst := signedOf 40 (field e 14 5)
    persist := byteAt e 19
    actions := byteAt e 20
    pin := toFin 7 (byteAt e 21) }

/-- The TRIP entry of comparator `i`. -/
def tripOf (k : Bank) (i : Nat) : TripEntry := tripFields (entryOf k.trip i)

/-- The LINK entry (Table 5.12). -/
structure LinkEntry where
  eastEn : Bool
  westEn : Bool
  timekeeper : Bool
  enumerate : Bool
  ringSize : Nat
  deriving DecidableEq, Repr

/-- The LINK entry of a bank. -/
def linkOf (k : Bank) : LinkEntry :=
  let e := entryOf k.link 0
  { eastEn := byteAt e 0 % 2 = 1
    westEn := byteAt e 0 / 2 % 2 = 1
    timekeeper := byteAt e 0 / 4 % 2 = 1
    enumerate := byteAt e 0 / 8 % 2 = 1
    ringSize := field e 2 2 }

/-- The axis whose stamps a logbook's records carry (R672). -/
def logbookAxis (k : Bank) (b : Nat) : Fin 8 := toFin 7 (byteAt (entryOf k.logbook b) 1)

/-! ### Where things lie (Table 0.2, R21, R22) -/

/-- The quadrant of a bridge index. -/
def quadOfBridge (b : Nat) : Fin 4 := if b < 128 then toFin 3 (b / 32) else toFin 3 ((b - 128) / 512)

/-- The quadrant of a lane or an output. -/
def quadOf8 (n : Nat) : Fin 4 := toFin 3 (n / 8)

/-- The port of a bridge: 0 to 127 direct, 128 + x on extension port x. -/
def portOfBridge (b : Nat) : Fin 136 := if b < 128 then toFin 135 b else toFin 135 (128 + (b - 128) / 256)

/-- The extension port, card and slot of an extension bridge (R21). -/
def extOfBridge (b : Nat) : Option (Fin 8 × Fin 4 × Fin 64) :=
  if b < 128 then none
  else some (toFin 7 ((b - 128) / 256), toFin 3 ((b - 128) / 64 % 4), toFin 63 ((b - 128) % 64))

/-- The quadrant of an extension port. -/
def quadOfXport (x : Fin 8) : Fin 4 := toFin 3 (x.val / 2)

/-- The quadrant of a port: direct ports 0 to 127, extension ports 128 to 135. -/
def quadOfPort (p : Nat) : Fin 4 := if p < 128 then toFin 3 (p / 32) else toFin 3 ((p - 128) / 2)

end Sys2Proof.Machine
end

