-- ==== Sys2Proof/Machine/Ops.lean ====
section
/-! DEFINITION. The named operations over the device: the register file, free values, what leaves the device, interrupt
signals, and CCLK. -/
namespace Sys2Proof.Machine

/-! ### Outcomes -/

/-- A command changes the device only: the fuses, the vault's cells and the queue keep what they hold. -/
def toDev (s : State) (d : Dev) : Host.Outcome State Fault Refusal := .next { s with dev := d }

/-- A command changes the device and what survives the supplies. -/
def toDevNv (s : State) (d : Dev) (v : NonVolatile) : Host.Outcome State Fault Refusal :=
  .next { s with dev := d, nv := v }

/-! ### The register file (R55, R799) -/

/-- The word stored at a BAR0 offset. -/
def Dev.word (d : Dev) (off : Nat) : Word := tget (resetWord off) d.regs off

/-- Stores a word at a BAR0 offset. -/
def Dev.setWord (d : Dev) (off : Nat) (w : Word) : Dev := { d with regs := tset (resetWord off) d.regs off w }

/-- The stored (low) word of a register. -/
def Dev.rd (d : Dev) (r : Reg) : Word := d.word r.offset

/-- The stored high word of a two-half register. -/
def Dev.rdHi (d : Dev) (r : Reg) : Word := d.word (r.offset + 4)

/-- Stores the (low) word of a register. -/
def Dev.wr (d : Dev) (r : Reg) (w : Word) : Dev := d.setWord r.offset w

/-- Stores the high word of a two-half register. -/
def Dev.wrHi (d : Dev) (r : Reg) (w : Word) : Dev := d.setWord (r.offset + 4) w

/-- The 48-bit value of a two-half register (Table 2.3). -/
def Dev.rd48 (d : Dev) (r : Reg) : W48 := of48 (d.rd r) (d.rdHi r)

/-- Stores a 48-bit value in a two-half register. -/
def Dev.wr48 (d : Dev) (r : Reg) (v : W48) : Dev := (d.wr r (lo48 v)).wrHi r (hi48 v)

/-- The 64-bit value of a two-half register. -/
def Dev.rd64 (d : Dev) (r : Reg) : Nat := (d.rd r).toNat + (d.rdHi r).toNat * 2 ^ 32

/-- Stores a ratio word or reduced value in a two-half register (Table 2.3). -/
def Dev.wrRatio (d : Dev) (r : Reg) (v : Ratio) : Dev := (d.wr r (ratioLo v)).wrHi r (ratioHi v)

/-- Sets bits of a register. -/
def Dev.setBits (d : Dev) (r : Reg) (m : Word) : Dev := d.wr r (d.rd r ||| m)

/-- Clears bits of a register. -/
def Dev.clrBits (d : Dev) (r : Reg) (m : Word) : Dev := d.wr r (d.rd r &&& ~~~m)

/-- Adds to a register's 32-bit count, which saturates. -/
def Dev.count (d : Dev) (r : Reg) (k : Nat) : Dev := d.wr r (satAdd (d.rd r) k)

/-- Adds to a count in a field, which saturates. -/
def Dev.countFld (d : Dev) (r : Reg) (lo len k : Nat) : Dev := d.wr r (satFld (d.rd r) lo len k)

/-- A field of a register's (low) word. -/
def Dev.fld (d : Dev) (r : Reg) (lo len : Nat) : Nat := Machine.fld (d.rd r) lo len

/-- A bit of a register's (low) word. -/
def Dev.bit (d : Dev) (r : Reg) (i : Nat) : Bool := Machine.bit (d.rd r) i

/-! ### Parts of the device -/

/-- A lane replaced. -/
def Dev.setLane (d : Dev) (n : Fin 32) (l : Lane) : Dev := { d with lanes := d.lanes.set n l }

/-- A lane changed by a function. -/
def Dev.onLane (d : Dev) (n : Fin 32) (f : Lane → Lane) : Dev := d.setLane n (f d.lanes[n])

/-- A port changed by a function. -/
def Dev.onPort (d : Dev) (p : Fin 136) (f : Port → Port) : Dev := { d with ports := d.ports.set p (f d.ports[p]) }

/-- The bus master of an extension port changed by a function. -/
def Dev.onX (d : Dev) (x : Fin 8) (f : XPort → XPort) : Dev := { d with xports := d.xports.set x (f d.xports[x]) }

/-- The number of card c of extension port x among the cards. -/
def cardIx (x : Fin 8) (c : Fin 4) : Fin 32 := toFin 31 (4 * x.val + c.val)

/-- A card changed by a function. -/
def Dev.onCard (d : Dev) (x : Fin 8) (c : Fin 4) (f : Card → Card) : Dev :=
  { d with cards := d.cards.set (cardIx x c) (f d.cards[cardIx x c]) }

/-- A quadrant changed by a function. -/
def Dev.onQuad (d : Dev) (q : Fin 4) (f : Quad → Quad) : Dev := { d with quads := d.quads.set q (f d.quads[q]) }

/-- A logbook changed by a function. -/
def Dev.onLog (d : Dev) (b : Fin 16) (f : Logbook → Logbook) : Dev := { d with logs := d.logs.set b (f d.logs[b]) }

/-- A request queue changed by a function. -/
def Dev.onQueue (d : Dev) (k : Fin 8) (f : Queue → Queue) : Dev := { d with queues := d.queues.set k (f d.queues[k]) }

/-- An axis changed by a function. -/
def Dev.onAxis (d : Dev) (a : Fin 8) (f : Axis → Axis) : Dev := { d with axes := d.axes.set a (f d.axes[a]) }

/-- A chronograph changed by a function. -/
def Dev.onChrono (d : Dev) (n : Fin 64) (f : Chrono → Chrono) : Dev :=
  { d with chronos := d.chronos.set n (f d.chronos[n]) }

/-- An output channel changed by a function. -/
def Dev.onOut (d : Dev) (n : Fin 32) (f : Out → Out) : Dev := { d with outs := d.outs.set n (f d.outs[n]) }

/-- A comparator changed by a function. -/
def Dev.onCmp (d : Dev) (i : Fin 64) (f : Cmp → Cmp) : Dev := { d with cmps := d.cmps.set i (f d.cmps[i]) }

/-- A reducer changed by a function. -/
def Dev.onRed (d : Dev) (r : Fin 8) (f : Reducer → Reducer) : Dev :=
  { d with red := { d.red with reducers := d.red.reducers.set r (f d.red.reducers[r]) } }

/-- A collimation engine changed by a function. -/
def Dev.onColl (d : Dev) (q : Fin 4) (f : Coll → Coll) : Dev := { d with colls := d.colls.set q (f d.colls[q]) }

/-- The clocks changed by a function. -/
def Dev.onClk (d : Dev) (f : Clock → Clock) : Dev := { d with clk := f d.clk }

/-- Boot state changed by a function. -/
def Dev.onBoot (d : Dev) (f : Boot → Boot) : Dev := { d with boot := f d.boot }

/-- The link changed by a function. -/
def Dev.onLink (d : Dev) (f : Link → Link) : Dev := { d with link := f d.link }

/-- The vault's control side changed by a function. -/
def Dev.onVault (d : Dev) (f : Vault → Vault) : Dev := { d with vault := f d.vault }

/-- A ticket of the pool, if the entry is in use. -/
def Dev.ticket (d : Dev) (t : Nat) : Option Ticket := (d.pool.find? (·.1 = t)).map (·.2)

/-- A pool entry replaced, or put into use. -/
def Dev.setTicket (d : Dev) (t : Nat) (k : Ticket) : Dev := { d with pool := tins t k (tdel d.pool t) }

/-- A pool entry changed by a function, when it is in use. -/
def Dev.onTicket (d : Dev) (t : Nat) (f : Ticket → Ticket) : Dev :=
  { d with pool := d.pool.map (fun e => if e.1 = t then (e.1, f e.2) else e) }

/-- A pool entry released (R376). -/
def Dev.freeTicket (d : Dev) (t : Nat) : Dev := { d with pool := tdel d.pool t }

/-- A ticket's handle: its index and the incarnation of its entry (R377). -/
def Dev.handle (d : Dev) (t : Nat) : Word := at_ (tget 0 d.incarn t) 11 ||| at_ t 0

/-! ### Free values -/

/-- The next free value; the counter moves on (log entry 2). -/
def Dev.takeFree (d : Dev) : BitVec 64 × Dev := (Config.freeWord d.free, { d with free := d.free + 1 })

/-! ### What leaves the device -/

/-- Something leaves the device. -/
def Dev.emit (d : Dev) (o : Output) : Dev := { d with outputs := d.outputs ++ [o] }

/-- One engine tells the others something. -/
def Dev.post (d : Dev) (e : Ev) : Dev := { d with events := d.events ++ [e] }

/-- The endpoint may issue memory requests: PERST_N is high, Bus Master Enable is 1 and the function is in D0 (R107,
R609, R626). -/
def Dev.canMaster (d : Dev) : Bool := d.boot.perstHigh && d.boot.busMaster && !d.boot.d3hot

/-- A vector may send its message now: MSI-X is enabled, and neither the function nor the vector is masked (R625). A
vector's control word is masked until it is written. -/
def Dev.vectorOpen (d : Dev) (v : Fin 64) : Bool :=
  d.boot.msixEnable && !d.boot.msixMask && !Machine.bit (tget 1 d.boot.msixTable (4 * v.val + 3)) 0

/-- Signals a vector: the message leaves at once, or the vector's pending bit is set; while PERST_N is low the signal is
lost (R626). -/
def Dev.signal (d : Dev) (v : Fin 64) : Dev :=
  if d.boot.perstHigh = false then d
  else if d.canMaster && d.vectorOpen v then d.emit (.msix v)
  else d.onBoot (fun b => { b with msixPending := b.msixPending ||| (1#64 <<< v.val) })

/-- The vector that the 6-bit field at bit 8 of a control register names. -/
def Dev.vecOf (d : Dev) (r : Reg) : Fin 64 := toFin 63 (d.fld r 8 6)

/-! ### CCLK (Table 4.1, R461) -/

/-- One CCLK period in units of 2^-16 ns. -/
def Dev.period (d : Dev) : Nat :=
  match d.clk.now with
  | .mhz250 => 4 * 65536
  | .mhz125 => 8 * 65536
  | .mhz62 => 16 * 65536
  | .refclk => 40 * 65536
  | .lpo => (d.rd .lpoPeriod).toNat

/-- The CCLK frequency in Hz, while CCLK runs from REFCLK or the core PLL. -/
def Dev.hertz (d : Dev) : Nat :=
  match d.clk.now with
  | .mhz250 => 250000000
  | .mhz125 => 125000000
  | .mhz62 => 62500000
  | _ => 25000000

/-- The code of a CCLK selection (Table 4.7). -/
def Cclk.code : Cclk → Nat
  | .mhz250 => 0
  | .mhz125 => 1
  | .mhz62 => 2
  | .refclk => 3
  | .lpo => 4

/-- The selection a CCLK_SEL code names (R159). -/
def cclkOf (sel : Nat) : Cclk :=
  match sel with
  | 1 => .mhz125
  | 2 => .mhz62
  | _ => .mhz250

/-! ### Questions that many rules ask -/

/-- CCLK or the low-power oscillator runs the control die: it is out of reset (R90, R99). -/
def Dev.alive (d : Dev) : Bool := decide (d.boot.phase ≠ .off) && decide (d.boot.phase ≠ .inReset)

/-- The engines that CCLK drives run: the device is alive and not in SLEEP (R178, Table 4.4). -/
def Dev.clocked (d : Dev) : Bool := d.alive && decide (d.boot.phase ≠ .sleep)

/-- The generation in force, 0x00 while ALM_VALID is 0 (R671). -/
def Dev.genInForce (d : Dev) : Byte := if d.almValid then d.alm.gen else 0

/-- A lane's bank: the old one until it has passed its switch edge (R234, R236). -/
def Dev.laneBank (d : Dev) (n : Fin 32) : Bank := if d.lanes[n].old then d.oldAlm else d.alm

/-- The bank of a plate or value. -/
def Dev.bankOf (d : Dev) (old : Bool) : Bank := if old then d.oldAlm else d.alm

/-- A fuse field as FUSING loaded it: bits [lo+len-1:lo] of word w (R121, Table 3.13). -/
def Dev.fuse (d : Dev) (w lo len : Nat) : Nat := d.boot.loaded.toNat / 2 ^ (32 * w + lo) % 2 ^ len

/-- PD_CTRL Q_OFF bit q (Table 4.7). -/
def Dev.qOff (d : Dev) (q : Fin 4) : Bool := d.bit .pdCtrl (2 + q.val)

/-- An apply is in progress (R226). -/
def Dev.applying (d : Dev) : Bool := d.apply.phase ≠ .idle

/-- A bridge's quarantine bit (R456). -/
def Dev.quarantined (d : Dev) (b : Fin 2176) : Bool :=
  Machine.bit (d.word (0x1E1000 + 4 * (b.val / 32))) (b.val % 32)

/-- CARD_INFO STATE of a card (Table 7.10): 0 ABSENT, 1 PRESENT, 2 FAILED, 3 PROBING. -/
def Dev.cardState (d : Dev) (x : Fin 8) (c : Fin 4) : Nat := d.fld (.cardInfo x c) 30 2

/-- Does `f` for every number of a list, in order. -/
def forEach (l : List α) (f : α → Dev → Dev) (d : Dev) : Dev := l.foldl (fun s a => f a s) d

/-- The lanes of a quadrant. -/
def lanesOf (q : Fin 4) : List (Fin 32) := (List.range 8).map (fun i => toFin 31 (8 * q.val + i))

/-- The channels of a quadrant. -/
def outsOf (q : Fin 4) : List (Fin 32) := lanesOf q

/-- The ports of a quadrant: its 32 direct ports and its 2 extension ports. -/
def portsOf (q : Fin 4) : List (Fin 136) :=
  (List.range 32).map (fun i => toFin 135 (32 * q.val + i)) ++ [toFin 135 (128 + 2 * q.val), toFin 135 (129 + 2 * q.val)]

/-- The extension ports of a quadrant. -/
def xportsOf (q : Fin 4) : List (Fin 8) := [toFin 7 (2 * q.val), toFin 7 (2 * q.val + 1)]

/-- All lanes, in ascending order. -/
def allLanes : List (Fin 32) := List.finRange 32

end Sys2Proof.Machine
end

