-- ==== Sys2Proof/Machine/Axes.lean ====
section
/-! DEFINITION. Axis positions, stamps and the axis flags that records carry (12_ephemeris.md, R461 to R475, R496,
R497). -/
namespace Sys2Proof.Machine

/-- The edge position E(c, e) of an axis with N edges per cycle (R468). -/
def edgePos (n c e : Nat) : W48 := BitVec.ofNat 48 (c * 2 ^ 24 + (roundDiv ((e : Int) * 2 ^ 24) n).toNat)

/-- The counts one forward edge on (R469). -/
def edgeForward (n c e : Nat) : Nat × Nat := if e + 1 < n then (c, e + 1) else ((c + 1) % 2 ^ 24, 0)

/-- The counts one reverse edge on (R469). -/
def edgeReverse (n c e : Nat) : Nat × Nat := if e = 0 then ((c + 2 ^ 24 - 1) % 2 ^ 24, n - 1) else (c, e - 1)

/-- Whether an axis is driven by edges (Table 12.1). -/
def AxisSource.edgeDriven : AxisSource → Bool
  | .encoder => true
  | .line _ => true
  | .tach _ => true
  | _ => false

/-- The interpolation step g of an edge-driven axis: from its last edge position to the next one forward (R471). -/
def stepLen (n : Nat) (x : Axis) : Nat :=
  let nxt := edgeForward n x.c x.e
  (edgePos n nxt.1 nxt.2 - edgePos n x.c x.e).toNat

/-- The interpolation term of R471 at time `tau`, when the period is known. -/
def interpolate (n : Nat) (x : Axis) (tau : Int) : Option Nat :=
  match x.period, x.last with
  | some p, some t =>
    let r := roundDiv ((tau - t) * (stepLen n x : Int)) p
    some (min (max r 0) ((stepLen n x : Int) - 1)).toNat
  | _, _ => none

/-- The position of a time-derived axis: 1 ms per cycle, rounded half to even (R466, R467). `t` in 2^-18 ns. -/
def timePos (t : Int) : W48 := stampOfInt (roundDiv (t * 2 ^ 24) (1000000 * 262144))

/-- The position of axis `a` at time `tau` (R466, R467, R471, R475); 0 before the first activation (R462). -/
def Dev.axisPosAt (d : Dev) (a : Fin 8) (tau : Int) : W48 :=
  if d.almValid = false then 0
  else
    let x := d.axes[a]
    let e := axisOf d.alm a.val
    match e.source with
    | .internal => timePos (4 * tau - x.start)
    | .ring => timePos (4 * (d.link.rho + (tau - d.clk.tau)))
    | _ =>
      if x.known = false then x.held
      else
        edgePos e.counts x.c x.e + BitVec.ofNat 48 ((interpolate e.counts x tau).getD 0)

/-- The position of axis `a` on the present CCLK edge. -/
def Dev.axisPos (d : Dev) (a : Fin 8) : W48 := d.axisPosAt a d.clk.tau

/-- The cycle field of an axis stands later than it did in `old`. -/
def Dev.cycleStepped (d old : Dev) (a : Fin 8) : Bool :=
  let x := old.axisPos a
  let y := d.axisPos a
  decide (y >>> 24 ≠ x >>> 24) && laterThan y x

/-- Tells the chronographs of every axis whose cycle field stands later than it did in `old` (Table 13.1). -/
def Dev.cyclePulses (d old : Dev) : Dev :=
  forEach (List.finRange 8) (fun a e => if d.cycleStepped old a then e.post (.pulse (0x60 + a.val)) else e) d

/-- HOLD as R473 defines it: the interpolation stands at its clamp, or the period is unknown. -/
def Dev.atClamp (d : Dev) (a : Fin 8) : Bool :=
  let e := axisOf d.alm a.val
  e.source.edgeDriven &&
    match interpolate e.counts d.axes[a] d.clk.tau with
    | some k => d.axes[a].known = false || decide (k + 1 = stepLen e.counts d.axes[a])
    | none => true

/-- STALL as R473 defines it; the tolerance is a whole number of ns. -/
def Dev.overdue (d : Dev) (a : Fin 8) : Bool :=
  d.atClamp a &&
    match d.axes[a].period, d.axes[a].last with
    | some p, some t => decide (d.clk.tau - t > (p + p * d.fld (.axCtrl a) 8 8 / (256 * 65536) * 65536 : Nat))
    | _, _ => true

/-- EST of an axis: its own flag, or a ring-time axis while ALIGNED is 0 (R482, R715). -/
def Dev.axisEst (d : Dev) (a : Fin 8) : Bool :=
  d.axes[a].est || (decide ((axisOf d.alm a.val).source = .ring) && !d.link.aligned)

/-- The axis id of R68, at bits [31:16] of the high stamp word (R87). While this node holds no valid ID, which R718 leaves open,
the node field shows the node number that the link keeps: 0 after a reset, the former ID after an enumeration that gave none (log
entry 120). -/
def Dev.axisId (d : Dev) (a : Fin 8) : Word := at_ (d.link.node % 256) 24 ||| at_ a.val 16

/-- The high stamp word of a position of axis `a` (R87). -/
def Dev.stampHi (d : Dev) (a : Fin 8) (p : W48) : Word := hi48 p ||| d.axisId a

/-- STALL and EST of an axis, in bits 23 and 22 of w2 (Table 17.1, R497). -/
def Dev.axisFlags (d : Dev) (a : Fin 8) : Word := mkBit d.axes[a].stall 23 ||| mkBit (d.axisEst a) 22

/-- The axis of a logbook in the generation in force (R672). -/
def Dev.logAxis (d : Dev) (b : Fin 16) : Fin 8 := logbookAxis d.alm b.val

end Sys2Proof.Machine
end

