-- ==== Sys2Proof/Machine/Records.lean ====
section
/-! DEFINITION. Records, their hand-over and admission, logbook rings, the buffer, loss runs, epoch marks, tail
write-back and moderation (17_logbook.md). -/
namespace Sys2Proof.Machine

/-! ### Record codes (Tables 17.2 and 17.3) -/

/-- The record types. -/
inductive RecType where
  | plate | cancelled | completion | mark | fault | capture | transit | output | slip | lost | configApplied
  | clockChange | wake | thermal | link
  deriving DecidableEq, Repr

/-- The code of a record type (Table 17.2). -/
def RecType.code : RecType → Byte
  | .plate => 0x01
  | .cancelled => 0x02
  | .completion => 0x03
  | .mark => 0x04
  | .fault => 0x05
  | .capture => 0x06
  | .transit => 0x07
  | .output => 0x08
  | .slip => 0x09
  | .lost => 0x0A
  | .configApplied => 0x0B
  | .clockChange => 0x0C
  | .wake => 0x0D
  | .thermal => 0x0E
  | .link => 0x0F

/-- The source classes. -/
inductive SrcClass where
  | lane | scheduler | queue | ephemeris | chrono | comparator | output | xport | collimation | device | system
  | link | writer
  deriving DecidableEq, Repr

/-- The code of a source class (Table 17.3). -/
def SrcClass.code : SrcClass → Byte
  | .lane => 0x01
  | .scheduler => 0x02
  | .queue => 0x03
  | .ephemeris => 0x04
  | .chrono => 0x05
  | .comparator => 0x06
  | .output => 0x07
  | .xport => 0x08
  | .collimation => 0x09
  | .device => 0x0A
  | .system => 0x0B
  | .link => 0x0C
  | .writer => 0x0D

/-- A record whose event edge is the present edge (R670 to R672, R496). `spec` holds the w2 bits [19:0] of its type. -/
def Dev.mkRec (d : Dev) (ty : RecType) (cls : SrcClass) (idx : Nat) (log : Fin 16) (spec w5 w6 w7 : Word) : Rec :=
  let a := d.logAxis log
  let p := d.axisPos a
  { kind := ty.code, cls := cls.code, idx := idx
    w2 := at_ d.genInForce.toNat 24 ||| d.axisFlags a ||| spec
    w3 := lo48 p, w4 := d.stampHi a p
    w5 := w5, w6 := w6, w7 := w7
    log := log, cycle := d.clk.cycle, epoch := d.marks, cause := none }

/-- Whether record `a` is handed over before record `b` takes its number: an earlier edge, or on one edge the lower
source class, then the lower index (R660). -/
def Rec.before (a b : Rec) : Bool :=
  decide (a.cycle < b.cycle) ||
    (decide (a.cycle = b.cycle) &&
      (decide (a.cls.toNat < b.cls.toNat) || (decide (a.cls = b.cls) && decide (a.idx ≤ b.idx))))

/-- Puts a record behind every record that precedes it. -/
def insertRec (r : Rec) : List Rec → List Rec
  | [] => [r]
  | a :: t => if a.before r then a :: insertRec r t else r :: a :: t

/-- A source hands a record to the logbook writer (R660). -/
def Dev.handOver (d : Dev) (r : Rec) : Dev := { d with handed := insertRec { r with cycle := d.clk.cycle } d.handed }

/-- A record written when a condition of its source holds. -/
def Dev.handOverIf (d : Dev) (c : Bool) (r : Rec) : Dev := if c then d.handOver r else d

/-! ### The ring (R651 to R659) -/

/-- LB_CTRL EN (Table 17.9). -/
def Dev.logOn (d : Dev) (b : Fin 16) : Bool := d.bit (.lbCtrl b) 31

/-- The number of slots of a logbook (R651). -/
def Dev.ringSize (d : Dev) (b : Fin 16) : Nat := 2 ^ d.fld (.lbCtrl b) 0 5

/-- HEAD of a logbook. -/
def Dev.ringHead (d : Dev) (b : Fin 16) : Nat := d.fld (.lbHead b) 0 16

/-- The ring is full (R653). -/
def Dev.ringFull (d : Dev) (b : Fin 16) : Bool := (d.logs[b].tail + 1) % d.ringSize b = d.ringHead b

/-- A record may be written to the ring now: EN is 1, the ring is not full and the device writes logbooks (R107, R609,
R663). -/
def Dev.ringOpen (d : Dev) (b : Fin 16) : Bool := d.logOn b && !d.ringFull b && d.canMaster

/-- The eight words of a record with its number (Table 17.1). -/
def Rec.words (r : Rec) (seq : Word) (buffered : Bool) : List Word :=
  [at_ r.kind.toNat 24 ||| at_ r.cls.toNat 16 ||| at_ (r.idx % 65536) 0, seq, r.w2 ||| mkBit buffered 21, r.w3, r.w4,
   r.w5, r.w6, r.w7]

/-- The tail write-back (R656): TAIL and the number of the last record written, unless LB_TAIL_WB is 0 by now. -/
def Dev.writeTail (d : Dev) (b : Fin 16) : Dev :=
  if d.rd64 (.lbTailWb b) = 0 then d.onLog b (fun l => { l with owed := false })
  else if d.logs[b].owed && d.canMaster then
    (d.emit (.hostWrite (d.rd64 (.lbTailWb b)) [at_ d.logs[b].tail 0, d.logs[b].lastSeq])).onLog b
      (fun l => { l with owed := false })
  else d

/-- Signals a logbook's vector after the tail write-back; the count restarts (R657, R659). -/
def Dev.signalLog (d : Dev) (b : Fin 16) : Dev :=
  ((d.writeTail b).signal (d.vecOf (.lbCtrl b))).onLog b (fun l => { l with since := 0 })

/-- Signals when the records written since the last signal reach LB_MOD COUNT (R657). -/
def Dev.moderate (d : Dev) (b : Fin 16) : Dev :=
  if d.bit (.lbCtrl b) 7 && decide (max (d.fld (.lbMod b) 0 16) 1 ≤ d.logs[b].since) then d.signalLog b else d

/-- Writes one record to the slot at TAIL and advances TAIL (R653). -/
def Dev.writeSlot (d : Dev) (b : Fin 16) (r : Rec) (seq : Word) (buffered : Bool) : Dev :=
  let d := d.emit (.hostWrite (d.rd64 (.lbBase b) + 32 * d.logs[b].tail) (r.words seq buffered))
  let wb := decide (d.rd64 (.lbTailWb b) ≠ 0)
  (d.onLog b (fun l => { l with
    tail := (l.tail + 1) % d.ringSize b
    since := l.since + 1
    lastSeq := seq
    owed := l.owed || wb })).moderate b

/-! ### The buffer and loss runs (R663 to R669) -/

/-- A waiting item that occupies the buffer: a held record, or a MARK held behind an earlier mark (R687, R688). -/
def Waiting.inBuffer : Waiting → Bool
  | .held _ => true
  | .mark _ _ _ .held => true
  | _ => false

/-- The held records of a logbook. -/
def heldCount (l : List Waiting) : Nat := (l.filter Waiting.inBuffer).length

/-- Records of one logbook in the buffer, held ones included (LB_STATUS BUFFERED). -/
def Dev.buffered (d : Dev) (b : Fin 16) : Nat := d.logs[b].buffer.length + heldCount d.logs[b].waiting

/-- Records in the buffer (LB_BUF USED). -/
def Dev.bufUsed (d : Dev) : Nat := (List.finRange 16).foldl (fun n b => n + d.buffered b) 0

/-- A logbook's share of the buffer (R664). -/
def Dev.quota (d : Dev) (b : Fin 16) : Nat :=
  if d.fld (.lbCtrl b) 16 6 = 0 then 4096 else 64 * d.fld (.lbCtrl b) 16 6

/-- Room for `k` more records of logbook b in the buffer and in its quota. -/
def Dev.bufRoom (d : Dev) (b : Fin 16) (k : Nat) : Bool :=
  decide (d.bufUsed + k ≤ 4096) && decide (d.buffered b + k ≤ d.quota b)

/-- Records LB_BUF HWM, the largest use of the buffer since reset (Table 17.9). -/
def Dev.bufMark (d : Dev) : Dev := d.wr .lbBuf (setFld (d.rd .lbBuf) 16 13 (max (d.fld .lbBuf 16 13) d.bufUsed))

/-- The loss run opens or continues with a dropped record's number (R665, R667). -/
def Dev.loseNumber (d : Dev) (b : Fin 16) (kind : Byte) (seq : Word) : Dev :=
  match d.logs[b].loss with
  | some l => d.onLog b (fun g => { g with loss := some { l with
      count := min (l.count + 1) 0xFFFFFFFF, types := l.types ||| mkBit true kind.toNat } })
  | none =>
    let d := d.onLog b (fun g => { g with loss := some { count := 1, first := seq, types := mkBit true kind.toNat } })
    if d.bit (.lbCtrl b) 30 then d.signalLog b else d

/-- Counts a dropped record (R665). -/
def Dev.countDrop (d : Dev) (b : Fin 16) : Dev := (d.count (.lbDrops b) 1).setBits (.lbStatus b) (mkBit true 29)

/-- Signals the rise of BACKLOG, when the buffer held nothing of the logbook before (R658), and marks BACKLOGGED. -/
def Dev.backlogged (d : Dev) (b : Fin 16) (before : Nat) : Dev :=
  let d := (d.setBits (.lbStatus b) (mkBit true 28)).bufMark
  if before = 0 && d.bit (.lbCtrl b) 30 then d.signalLog b else d

/-- Buffered records leave for the ring in sequence order while it is open (R664); at most `fuel` of them. -/
def Dev.drainN (d : Dev) (b : Fin 16) : Nat → Dev
  | 0 => d
  | fuel + 1 =>
    match d.logs[b].buffer with
    | [] => d
    | (r, seq) :: t =>
      if d.ringOpen b then
        ((d.onLog b (fun l => { l with buffer := t })).writeSlot b r seq true).drainN b fuel
      else d

/-- Every buffered record that can leave for the ring leaves (R664). -/
def Dev.drain (d : Dev) (b : Fin 16) : Dev := d.drainN b d.logs[b].buffer.length

/-- The logbooks are drained when writing becomes possible again. -/
def Dev.drainAll (d : Dev) : Dev := forEach (List.finRange 16) (fun b d => d.drain b) d

/-- A record is admitted: it takes the logbook's next number and goes to the ring, to the buffer, or is dropped (R661 to
R665). -/
def Dev.admitRec (d : Dev) (r : Rec) : Dev :=
  let b := r.log
  let seq := d.logs[b].seq
  let d := d.onLog b (fun l => { l with seq := l.seq + 1 })
  if d.ringOpen b && decide (d.buffered b = 0) then d.writeSlot b r seq false
  else if d.bufRoom b 1 then
    let n := d.buffered b
    ((d.onLog b (fun l => { l with buffer := l.buffer ++ [(r, seq)] })).backlogged b n).drain b
  else (d.countDrop b).loseNumber b r.kind seq

/-- A held record is admitted: it lies in the buffer already, takes the next number, and leaves for the ring from there (R664, R687). -/
def Dev.admitHeld (d : Dev) (b : Fin 16) (r : Rec) : Dev :=
  (d.onLog b (fun l => { l with seq := l.seq + 1, buffer := l.buffer ++ [(r, l.seq)] })).drain b

/-- A record dropped while it would have been held takes the number of its place (R809). -/
def Dev.admitDropped (d : Dev) (b : Fin 16) (kind : Byte) : Dev :=
  let seq := d.logs[b].seq
  (d.onLog b (fun l => { l with seq := l.seq + 1 })).loseNumber b kind seq

/-! ### Epoch marks (R685 to R688) -/

/-- A record belongs to the before set of mark number `m` from queue `k` (R685). -/
def Rec.inBefore (r : Rec) (m : Nat) (k : Fin 8) : Bool :=
  decide (r.epoch ≤ m) ||
    match r.cause with
    | some (j, e) => decide (j = k) && decide (e ≤ m)
    | none => false

/-- The place of a held record: before the first mark whose before set it belongs to. -/
def insertWaiting (r : Rec) (w : Waiting) : List Waiting → List Waiting
  | [] => [w]
  | .mark m k q l :: t =>
    if r.inBefore m k then w :: .mark m k q l :: t else .mark m k q l :: insertWaiting r w t
  | x :: t => x :: insertWaiting r w t

/-- Records of the before set of mark `m` of queue `k` for logbook `b` have been handed over and are not admitted; this edge admits
them. -/
def Dev.beforeHanded (d : Dev) (b : Fin 16) (m : Nat) (k : Fin 8) : Bool :=
  d.handed.any (fun r => decide (r.log = b) && r.inBefore m k)

/-- Records of the before set of mark `m` of queue `k` for logbook `b` are not handed over yet: plates on their way, cancelled tickets
whose records wait, or lane records of an apply (R685). -/
def Dev.beforeLate (d : Dev) (b : Fin 16) (m : Nat) (k : Fin 8) : Bool :=
  let inFlight (p : Plate) : Bool := decide (p.log = b) && decide (p.epoch ≤ m)
  d.red.plates.any inFlight || d.red.direct.any inFlight ||
    (List.finRange 8).any (fun r => d.red.reducers[r].waiting.any inFlight || d.red.reducers[r].pipeline.any inFlight) ||
    d.pool.any (fun e => decide (e.2.desc.log = b) && (match e.2.cancelled with
      | some c => (match c.by_ with
        | some (j, ep) => decide (j = k) && decide (ep ≤ m)
        | none => false)
      | none => false)) ||
    (decide (d.apply.log = b) && d.apply.owed.any (fun o => decide (o.2.epoch ≤ m)))

/-- Records of the before set of a mark are still to come (R685). -/
def Dev.beforeOpen (d : Dev) (b : Fin 16) (m : Nat) (k : Fin 8) : Bool := d.beforeHanded b m k || d.beforeLate b m k

/-- A MARK record is admitted. -/
def Dev.admitMark (d : Dev) (b : Fin 16) (r : Rec) (place : MarkPlace) : Dev :=
  match place with
  | .waits => d.admitRec r
  | .held => d.admitHeld b r
  | .lost => d.admitDropped b r.kind

/-- The records behind a mark are admitted in order up to the next mark (R687). -/
def Dev.releaseHeld (d : Dev) (b : Fin 16) : Nat → Dev
  | 0 => d
  | fuel + 1 =>
    match d.logs[b].waiting with
    | .held r :: t => ((d.onLog b (fun l => { l with waiting := t })).admitHeld b r).releaseHeld b fuel
    | .dropped k :: t => ((d.onLog b (fun l => { l with waiting := t })).admitDropped b k).releaseHeld b fuel
    | _ => d

/-- The MARK record in front at logbook b is admitted once nothing of its before set is still to come, and the records held behind it
follow (R686, R687). -/
def Dev.markAdmit (d : Dev) (b : Fin 16) : Dev :=
  match d.logs[b].waiting with
  | .mark m k r place :: t =>
    if d.beforeOpen b m k then d
    else ((d.onLog b (fun l => { l with waiting := t })).admitMark b r place).releaseHeld b t.length
  | _ => d

/-- A MARK of logbook b waits for nothing more (R686). -/
def Dev.markDue (d : Dev) (b : Fin 16) : Bool :=
  match d.logs[b].waiting with
  | .mark m k _ _ :: _ => !d.beforeOpen b m k
  | _ => false

/-- The marks at record `r`'s logbook that wait for nothing more and have `r` in their after set are admitted ahead of it (R686); at
most `fuel` of them. -/
def Dev.marksPass (d : Dev) (r : Rec) : Nat → Dev
  | 0 => d
  | fuel + 1 =>
    match d.logs[r.log].waiting with
    | .mark m k _ _ :: _ => if r.inBefore m k || d.beforeOpen r.log m k then d else (d.markAdmit r.log).marksPass r fuel
    | _ => d

/-- A record reaches the writer: it is admitted, or held behind the marks that wait at its logbook (R686, R687), or
dropped for want of room (R809). -/
def Dev.arrive (d : Dev) (r : Rec) : Dev :=
  let b := r.log
  let d := d.marksPass r d.logs[b].waiting.length
  match d.logs[b].waiting with
  | .mark m k _ _ :: _ =>
    if r.inBefore m k then d.admitRec r
    else if d.bufRoom b 1 then
      let n := d.buffered b
      (d.onLog b (fun l => { l with waiting := insertWaiting r (.held r) l.waiting })).backlogged b n
    else (d.countDrop b).onLog b (fun l => { l with waiting := insertWaiting r (.dropped r.kind) l.waiting })
  | _ => d.admitRec r

/-- A record of the after set of the mark in front at its logbook comes behind what that mark still waits for on this edge (R686). -/
def Dev.follows (d : Dev) (r : Rec) : Bool :=
  match d.logs[r.log].waiting with
  | .mark m k _ _ :: _ => !r.inBefore m k && d.beforeHanded r.log m k
  | _ => false

/-- The record that reaches the writer next: the first handed over, but for those that an epoch mark puts later (R660, R686). -/
def Dev.nextRecord (d : Dev) : Option Rec := d.handed.find? (fun r => !d.follows r)

/-- A MARK record comes to wait at a logbook (R686); behind an earlier mark that this edge does not admit, it is held like any other
record (R688). -/
def Dev.waitMark (d : Dev) (m : Nat) (k : Fin 8) (r : Rec) : Dev :=
  let b := r.log
  let add (d : Dev) (place : MarkPlace) : Dev := d.onLog b (fun l => { l with waiting := l.waiting ++ [.mark m k r place] })
  if d.logs[b].waiting.all (fun w => match w with
      | .mark m' k' _ _ => !d.beforeLate b m' k'
      | _ => true) then add d .waits
  else if d.bufRoom b 1 then
    let n := d.buffered b
    (add d .held).backlogged b n
  else add (d.countDrop b) .lost

/-- How many MARKs had been processed before the present edge, as far as they wait at logbook b: a LOST record of this edge is in
their before sets (R666). -/
def Dev.epochBefore (d : Dev) (b : Fin 16) : Nat :=
  d.logs[b].waiting.foldl (fun e w => match w with
    | .mark m _ r _ => if r.cycle = d.clk.cycle then min e m else e
    | _ => e) d.marks

/-! ### The meanings of the logbook's rows -/

/-- RECORD_ADMIT (R660, R686): the record whose turn it is reaches the writer. -/
def execRecordAdmit (s : State) : Host.Outcome State Fault Refusal :=
  match s.dev.nextRecord with
  | none => toDev s s.dev
  | some r => toDev s (({ s.dev with handed := s.dev.handed.erase r }).arrive r)

/-- LOSS_RUN_CLOSE (R666, R667): with room for two, the LOST record of the run is handed over and reaches the writer
before any other record of the edge. -/
def execLossRunClose (b : Fin 16) (s : State) : Host.Outcome State Fault Refusal :=
  match s.dev.logs[b].loss with
  | some l =>
    if s.dev.bufRoom b 2 then
      let r := { s.dev.mkRec .lost .writer b.val b 0 (at_ l.count 0) l.first l.types with epoch := s.dev.epochBefore b }
      toDev s ((s.dev.onLog b (fun g => { g with loss := none })).arrive r)
    else toDev s s.dev
  | none => toDev s s.dev

/-- MARK_ADMIT (R686): once nothing of its before set is still to come, the MARK record is admitted, and the records held
behind it follow. -/
def execMarkAdmit (b : Fin 16) (s : State) : Host.Outcome State Fault Refusal := toDev s (s.dev.markAdmit b)

/-- TAIL_WRITEBACK (R656). -/
def execTailWriteback (b : Fin 16) (s : State) : Host.Outcome State Fault Refusal := toDev s (s.dev.writeTail b)

/-- LB_MOD_TIMEOUT (R657): TIME µs have passed since the first record written after the last signal. -/
def execLbModTimeout (b : Fin 16) (s : State) : Host.Outcome State Fault Refusal :=
  if s.dev.bit (.lbCtrl b) 7 && decide (s.dev.fld (.lbMod b) 16 16 ≠ 0) && decide (0 < s.dev.logs[b].since) then
    toDev s (s.dev.signalLog b)
  else toDev s s.dev

end Sys2Proof.Machine
end

