-- ==== Sys2Proof/Machine/Codes.lean ====
section
/-! DEFINITION. The reject codes (Tables 0.1 and 16.2) and how a register write or a request that breaks several rules
reports the lowest (R16 to R18). -/
namespace Sys2Proof.Machine

/-- The reject codes (Table 0.1). -/
inductive Code where
  | ok | badOpcode | range | reservedSet | state | locked | bound | notPresent | poolFull | genMismatch | align
  | alreadyDone | auth | crc | busy
  deriving DecidableEq, Repr

/-- The number of a reject code (Table 0.1). -/
def Code.num : Code → Nat
  | .ok => 0
  | .badOpcode => 1
  | .range => 2
  | .reservedSet => 3
  | .state => 4
  | .locked => 5
  | .bound => 6
  | .notPresent => 7
  | .poolFull => 8
  | .genMismatch => 9
  | .align => 10
  | .alreadyDone => 11
  | .auth => 12
  | .crc => 13
  | .busy => 14

/-- The lower of two codes; OK stands above every rejection. -/
def Code.lower (a b : Code) : Code :=
  if a = .ok then b else if b = .ok then a else if a.num ≤ b.num then a else b

/-- The lowest code whose condition holds, OK when none does (R18). -/
def lowest : List (Bool × Code) → Code
  | [] => .ok
  | (c, k) :: t => if c then Code.lower k (lowest t) else lowest t

/-- The result of a write or a request: a code and the device after it. A rejection leaves the device as it was (R16). -/
abbrev Result := Code × Dev

/-- Applies the effect when the checks give OK, and changes nothing otherwise (R16). -/
def checked (d : Dev) (c : Code) (f : Dev → Dev) : Result := if c = .ok then (.ok, f d) else (c, d)

end Sys2Proof.Machine
end

