-- ==== Sys2Proof/Machine/Outputs.lean ====
section
/-! DEFINITION. Output channels: targets and codes, queues and sample events, bindings, range changes, clears and faults
(14_outputs.md). -/
namespace Sys2Proof.Machine

/-- The OUTPUT entry in force of a channel; its non-binding fields are device-scoped (Table 5.2, R233). -/
def Dev.outEntry (d : Dev) (n : Fin 32) : OutEntry := outputOf d.alm n.val

/-- The OUTPUT entries that a quadrant holds, as a bank (R145). -/
def Dev.heldConfig (d : Dev) (q : Fin 4) : Bank := { output := d.quads[q].cfg }

/-- The OUTPUT entry that a channel's quadrant holds; it outlives a control-die reset (R102, R145). -/
def Dev.fieldEntry (d : Dev) (n : Fin 32) : OutEntry := outputOf (d.heldConfig (quadOf8 n.val)) n.val

/-- The RANGE and REFGAIN that a channel is in: those its stage is set to, which a change of the entry reaches only through the
sequence of Table 14.3 or on leaving FAULT or OFF (R79, R566); those of its entry while the stage has never been set. -/
def Dev.presentRange (d : Dev) (n : Fin 32) : Nat × Nat :=
  let o := d.outs[n]
  if o.range = 0 then ((d.outEntry n).range, (d.outEntry n).refGain) else (o.range, o.refGain)

/-- The code of a physical value under the channel's trims, in the range that it is in (R545, R551, R563); 0 when that is RANGE 0
(Table 14.7). -/
def Dev.outCode (d : Dev) (n : Fin 32) (p : Int) : Nat :=
  let r := d.presentRange n
  let t := Config.outTrim d.boot.loaded n.val r.1 r.2
  if r.1 = 0 then 0 else (min (max (roundDiv (p * t.den - t.zero) (t.step + 1)) 0) 262143).toNat

/-- The code of a state in OUT_STATUS and in OUTPUT records (Table 14.7). -/
def OutState.code : OutState → Nat
  | .off => 0
  | .clear => 1
  | .drive => 2
  | .ranging => 3
  | .fault => 4

/-- The events of OUTPUT records with the OUT_CTRL bit that enables them (Table 14.5, R584). -/
inductive OutEvent where
  | short | contend | overvolt | openLoad | recovered | underrun | drained | aborted | rangeDone | clearOn | clearOff
  | bindVoid
  deriving DecidableEq, Repr

/-- The code of an event (Table 14.5). -/
def OutEvent.code : OutEvent → Nat
  | .short => 1
  | .contend => 2
  | .overvolt => 3
  | .openLoad => 4
  | .recovered => 5
  | .underrun => 6
  | .drained => 7
  | .aborted => 8
  | .rangeDone => 9
  | .clearOn => 10
  | .clearOff => 11
  | .bindVoid => 12

/-- The enable bit of an event in OUT_CTRL (R584): REC_FAULT 25, REC_CLEAR 26, REC_QUEUE 27. -/
def OutEvent.enable : OutEvent → Nat
  | .recovered => 26
  | .clearOn => 26
  | .clearOff => 26
  | .underrun => 27
  | .drained => 27
  | .aborted => 27
  | .rangeDone => 27
  | _ => 25

/-- Writes an OUTPUT record while its enable bit is 1 (R584, Table 14.5). -/
def Dev.outRecord (d : Dev) (n : Fin 32) (ev : OutEvent) (count : Nat) : Dev :=
  let o := d.outs[n]
  d.handOverIf (d.bit (.outCtrl n) ev.enable)
    (d.mkRec .output .output n.val (toFin 15 (d.fld (.outCtrl n) 28 4)) 0
      (at_ ev.code 24 ||| at_ o.state.code 16 ||| at_ (count % 65536) 0) (BitVec.ofInt 32 o.target) (d.rd (.outSense n)))

/-- A clear source holds quadrant q (R567). -/
def Dev.clearHeld (d : Dev) (q : Fin 4) : Bool :=
  d.quads[q].clrLow || d.bit .outQclrTrip q.val || d.bit .outQclrForce q.val

/-- A channel that the control die acts on, with its queue and pending value discarded. -/
def Out.discard (o : Out) : Out := { o with queue := [], pending := none, alone := false }

/-- The stage is set to the range of an entry. -/
def Out.setRange (o : Out) (e : OutEntry) : Out := { o with range := e.range, refGain := e.refGain }

/-- The channel is at high impedance (R145, R541), and keeps the range it was in (R566). -/
def Dev.outOff (d : Dev) (n : Fin 32) : Dev :=
  d.onOut n (fun o => { o.discard with
    state := .off, ranging := none, openNow := false, contendNow := false, overvoltNow := false, shortNow := false })

/-- The channel is OFF because its new RANGE is 0 (R213, R564). -/
def Dev.outNone (d : Dev) (n : Fin 32) : Dev := (d.outOff n).onOut n (fun o => o.setRange (d.fieldEntry n))

/-- Drives the clear code of the configuration that the quadrant holds, without a record: queue entries and pending values
are discarded (R102, R572). A channel in FAULT stays there (R577); a range change in progress goes on and ends at the
clear code. -/
def Dev.driveClear (d : Dev) (n : Fin 32) : Dev :=
  let e := d.fieldEntry n
  let q := quadOf8 n.val
  match d.outs[n].state with
  | .fault => d.onOut n Out.discard
  | .ranging => d.onOut n (fun o => { o.discard with ranging := o.ranging.map (fun r => { r with byApply := false }) })
  | _ =>
    if e.range = 0 then d.outNone n
    else d.onOut n (fun o => { o.discard.setRange e with
      state := if d.clearHeld q then .clear else .drive, target := e.clear })

/-- Every channel of a quadrant drives its clear code, when the quadrant holds a configuration (R102, R145). -/
def Dev.quadClearCodes (d : Dev) (q : Fin 4) : Dev :=
  if d.quads[q].configured && !d.quads[q].hotOff then forEach (outsOf q) (fun n d => d.driveClear n) d else d

/-- Every channel of a quadrant at high impedance. -/
def Dev.quadOutputsOff (d : Dev) (q : Fin 4) : Dev := forEach (outsOf q) (fun n d => d.outOff n) d

/-- A clear source asserts: one channel (R569). -/
def Dev.assertClear1 (n : Fin 32) (d : Dev) : Dev :=
  let o := d.outs[n]
  match o.state with
  | .drive =>
    (d.onOut n (fun o => { o.discard with state := .clear, target := (d.fieldEntry n).clear })).outRecord n .clearOn
      o.queue.length
  | .ranging => (d.onOut n Out.discard).outRecord n .clearOn o.queue.length
  | _ => d

/-- A clear source of quadrant q asserts (R569). -/
def Dev.assertClear (d : Dev) (q : Fin 4) : Dev := forEach (outsOf q) Dev.assertClear1 d

/-- The last clear source releases: one channel (R571). -/
def Dev.releaseClear1 (n : Fin 32) (d : Dev) : Dev :=
  match d.outs[n].state with
  | .clear => (d.onOut n (fun o => { o with state := .drive, target := (d.fieldEntry n).clear })).outRecord n .clearOff 0
  | _ => d

/-- A clear source of quadrant q has released (R571). -/
def Dev.releaseClear (d : Dev) (q : Fin 4) : Dev :=
  if d.clearHeld q then d else forEach (outsOf q) Dev.releaseClear1 d

/-- Software's and the trip's clear sources change (R567): quadrants that gain their first or any source, and quadrants
whose last source goes. -/
def Dev.setClearSource (d : Dev) (r : Reg) (w : Word) : Dev :=
  let old := d.rd r
  let d := d.wr r w
  forEach (List.finRange 4) (fun q d =>
    if Machine.bit w q.val && !Machine.bit old q.val then d.assertClear q
    else if Machine.bit old q.val && !Machine.bit w q.val then d.releaseClear q
    else d) d

/-! ### Range changes (R563 to R566) -/

/-- The entry of a channel changes from `old` to the one that its quadrant now holds: a new RANGE or REFGAIN runs the
sequence of Table 14.3, in whose first steps the stage drives SAFE_old in the old range. A channel in FAULT or kept OFF
runs none, and keeps its range until it leaves that state (R566). -/
def Dev.changeRange (d : Dev) (n : Fin 32) (old : OutEntry) (byApply : Bool) : Dev :=
  let e := d.fieldEntry n
  let q := quadOf8 n.val
  if old.range = e.range ∧ old.refGain = e.refGain then d
  else if d.outs[n].state = .fault ∨ d.quads[q].hotOff = true ∨ d.quads[q].barrierUp = false then d
  else if old.range = 0 then
    d.onOut n (fun o => { o.discard with
      state := .ranging, ranging := some { step := 3, discarded := o.queue.length, byApply := byApply } })
  else
    d.onOut n (fun o => { o.discard with
      state := .ranging, target := old.safe
      ranging := some { step := 1, discarded := o.queue.length, byApply := byApply } })

/-- The quadrant receives its configuration (R146, R147, R193): channels whose range differs from the one it held change
through their safe value, and the others go to their clear code. -/
def Dev.configureQuad (d : Dev) (q : Fin 4) : Dev :=
  let k := d.heldConfig q
  let had := d.quads[q].configured
  let d := d.onQuad q (fun k => { k with configured := true, cfg := d.alm.output })
  if d.quads[q].hotOff then d
  else forEach (outsOf q) (fun n d =>
    let e := outputOf k n.val
    if had = false ∨ (e.range = (d.fieldEntry n).range ∧ e.refGain = (d.fieldEntry n).refGain) then d.driveClear n
    else d.changeRange n e false) d

/-- An apply brings a quadrant its OUTPUT entries (R233, R563): one that holds a configuration changes range through the
safe values, one that holds none yet receives its first (R146). A quadrant whose barrier channel is down hears nothing. -/
def Dev.applyQuad (d : Dev) (q : Fin 4) : Dev :=
  if d.quads[q].barrierUp = false then d
  else if d.quads[q].configured = false then d.configureQuad q
  else
    let k := d.heldConfig q
    let d := d.onQuad q (fun k => { k with cfg := d.alm.output })
    forEach (outsOf q) (fun n d => d.changeRange n (outputOf k n.val) true) d

/-- RANGE_STAGE_OFF (Table 14.3 step 3): the stage is off and leaves its old range; with a new RANGE of 0 the channel enters
OFF (R564). -/
def execRangeStageOff (n : Fin 32) (s : State) : Host.Outcome State Fault Refusal :=
  match s.dev.outs[n].ranging with
  | some r =>
    if r.step = 1 then
      if (s.dev.fieldEntry n).range = 0 then toDev s (s.dev.outNone n)
      else toDev s (s.dev.onOut n (fun o => { o.setRange (s.dev.fieldEntry n) with ranging := some { r with step := 3 } }))
    else toDev s s.dev
  | none => toDev s s.dev

/-- RANGE_STAGE_ON (Table 14.3 step 5). -/
def execRangeStageOn (n : Fin 32) (s : State) : Host.Outcome State Fault Refusal :=
  match s.dev.outs[n].ranging with
  | some r =>
    if r.step = 3 then
      toDev s (s.dev.onOut n (fun o => { o.setRange (s.dev.fieldEntry n) with
        target := (s.dev.fieldEntry n).safe, ranging := some { r with step := 5 } }))
    else toDev s s.dev
  | none => toDev s s.dev

/-- The channel leaves RANGING (R565). -/
def Dev.endRange (d : Dev) (n : Fin 32) (r : Ranging) : Dev :=
  let e := d.fieldEntry n
  let held := d.clearHeld (quadOf8 n.val)
  (d.onOut n (fun o => { o with
    state := if held then .clear else .drive
    target := if held || !r.byApply then e.clear else e.safe
    ranging := none })).outRecord n .rangeDone r.discarded

/-- RANGE_DONE (Table 14.3 step 6). -/
def execRangeDone (n : Fin 32) (s : State) : Host.Outcome State Fault Refusal :=
  match s.dev.outs[n].ranging with
  | some r => if r.step = 5 then toDev s (s.dev.endRange n r) else toDev s s.dev
  | none => toDev s s.dev

/-! ### Sample events and bindings (R554 to R562) -/

/-- Sample events take nothing in SLEEP, nor once a SLEEP entry has stopped the output queues (R177 step 5, R556). -/
def Dev.outputsStopped (d : Dev) : Bool :=
  decide (d.boot.phase = .sleep) || (d.boot.sleeping && !allLanes.any (fun n => d.lanes[n].current.isSome))

/-- A sample event of a channel (R555 to R558, R562). -/
def Dev.sampleEvent (d : Dev) (n : Fin 32) : Dev :=
  let o := d.outs[n]
  if o.state ≠ .drive ∨ d.outputsStopped = true then d
  else if (d.outEntry n).bind.isSome then
    match o.pending with
    | some v => if d.bit (.outCtrl n) 11 then d else d.onOut n (fun o => { o with target := v, pending := none })
    | none => d
  else if d.bit (.outCtrl n) 0 = false then d
  else
    match o.queue with
    | v :: t =>
      let d := d.onOut n (fun o => { o with target := v, queue := t })
      if t = [] ∧ d.bit (.outCtrl n) 1 = false then d.outRecord n .drained 0 else d
    | [] =>
      if d.bit (.outCtrl n) 1 then
        let d := (d.count (.outUnderruns n) 1).setBits (.outStatus n) (mkBit true 5)
        if o.dry then d else (d.onOut n (fun o => { o with dry := true })).outRecord n .underrun 0
      else d

/-- The physical value of a reduced value: round_even(M × 2^E × G + O) (R560). -/
def boundPhysical (m exponent : Int) (gain : Int × Int) (offset : Int) : Int :=
  let s := exponent + gain.2
  if 0 ≤ s then m * gain.1 * 2 ^ s.toNat + offset
  else roundDiv (m * gain.1 + offset * 2 ^ (-s).toNat) (2 ^ (-s).toNat)

/-- A channel takes no bound value in CLEAR, in FAULT and while RANGING (R570, R577, Table 14.3), nor at RANGE 0. -/
def Dev.takesBound (d : Dev) (n : Fin 32) : Bool :=
  (decide (d.outs[n].state = .drive) || decide (d.outs[n].state = .off)) && decide ((d.presentRange n).1 ≠ 0)

/-- A reduced value reaches one channel bound to its bridge (R559 to R562). -/
def Dev.boundValue1 (bridge : Fin 2176) (old : Bool) (v : Ratio) (n : Fin 32) (d : Dev) : Dev :=
  let k := d.bankOf old
  let b := outputOf k n.val
  if b.bind ≠ some bridge.val ∨ d.takesBound n = false then d
  else if v = voidRatio then
    let d0 := d.setBits (.outStatus n) (mkBit true 7)
    let d1 := if d.bit (.outCtrl n) 10 then d0.onOut n (fun o => { o with target := (d.outEntry n).safe }) else d0
    if d.outs[n].wasVoid then d1
    else (d1.onOut n (fun o => { o with wasVoid := true })).outRecord n .bindVoid 0
  else
    let p := boundPhysical v.toInt (fabricOf k bridge.val).exponent b.gain b.offset
    let lim := rangeLimits (d.presentRange n).1
    let q := min (max p lim.1) lim.2
    let d := if p = q then d else d.setBits (.outStatus n) (mkBit true 6)
    d.onOut n (fun o =>
      if d.bit (.outCtrl n) 11 then { o with target := q, pending := none, wasVoid := false }
      else { o with pending := some q, wasVoid := false })

/-- A reduced value reaches the output bindings (R559). -/
def Dev.boundValue (d : Dev) (bridge : Fin 2176) (old : Bool) (v : Ratio) : Dev :=
  forEach (List.finRange 32) (Dev.boundValue1 bridge old v) d

/-- OUT_SAMPLE_EVENT (R555): the fixed divider of a channel. Sample events of the other clock sources are taken with the
match or the firing that makes them (R554). -/
def execOutSampleEvent (n : Fin 32) (s : State) : Host.Outcome State Fault Refusal :=
  if (s.dev.outEntry n).clkSrc = 0 then toDev s (s.dev.sampleEvent n) else toDev s s.dev

/-! ### Faults (R573 to R579) -/

/-- Leaving FAULT (R579): the stage turns on in the range that the quadrant now holds for it (R566), and stays at high
impedance when that is RANGE 0 (R213, R564). -/
def Dev.leaveFault (d : Dev) (n : Fin 32) : Dev :=
  let e := d.fieldEntry n
  if e.range = 0 then ((d.outNone n).onOut n (fun o => { o with byOvervolt := false })).outRecord n .recovered 0
  else
    (d.onOut n (fun o => { o.setRange e with
      state := if d.clearHeld (quadOf8 n.val) then .clear else .drive
      target := e.clear, byOvervolt := false })).outRecord n .recovered 0

/-- The sticky bit of a fault in OUT_STATUS (Table 14.7). -/
def faultBit : OutFault → Nat
  | .short => 1
  | .overvolt => 2
  | .contend => 3
  | .openLoad => 4

/-- The record event of a fault (Table 14.5). -/
def faultEvent : OutFault → OutEvent
  | .short => .short
  | .contend => .contend
  | .overvolt => .overvolt
  | .openLoad => .openLoad

/-- The fault is one that Table 14.4 evaluates for the channel now, in the range that its stage is set to. -/
def Dev.faultEvaluated (d : Dev) (n : Fin 32) (f : OutFault) : Bool :=
  let r := d.outs[n].range
  decide (d.outs[n].state ≠ .off) &&
    match f with
    | .short => decide (r ≤ 4) && decide (d.outs[n].state ≠ .ranging)
    | .contend => decide (r ≤ 4) && decide (d.outs[n].state ≠ .ranging)
    | .openLoad => decide (5 ≤ r)
    | .overvolt => true

/-- A channel's _NOW flag set or cleared. -/
def Out.setNow (o : Out) (f : OutFault) (b : Bool) : Out :=
  match f with
  | .short => { o with shortNow := b }
  | .contend => { o with contendNow := b }
  | .overvolt => { o with overvoltNow := b }
  | .openLoad => { o with openNow := b }

/-- The fault is protective: OVERVOLT, or CONTEND while CONTEND_ACT is 1 (R576). -/
def Dev.protective (d : Dev) (n : Fin 32) : OutFault → Bool
  | .overvolt => true
  | .contend => d.bit (.outCtrl n) 7
  | _ => false

/-- A fault is detected (R574 to R576). -/
def Dev.detectFault (d : Dev) (n : Fin 32) (f : OutFault) : Dev :=
  let d := (d.setBits (.outStatus n) (mkBit true (faultBit f))).onOut n (fun o => o.setNow f true)
  let d := if d.protective n f && decide (d.outs[n].state ≠ .fault) then
    d.onOut n (fun o => { o.discard with state := .fault, ranging := none, byOvervolt := decide (f = .overvolt) }) else d
  d.outRecord n (faultEvent f) 0

/-- OUT_FAULT_DETECT (R574): with the reading of the sense inputs (OUT_SENSE). -/
def execOutFaultDetect (n : Fin 32) (f : OutFault) (sense : Word) (s : State) : Host.Outcome State Fault Refusal :=
  if s.dev.alive && s.dev.faultEvaluated n f then toDev s ((s.dev.wr (.outSense n) sense).detectFault n f) else toDev s s.dev

/-- OUT_FAULT_RELEASE (R574, R578). -/
def execOutFaultRelease (n : Fin 32) (f : OutFault) (s : State) : Host.Outcome State Fault Refusal :=
  let d := s.dev.onOut n (fun o => o.setNow f false)
  if f = .overvolt ∧ d.outs[n].state = .fault ∧ d.outs[n].byOvervolt = true ∧ d.bit (.outCtrl n) 8 = true then
    toDev s (d.leaveFault n)
  else toDev s d

/-- CLR_N_ASSERT (R569): a configured quadrant's clear pin falls. -/
def execClrNAssert (q : Fin 4) (s : State) : Host.Outcome State Fault Refusal :=
  let d := s.dev.onQuad q (fun k => { k with clrLow := true })
  toDev s (if d.alive then d.assertClear q else d)

/-- CLR_N_RELEASE (R571). -/
def execClrNRelease (q : Fin 4) (s : State) : Host.Outcome State Fault Refusal :=
  let d := s.dev.onQuad q (fun k => { k with clrLow := false })
  toDev s (if d.alive then d.releaseClear q else d)

/-! ### Register writes of the channels -/

/-- Whether a physical value lies within the limits of the channel's present range (R79). -/
def Dev.inLimits (d : Dev) (n : Fin 32) (v : Int) : Bool :=
  let lim := rangeLimits (d.presentRange n).1
  decide (lim.1 ≤ v) && decide (v ≤ lim.2)

/-- The channel's RANGE is 0 (R585). -/
def Dev.unconfigured (d : Dev) (n : Fin 32) : Bool := decide ((d.outEntry n).range = 0)

/-- The state in which value writes are rejected (R570, R577). -/
def Dev.valueBlocked (d : Dev) (n : Fin 32) : Bool :=
  decide (d.outs[n].state = .clear) || decide (d.outs[n].state = .fault)

/-- The channel is bound (R547). -/
def Dev.outBound (d : Dev) (n : Fin 32) : Bool := (d.outEntry n).bind.isSome

/-- A committed OUT_VALUE (R547 to R549, R79, R585): MODE rejects it on unbound channels only. It is the target at once in
DRIVE and in OFF; a range change takes no value (Table 14.3 step 1). -/
def Dev.writeOutValue (d : Dev) (n : Fin 32) (w : Word) : Result :=
  checked d (lowest [
    (!d.unconfigured n && !d.inLimits n w.toInt, .range),
    ((!d.outBound n && d.bit (.outCtrl n) 0) || d.valueBlocked n, .state),
    (d.outBound n, .bound),
    (d.unconfigured n, .notPresent)])
  (fun d =>
    let d := d.wr (.outValue n) w
    if d.outs[n].state = .drive ∨ d.outs[n].state = .off then d.onOut n (fun o => { o with target := w.toInt }) else d)

/-- An OUT_QPUSH (R547, R548, R553). -/
def Dev.writeOutQpush (d : Dev) (n : Fin 32) (w : Word) : Result :=
  checked d (lowest [
    (!d.unconfigured n && !d.inLimits n w.toInt, .range),
    ((!d.outBound n && !d.bit (.outCtrl n) 0) || d.valueBlocked n, .state),
    (d.outBound n, .bound),
    (d.unconfigured n, .notPresent),
    (decide (64 ≤ d.outs[n].queue.length), .busy)])
  (fun d => d.onOut n (fun o => { o with queue := o.queue ++ [w.toInt], dry := false }))

/-- OUT_CMD ABORT (R547, R548, R582). -/
def Dev.outAbort (d : Dev) (n : Fin 32) : Result :=
  checked d (lowest [
    (!d.outBound n && !d.bit (.outCtrl n) 0, .state),
    (d.outBound n, .bound),
    (d.unconfigured n, .notPresent)])
  (fun d =>
    let o := d.outs[n]
    if o.queue = [] then d.onOut n (fun o => { o with abortResult := Code.alreadyDone.num })
    else
      (d.onOut n (fun o => { o with
        queue := [], abortResult := 0
        target := if d.bit (.outCtrl n) 9 then (d.outEntry n).safe else o.target })).outRecord n .aborted
          o.queue.length)

/-- OUT_CMD RESUME (R578). -/
def Dev.outResume (d : Dev) (n : Fin 32) : Result :=
  checked d (lowest [
    (decide (d.outs[n].state ≠ .fault), .state),
    (d.unconfigured n, .notPresent),
    (d.outs[n].overvoltNow, .busy)])
  (fun d => d.leaveFault n)

/-- An OUT_CMD write: exactly one command bit (R585). -/
def Dev.writeOutCmd (d : Dev) (n : Fin 32) (w : Word) : Result :=
  match Machine.fld w 0 2 with
  | 1 => d.outAbort n
  | 2 => d.outResume n
  | _ => (.range, d)

/-- An OUT_CTRL write: MODE does not change while the queue holds an entry (R550). -/
def Dev.writeOutCtrl (d : Dev) (n : Fin 32) (w : Word) : Result :=
  checked d (lowest [(Machine.bit w 0 != d.bit (.outCtrl n) 0 && decide (d.outs[n].queue ≠ []), .busy)])
    (fun d => d.wr (.outCtrl n) w)

/-- OUT_SENSE is measured (Table 14.7): each channel that a quadrant in reach drives or watches takes a new reading, which
is a free value (log entry 88). -/
def Dev.senseOutputs (d : Dev) : Dev :=
  forEach (List.finRange 32) (fun n d =>
    if d.quads[quadOf8 n.val].barrierUp && decide (d.outs[n].range ≠ 0) then
      let (v, d) := d.takeFree
      d.wr (.outSense n) (v.setWidth 32)
    else d) d

/-- OUT_TARGET as it reads (R551, Table 14.7). -/
def Dev.readOutTarget (d : Dev) (n : Fin 32) : Word := if d.outs[n].alone then 0 else BitVec.ofInt 32 d.outs[n].target

/-- OUT_CODE as it reads (R551, Table 14.7). -/
def Dev.readOutCode (d : Dev) (n : Fin 32) : Word :=
  if d.outs[n].alone then 0 else BitVec.ofNat 32 (d.outCode n d.outs[n].target)

/-- OUT_STATUS as it reads (Table 14.7). What a quadrant drives by itself after a control-die reset shows as the reset state
(R799). -/
def Dev.readOutStatus (d : Dev) (n : Fin 32) : Word :=
  let o : Out := if d.outs[n].alone then {} else d.outs[n]
  d.rd (.outStatus n) ||| at_ o.state.code 29 ||| at_ o.queue.length 21 ||| mkBit o.openNow 15 |||
    mkBit o.contendNow 14 ||| mkBit o.overvoltNow 13 ||| mkBit o.shortNow 12 ||| at_ (o.abortResult % 16) 8

/-- OUT_CFG as it reads (Table 14.7). -/
def Dev.readOutCfg (d : Dev) (n : Fin 32) : Word :=
  let e := d.outEntry n
  at_ e.clkArg 16 ||| at_ (e.clkSrc % 4) 8 ||| mkBit e.bind.isSome 7 ||| at_ (e.refGain % 2) 6 ||| at_ (e.range % 8) 0

/-- OUT_QCLR_STATE as it reads (Table 14.7). -/
def Dev.readQclrState (d : Dev) : Word :=
  (List.finRange 4).foldl (fun w q => w ||| mkBit d.quads[q].clrLow (8 + q.val) |||
    mkBit (d.bit .outQclrTrip q.val) (4 + q.val) ||| mkBit (d.clearHeld q) q.val) 0

end Sys2Proof.Machine
end

