-- ==== Sys2Proof/Machine/Shutter.lean ====
section
/-! DEFINITION. The shutter lines and their five sources (06_bridge_ports.md, R274 to R277). -/
namespace Sys2Proof.Machine

/-- SHUT[k] as accepted, asserted under PIN_POL (Table 6.6, SHUT_STATE PIN). -/
def Dev.pinAsserted (d : Dev) (k : Nat) : Bool := d.shut.pins.getLsbD k != d.bit .shutCfg (8 + k)

/-- Shutter line k is BLANK: any source of Table 6.3 holds it (R274). -/
def Dev.lineBlank (d : Dev) (k : Nat) : Bool :=
  (d.pinAsserted k && d.bit .shutCfg k) || d.shut.eph.getLsbD k || d.bit .lkShutLink k || d.bit .shutTrip k ||
    d.bit .shutForce k

/-- The eight lines as SHUT_STATE BLANK shows them. -/
def Dev.blankLines (d : Dev) : Nat := (List.range 8).foldl (fun n k => if d.lineBlank k then n + 2 ^ k else n) 0

/-- SHUT_STATE as it reads (Table 6.6). -/
def Dev.readShutState (d : Dev) : Word :=
  at_ (d.fld .lkShutLink 0 8) 24 ||| at_ d.shut.eph.toNat 16 |||
    at_ ((List.range 8).foldl (fun n k => if d.pinAsserted k then n + 2 ^ k else n) 0) 8 ||| at_ d.blankLines 0

/-- A shutter source changes by `f`: a line that becomes BLANK is told to the lanes (R276), and every change of a line is
an edge for the chronographs (Table 13.1). -/
def Dev.changeShutter (d : Dev) (f : Dev → Dev) : Dev :=
  let d' := f d
  forEach (List.range 8) (fun k e =>
    if d'.lineBlank k = d.lineBlank k then e
    else
      let e := e.post (.level (0x68 + k) (d'.lineBlank k))
      if d'.lineBlank k then e.post .blanked else e) d'

/-- Opens or closes the ephemeris window of line k (Table 6.3). -/
def Dev.shutWindow (d : Dev) (k : Nat) (opens : Bool) : Dev :=
  d.changeShutter (fun d => { d with shut := { d.shut with
    eph := if opens then d.shut.eph ||| (1#8 <<< k) else d.shut.eph &&& ~~~(1#8 <<< k) } })

/-- Sets or clears the link source of line k (R708, R709). -/
def Dev.shutLink (d : Dev) (k : Nat) (blank : Bool) : Dev :=
  d.changeShutter (fun d =>
    if blank then d.setBits .lkShutLink (mkBit true k) else d.clrBits .lkShutLink (mkBit true k))

/-- Sets the trip source of line k (Table 15.1). -/
def Dev.shutTripSet (d : Dev) (k : Nat) : Dev := d.changeShutter (fun d => d.setBits .shutTrip (mkBit true k))

/-- A pin level is accepted (R275). -/
def Dev.shutPin (d : Dev) (k : Fin 8) (high : Bool) : Dev :=
  d.changeShutter (fun d => { d with shut := { d.shut with
    pins := if high then d.shut.pins ||| (1#8 <<< k.val) else d.shut.pins &&& ~~~(1#8 <<< k.val) } })

/-- A SHUT_FORCE write (Table 6.3). -/
def Dev.writeShutForce (d : Dev) (w : Word) : Result := (.ok, d.changeShutter (fun d => d.wr .shutForce w))

/-- A SHUT_CFG write: enables and polarities change the pin sources (Table 6.6). -/
def Dev.writeShutCfg (d : Dev) (w : Word) : Result := (.ok, d.changeShutter (fun d => d.wr .shutCfg w))

/-- Writing 1 to SHUT_TRIP bits (Table 6.3). -/
def Dev.clearShutTrip (d : Dev) (w : Word) : Result := (.ok, d.changeShutter (fun d => d.clrBits .shutTrip (at_ (Machine.fld w 0 8) 0)))

end Sys2Proof.Machine
end

