-- ==== Sys2Proof/Machine/Trip.lean ====
section
/-! DEFINITION. The trip comparators: values presented, persistence and hysteresis, actions, TRIP pins and records
(15_trip_path.md). -/
namespace Sys2Proof.Machine

/-- The side a value lies on (R590). -/
def sideOf (e : TripEntry) (v : Int) : Side := if e.high < v then .high else if v < e.low then .low else .none

/-- A value inside the hysteresis band returns a comparator to NORMAL (R592). -/
def inBand (e : TripEntry) (v : Int) : Bool := decide (e.low + e.hyst ≤ v) && decide (v ≤ e.high - e.hyst)

/-- A TRIPPED comparator holds TRIP[k] (R599). -/
def Dev.cmpHolds (d : Dev) (k : Fin 8) : Bool :=
  (List.finRange 64).any (fun i => d.cmps[i].tripped && decide (d.cmps[i].hold = some k))

/-- TRIP[k] is asserted (R599). -/
def Dev.tripAsserted (d : Dev) (k : Fin 8) : Bool :=
  d.cmpHolds k || d.bit .tripHeld k.val || d.bit .tripHeld (8 + k.val)

/-- LATCHED bits of asserted lines whose LATCH bit is 1 (R599). -/
def Dev.latchTrips (d : Dev) : Dev :=
  forEach (List.finRange 8) (fun k d =>
    if d.bit .tripCfg (8 + k.val) && d.tripAsserted k then d.setBits .tripHeld (mkBit true k.val) else d) d

/-- The comparators or TRIP_HELD change by `f`; asserted lines are latched (R599). -/
def Dev.changeTrips (d : Dev) (f : Dev → Dev) : Dev := (f d).latchTrips

/-- TRIP[k] is driven asserted at the ball: one edge after the line is (Table 15.3 step 5). -/
def Dev.tripDriven (d : Dev) (k : Fin 8) : Bool := d.tripOut.getLsbD k.val

/-- The level driven on TRIP[k]: low until TRIP_CFG is first written (R600). -/
def Dev.tripPin (d : Dev) (k : Fin 8) : Bool := d.tripCfgWritten && (d.tripDriven k != d.bit .tripCfg k.val)

/-- A job of the comparators is due `after` edges from now (Table 15.3). -/
def Dev.tripLater (d : Dev) (after : Nat) (j : TripJob) : Dev := { d with tripJobs := d.tripJobs ++ [(d.clk.cycle + after, j)] }

/-- A trip FAULT record (R602, Table 15.2). -/
def Dev.tripRecord (d : Dev) (i : Fin 64) (cause : Nat) (e : TripEntry) (v : Ratio) : Dev :=
  d.handOverIf (d.bit .tripCfg 27)
    (d.mkRec .fault .comparator i.val (toFin 15 (d.fld .tripCfg 28 4)) 0
      (at_ cause 24 ||| at_ e.actions 16 ||| at_ (e.bridge % 4096) 0) (ratioLo v)
      (mkBit e.reduced 16 ||| at_ e.pin.val 8 ||| at_ (v.toNat / 2 ^ 32) 0))

/-- CAUSE of a trip by its side (Table 15.2). -/
def Side.cause : Side → Nat
  | .high => 0x30
  | .low => 0x31
  | .coll => 0x32
  | .none => 0x33

/-- The code of a side in CMP_STATUS (Table 15.6). -/
def Side.code : Side → Nat
  | .none => 0
  | .low => 1
  | .high => 2
  | .coll => 3

/-- The actions of a comparator that has entered TRIPPED, on the edge after (R597, Table 15.1). The broadcast is handed to the
link one edge later still, as an urgent TRIP frame (Tables 15.3 and 18.2). -/
def Dev.tripActions (d : Dev) (i : Fin 64) (e : TripEntry) : Dev :=
  let q := quadOfBridge e.bridge
  let d := if e.actions % 2 = 1 then d.onCmp i (fun c => { c with hold := some e.pin }) else d
  let d := if e.actions / 2 % 2 = 1 then d.setClearSource .outQclrTrip (d.rd .outQclrTrip ||| mkBit true q.val) else d
  let d := if e.actions / 4 % 2 = 1 then d.shutTripSet e.pin.val else d
  if e.actions / 8 % 2 = 1 then d.tripLater 1 (.send e.pin.val) else d

/-- A comparator enters TRIPPED under an entry (R591, R594, R602); its actions follow on the next edge (R597). -/
def Dev.tripEnter (d : Dev) (i : Fin 64) (bytes : List Byte) (side : Side) (v : Ratio) : Dev :=
  let d := d.onCmp i (fun c => { c with tripped := true, side := side, hold := Option.none })
  let d := (d.count (.cmpTrips i) 1).setBits (.cmpStatus i) (mkBit true 0)
  (d.tripRecord i side.cause (tripFields bytes) v).tripLater 1 (.act i bytes)

/-- A comparator back in NORMAL with its count at 0 and its hold withdrawn (R592, R595, R596). -/
def Cmp.normal (c : Cmp) : Cmp := { c with tripped := false, side := .none, count := 0, hold := Option.none }

/-- A comparator is set to NORMAL; a line it held may go (R592, R596). -/
def Dev.cmpNormal (d : Dev) (i : Fin 64) : Dev :=
  if d.cmps[i].tripped then d.changeTrips (fun d => d.onCmp i Cmp.normal) else d.onCmp i Cmp.normal

/-- Every comparator NORMAL with count 0 (R595). -/
def Dev.tripsNormal (d : Dev) : Dev := d.changeTrips (fun d => { d with cmps := d.cmps.map Cmp.normal })

/-- Step 3 of Table 15.3 for a value of generation `gen` under the entry `bytes` (R586 to R592, R596). -/
def Dev.presentTo (d : Dev) (i : Fin 64) (bytes : List Byte) (gen : Byte) (v : Ratio) : Dev :=
  let e := tripFields bytes
  let c := d.cmps[i]
  let d := if c.entry ≠ [] ∧ c.entry ≠ bytes then d.cmpNormal i else d
  let d := (d.onCmp i (fun c => { c with entry := bytes, gen := gen })).wrRatio (.cmpLast i) v
  if d.cmps[i].tripped then
    if inBand e v.toInt then (d.cmpNormal i).tripRecord i 0x33 e v else d
  else
    match sideOf e v.toInt with
    | .none => d.onCmp i (fun c => { c with count := 0 })
    | side =>
      let d := d.onCmp i (fun c => { c with count := c.count + 1 })
      if e.persist ≤ d.cmps[i].count then d.tripEnter i bytes side v else d

/-- A value of a bridge is presented to the comparators that watch it (R587 to R589): `reduced` tells which of the two kinds.
They take it up two edges later (Table 15.3). -/
def Dev.present (d : Dev) (bridge : Fin 2176) (reduced : Bool) (gen : Byte) (old : Bool) (v : Ratio) : Dev :=
  if v = voidRatio then d
  else
    forEach (List.finRange 64) (fun i d =>
      let bytes := entryOf (d.bankOf old).trip i.val
      let e := tripFields bytes
      if e.en && decide (e.bridge = bridge.val) && (e.reduced == reduced) then d.tripLater 2 (.value i bytes gen v) else d) d

/-- Collimation trips the enabled comparators of a bridge, on its decision edge and under the entries in force (R458, R594,
Table 15.6). A comparator already TRIPPED stays as it is (R598). -/
def Dev.collTrip (d : Dev) (bridge : Fin 2176) : Dev :=
  forEach (List.finRange 64) (fun i d =>
    let bytes := entryOf d.alm.trip i.val
    let e := tripFields bytes
    if e.en && decide (e.bridge = bridge.val) && !d.cmps[i].tripped then
      (d.onCmp i (fun c => { c with count := e.persist, gen := d.genInForce })).tripEnter i bytes .coll 0 else d) d

/-- One job of the comparators is done on its edge (Table 15.3 steps 3 to 5). -/
def Dev.tripJob (d : Dev) : TripJob → Dev
  | .value i bytes gen v => d.presentTo i bytes gen v
  | .act i bytes => d.changeTrips (fun d => d.tripActions i (tripFields bytes))
  | .send k => d.post (.urgent 4 k 0)

/-- The jobs that are due on the present edge, in the order in which they were given. -/
def Dev.tripWork (d : Dev) : Dev :=
  let now (j : Nat × TripJob) : Bool := decide (j.1 ≤ d.clk.cycle)
  forEach (d.tripJobs.filter now) (fun j d => d.tripJob j.2)
    { d with tripJobs := d.tripJobs.filter (fun j => !now j) }

/-- The TRIP lines as they are driven from the next edge on (Table 15.3 step 5). -/
def Dev.tripLines (d : Dev) : BitVec 8 :=
  (List.finRange 8).foldl (fun w k => if d.tripAsserted k then w ||| (1#8 <<< k.val) else w) 0

/-- A trip broadcast for line k arrives (R601). -/
def Dev.remoteTrip (d : Dev) (k : Nat) : Dev :=
  if d.bit .tripRx k then d.changeTrips (fun d => d.setBits .tripHeld (mkBit true (8 + k))) else d

/-- A TRIP_CFG write (R599, R600). -/
def Dev.writeTripCfg (d : Dev) (w : Word) : Result := (.ok, { d.changeTrips (fun d => d.wr .tripCfg w) with tripCfgWritten := true })

/-- Writing 1 to TRIP_HELD bits (R599): a line that a comparator still asserts is latched again. -/
def Dev.clearTripHeld (d : Dev) (w : Word) : Result :=
  (.ok, d.changeTrips (fun d => d.clrBits .tripHeld (at_ (Machine.fld w 0 16) 0)))

/-- TRIP_PINS as it reads (Table 15.6). -/
def Dev.readTripPins (d : Dev) : Word :=
  (List.finRange 8).foldl (fun w k => w ||| mkBit (d.tripAsserted k) k.val) 0

/-- CMP_STATUS as it reads (Table 15.6). -/
def Dev.readCmpStatus (d : Dev) (i : Fin 64) : Word :=
  let c := d.cmps[i]
  d.rd (.cmpStatus i) ||| mkBit c.tripped 31 ||| at_ c.side.code 29 ||| at_ (c.count % 256) 16 ||| at_ c.gen.toNat 8

end Sys2Proof.Machine
end

