-- ==== Sys2Proof/Machine/Bus.lean ====
section
/-! DEFINITION. Turret-bus frames, the commands an extension port has still to send, and who holds the port
(07_turret.md, R291 to R294, R309 to R312, R320, R321). -/
namespace Sys2Proof.Machine

/-! ### Frames (Tables 7.3 to 7.5) -/

/-- The code of a command (Table 7.5). -/
def BusCmd.code : BusCmd → Nat
  | .brk => 1
  | .discharge => 2
  | .make => 3
  | .query => 4
  | .ident => 5
  | .breakA => 9
  | .dischargeA => 10
  | .makeA => 11

/-- The command of a code; none for the reserved ones (R312). -/
def cmdOf (code : Nat) : Option BusCmd :=
  match code with
  | 1 => some .brk
  | 2 => some .discharge
  | 3 => some .make
  | 4 => some .query
  | 5 => some .ident
  | 9 => some .breakA
  | 10 => some .dischargeA
  | 11 => some .makeA
  | _ => none

/-- The form without a reply (R321). -/
def BusCmd.plain : BusCmd → BusCmd
  | .breakA => .brk
  | .dischargeA => .discharge
  | .makeA => .make
  | c => c

/-- The command expects a reply (Table 7.5). -/
def BusCmd.replies : BusCmd → Bool
  | .brk => false
  | .discharge => false
  | .make => false
  | _ => true

/-- A frame with its CRC in bits [4:0] (R311). -/
def withCrc (w : Word) : Word := w ||| at_ (crc5 w) 0

/-- The command frame of an item (Table 7.3). -/
def cmdFrame (c : BusCmd) (i : BusItem) (seq : Nat) : Word :=
  withCrc (at_ c.code 28 ||| at_ i.card.val 26 ||| at_ i.slot.val 20 ||| at_ (seq % 16) 16 ||| at_ (i.arg % 256) 8 |||
    mkBit i.all 5)

/-- A reply frame (Table 7.4). -/
def replyFrame (c : BusCmd) (card : Fin 4) (seq status data : Nat) : Word :=
  withCrc (at_ c.code 28 ||| at_ card.val 26 ||| at_ (seq % 16) 22 ||| at_ (status % 4) 20 ||| at_ (data % 2 ^ 15) 5)

/-! ### Commands still to send -/

/-- Every command of a port that is not finished. -/
def XPort.items (x : XPort) : List BusItem :=
  (x.outstanding.map (·.1)).toList ++ x.timed.toList ++ x.wanted

/-- The lane a command is sent for. -/
def BusWhy.lane : BusWhy → Option (Fin 32)
  | .break_ n => some n
  | .connect n _ => some n
  | .withdraw n _ => some n
  | _ => none

/-- The command belongs to collimation. -/
def BusWhy.isColl : BusWhy → Bool
  | .coll _ => true
  | _ => false

/-- Adds commands to those a port has to send. -/
def Dev.wantBus (d : Dev) (x : Fin 8) (l : List BusItem) : Dev := d.onX x (fun p => { p with wanted := p.wanted ++ l })

/-- TB_CTRL ACK_MODE (R321). -/
def Dev.ackMode (d : Dev) (x : Fin 8) : Bool := d.bit (.tbCtrl x) 0

/-- The command that goes on the bus for an item: with ACK_MODE 0 connection changes take the forms without a reply; a
safety break never takes one (R321, R329, R333). -/
def Dev.busForm (d : Dev) (x : Fin 8) (i : BusItem) : BusCmd :=
  if i.why = .safety ∨ d.ackMode x = false then i.cmd.plain else i.cmd

/-- A break of lane n's connection is not finished on the port. -/
def XPort.breaking (x : XPort) (n : Fin 32) : Bool :=
  x.items.any (fun i => match i.why with
    | .break_ m => decide (m = n)
    | .withdraw m _ => decide (m = n)
    | _ => false)

/-- The DISCHARGE that begins the connection of ticket t waits, and has never been sent (R328). -/
def XPort.unsent (x : XPort) (t : Nat) : Bool :=
  x.wanted.any (fun i => decide (i.cmd = .dischargeA) && i.seq.isNone && match i.why with
    | .connect _ u => decide (u = t)
    | _ => false)

/-- The commands left when those that connect ticket t and have never been sent are dropped (R328; log entry 55). -/
def dropConnect (t : Nat) (l : List BusItem) : List BusItem :=
  l.filter (fun i => match i.why with
    | .connect _ u => decide (u ≠ t) || i.seq.isSome
    | _ => true)

/-- A port is held by no other lane, by no command of another lane, and not by collimation (R37, R291, R442). -/
def Dev.xportFree (d : Dev) (x : Fin 8) (n : Fin 32) : Bool :=
  let p := d.xports[x]
  (decide (p.holder = none) || decide (p.holder = some n)) && !p.releasing &&
    p.items.all (fun i => !i.why.isColl && match i.why.lane with
      | some m => decide (m = n)
      | none => true) && !d.ports[toFin 135 (128 + x.val)].collimated

/-- A lane's head ticket, when the lane converts nothing (R391). -/
def Dev.headOf (d : Dev) (n : Fin 32) : Option Nat := if d.lanes[n].current.isSome then none else d.lanes[n].queue.head?

/-- The lanes whose head ticket waits for a port that another lane holds or has taken, with the edge on which each began to wait
(R293). -/
def Dev.waiters (d : Dev) (x : Fin 8) : List (Fin 32 × Nat) :=
  (lanesOf (quadOfXport x)).filterMap (fun n => do
    let t ← d.headOf n
    let k ← d.ticket t
    let c ← k.waitSince
    if portOfBridge k.desc.bridge.val = toFin 135 (128 + x.val) ∧ d.xports[x].holder ≠ some n then some (n, c) else none)

/-- The lane to which the port passes: the longest waiting, then the lowest (R293). -/
def Dev.nextHolder (d : Dev) (x : Fin 8) : Option (Fin 32) :=
  ((d.waiters x).foldl (fun best w => match best with
    | none => some w
    | some b => if w.2 < b.2 then some w else some b) none).map (·.1)

/-- Marks the head tickets that begin to wait for a port (R38, R293). A lane that holds the port waits for it only once it has given
it up. -/
def Dev.updateWaits (d : Dev) : Dev :=
  forEach allLanes (fun n d =>
    match d.headOf n with
    | none => d
    | some t =>
      match d.ticket t with
      | none => d
      | some k =>
        match extOfBridge k.desc.bridge.val with
        | none => d
        | some (x, _, _) =>
          if k.waitSince = none ∧ d.xports[x].holder ≠ some n ∧ (d.xportFree x n = false ∨ (d.waiters x).any (fun w => decide (w.1 ≠ n)) = true) then
            d.onTicket t (fun k => { k with waitSince := some d.clk.cycle })
          else d) d

/-- The items that break a slot (Table 7.7 step 2). -/
def breakItem (slot : Fin 4 × Fin 64) (why : BusWhy) : BusItem :=
  { cmd := .breakA, card := slot.1, slot := slot.2, why := why }

/-- Steps 4 to 7 of Table 7.7. -/
def connectItems (c : Fin 4) (s : Fin 64) (us : Nat) (why : BusWhy) : List BusItem :=
  [{ cmd := .dischargeA, card := c, slot := s, arg := us, why := why }, { cmd := .makeA, card := c, slot := s, why := why }]

/-- Breaks whatever lane n holds made on port x, unless a break of it is under way (R298, R326, Table 7.7 step 2). -/
def Dev.breakPort (d : Dev) (x : Fin 8) (n : Fin 32) : Dev :=
  let p := d.xports[x]
  if p.holder = some n ∧ p.breaking n = false then
    match p.made with
    | some slot => d.wantBus x [breakItem slot (.break_ n)]
    | none => d
  else d

/-- The connection lane n asked for on port x is broken: the lane holds the port no more (R291), until the first DISCHARGE or
MAKE of its next connection. -/
def Dev.portBroken (d : Dev) (x : Fin 8) (n : Fin 32) : Dev :=
  (d.onX x (fun p => { p with made := none, closing := none, holder := none })).post (.freed n)

end Sys2Proof.Machine
end

