-- ==== Sys2Proof/Machine/Lanes.lean ====
section
/-! DEFINITION. Ports, rests, turrets, burst pairs, samples, commit edges and cancellation: what one lane does for its
ticket (06_bridge_ports.md, 07_turret.md R288 to R299, 08_eyepiece_lanes.md, 09_tickets.md R387 to R401). -/
namespace Sys2Proof.Machine

/-! ### Ports -/

/-- The number of an extension port among the ports. -/
def xPort (x : Fin 8) : Fin 136 := toFin 135 (128 + x.val)

/-- PORT_CTRL or XPORT_CTRL of a port (R277). -/
def ctrlReg (p : Fin 136) : Reg := if p.val < 128 then .portCtrl (toFin 127 p.val) else .xportCtrl (toFin 7 (p.val - 128))

/-- PORT_STATUS or XPORT_STATUS of a port. -/
def statusReg (p : Fin 136) : Reg :=
  if p.val < 128 then .portStatus (toFin 127 p.val) else .xportStatus (toFin 7 (p.val - 128))

/-- PORT_RBRIDGE or XPORT_RBRIDGE of a port. -/
def rbridgeReg (p : Fin 136) : Reg :=
  if p.val < 128 then .portRbridge (toFin 127 p.val) else .xportRbridge (toFin 7 (p.val - 128))

/-- PORT_IEXC or XPORT_IEXC of a port. -/
def iexcReg (p : Fin 136) : Reg :=
  if p.val < 128 then .portIexc (toFin 127 p.val) else .xportIexc (toFin 7 (p.val - 128))

/-- Any line of a port's SHUT_MASK is BLANK (R276, R277). -/
def Dev.portBlank (d : Dev) (p : Fin 136) : Bool :=
  (List.range 8).any (fun k => d.bit (ctrlReg p) k && d.lineBlank k)

/-- The drive of a port at 0 V (R247). -/
def Port.cut (p : Port) : Port := { p with drive := .off, pulse := none }

/-- The port's driver ran into its limit (R252). -/
def Dev.flagIlim (d : Dev) (p : Fin 136) (ilim : Bool) : Dev := if ilim then d.setBits (statusReg p) (mkBit true 8) else d

/-- A bridge rests (R260, R261): no rest at a duty of 1000. -/
def Dev.beginRest (d : Dev) (b : Fin 2176) (duty : Nat) : Dev :=
  if duty < 1000 ∧ b ∉ d.rests then { d with rests := b :: d.rests } else d

/-- PORT_STATUS as it reads (Table 6.5). -/
def Dev.readPortStatus (d : Dev) (p : Fin 136) : Word :=
  let o := d.ports[p]
  d.rd (statusReg p) ||| mkBit (d.rests.any (fun b => decide (portOfBridge b.val = p))) 3 ||| mkBit o.pulse.isSome 2 |||
    mkBit (decide (o.drive = .neg)) 1 ||| mkBit (decide (o.drive ≠ .off)) 0

/-! ### The coefficient cache (R431 to R437) -/

/-- PD2 is on: not switched off, not in SLEEP and not in SAFE (R172, R437). -/
def Dev.reduceOn (d : Dev) : Bool :=
  !d.bit .pdCtrl 0 && decide (d.boot.phase ≠ .sleep) && decide (d.boot.phase ≠ .safe)

/-- A line of a bridge, valid or being fetched. -/
def Dev.line (d : Dev) (b : Fin 2176) : Option CacheLine := d.red.cache.find? (fun l => decide (l.bridge = b))

/-- A cache without its least recently used line that no ticket holds (R433). -/
def evict (held : List (Nat × Nat)) : List CacheLine → List CacheLine
  | [] => []
  | l :: t => if tget 0 held l.bridge.val = 0 then t else l :: evict held t

/-- A ticket holds the line of its bridge, which is fetched if it is not valid (R432, R433): a ticket in a run-ahead slot
or at stage 4 does, and no other, so at most three of a lane hold one. -/
def Dev.holdLine (d : Dev) (b : Fin 2176) : Dev :=
  let held := tset 0 d.red.held b.val (tget 0 d.red.held b.val + 1)
  let cache := match d.line b with
    | some l => d.red.cache.filter (fun m => decide (m.bridge ≠ b)) ++ [l]
    | none =>
      if d.reduceOn then
        (if 256 ≤ d.red.cache.length then evict held d.red.cache else d.red.cache) ++
          [{ bridge := b, fetching := true, block := [], record := [] }]
      else d.red.cache
  { d with red := { d.red with held := held, cache := cache } }

/-- A ticket releases its line (R432). -/
def Dev.dropLine (d : Dev) (b : Fin 2176) : Dev :=
  { d with red := { d.red with held := tset 0 d.red.held b.val (tget 0 d.red.held b.val - 1) } }

/-! ### The modulator clock (R343, R806) -/

/-- One modulator period in units of 2^-16 ns: 97.65625 ns (R343). -/
def modTick : Int := 6400000

/-- Where in its period lane n's modulator ticks, in τ: it lags the common source by n × T_mod / 32, and the source takes its phase
at the lock of the measurement PLL (R343, R806; log entry 123). -/
def Dev.modPhase (d : Dev) (n : Fin 32) : Int := ((Config.modPhase d.clk.modLock % 6400000 + 200000 * n.val : Nat) : Int)

/-- τ of the modulator tick of lane n on which the present CCLK edge acts: the last one at or before it (R806). -/
def Dev.lastTick (d : Dev) (n : Fin 32) : Int := d.clk.tau - (d.clk.tau - d.modPhase n) % modTick

/-! ### A lane's ticket -/

/-- The ticket at stage 4 or 5 of a lane, with its pool index. -/
def Dev.working (d : Dev) (n : Fin 32) : Option (Nat × Ticket) := do
  let t ← d.lanes[n].current
  let k ← d.ticket t
  some (t, k)

/-- A lane's measurement state changed by a function. -/
def Dev.onWork (d : Dev) (n : Fin 32) (f : Work → Work) : Dev := d.onLane n (fun l => { l with work := f l.work })

/-- The filter profile of a lane's ticket under the lane's generation (R234, R349). -/
def Dev.filterFor (d : Dev) (n : Fin 32) (k : Ticket) : Filter :=
  filterOf (d.laneBank n) (quadOf8 n.val).val k.desc.filter.val

/-- The excitation profile of a lane's ticket under the lane's generation (R250). -/
def Dev.exciteFor (d : Dev) (n : Fin 32) (k : Ticket) : Excite := exciteOf (d.laneBank n) k.desc.excite.val

/-- The lane drives a burst (R276). -/
def Lane.inBurst (l : Lane) : Bool :=
  decide (l.phase = .settle) || decide (l.phase = .discard) || decide (l.phase = .integrate)

/-- The trigger code of an apply (Table 5.13). -/
def ApplyTrigger.code : ApplyTrigger → Nat
  | .immediate => 0
  | .transit _ => 1
  | .mark _ => 2

/-- A CONFIG_APPLIED record with the event edge now (R241 to R243, R677). -/
def Dev.appliedRecord (d : Dev) (cls : SrcClass) (idx moved : Nat) (flags : Word) (cycles : Nat) : Rec :=
  let a := d.apply
  d.mkRec .configApplied cls idx a.log (mkBit (d.bit .applyStatus 24) 2 ||| flags)
    (at_ a.oldGen.toNat 24 ||| at_ a.newGen.toNat 16 ||| at_ a.trigger.code 12 ||| at_ (min moved 4095) 0)
    (BitVec.ofNat 32 (min cycles 0xFFFFFFFF)) 0

/-- A lane passes its switch edge (R234, R241); AT_TRIGGER tells whether that is the trigger edge. -/
def Dev.switchLane (d : Dev) (n : Fin 32) : Dev :=
  if d.lanes[n].old then
    let r := d.appliedRecord .lane n.val (tget 0 d.apply.moved n.val) (mkBit (decide (d.apply.edge = d.clk.cycle)) 1) 0
    { d.onLane n (fun l => { l with old := false }) with
      apply := { d.apply with
        unswitched := d.apply.unswitched.filter (fun m => decide (m ≠ n))
        owed := d.apply.owed ++ [(n, r)] } }
  else d

/-- The ticket at stage 4 or 5 leaves the lane: the lane is idle, and passes its switch edge if it has not (R234). -/
def Dev.leaveLane (d : Dev) (n : Fin 32) : Dev :=
  ((d.onLane n (fun l => { l with
    current := none, phase := .idle, work := {}, step := if l.closed.isSome then .made else .idle
    shortOpen := false })).switchLane n).post (.freed n)

/-! ### Commit edges and plates (R359, R363, R393) -/

/-- The raw ratio of completed pairs, before R60: the mean of (P − N)/2 over them, rounded once (R359). -/
def rawRatio (pairs : List (Int × Nat)) : Int :=
  let f := pairs.foldl (fun (a : Int × Nat) p => (a.1 * p.2 + p.1 * a.2, a.2 * p.2)) (0, 1)
  roundDiv f.1 (f.2 * 2 * pairs.length)

/-- The saturation code of a direction (R363). -/
def satCode (positive : Bool) : Ratio := if positive then 0x7FFFFFFFFF#40 else 0x8000000001#40

/-- The mean resistance of a ticket's contributing pairs (R418). -/
def meanResistance (l : List Nat) : Option Word :=
  if l = [] then none else some (BitVec.ofInt 32 (roundDiv ((l.foldl (· + ·) 0 : Nat) : Int) l.length))

/-- STATUS bits of a plate that the lane and the turret set (Table 17.6). -/
def laneStatus (w : Work) (late voided ovr shutTimeout turretErr : Bool) : BitVec 16 :=
  (at_ (min w.voids 15) 12 ||| mkBit voided 11 ||| mkBit ovr 10 ||| mkBit shutTimeout 9 ||| mkBit w.lineFault 8 |||
    mkBit turretErr 7 ||| mkBit late 6 ||| mkBit w.ilim 5 ||| mkBit w.excLow 4).setWidth 16

/-- The plate of ticket `t` on its commit edge, which is the present edge (R42, R393, R411). -/
def Dev.mkPlate (d : Dev) (n : Fin 32) (t : Nat) (k : Ticket) (gen : Byte) (raw : Ratio) (status : BitVec 16)
    (resistance : Option Word) : Plate :=
  let f := fabricOf (d.laneBank n) k.desc.bridge.val
  let a := d.logAxis k.desc.log
  let p := d.axisPos a
  let holds := decide (d.lanes[n].current = some t) || decide (d.lanes[n].runAhead = some t)
  { ticket := t, lane := n, bridge := k.desc.bridge
    reducer := f.reducer.map (fun r => k.desc.reducer.getD r)
    gen := gen, old := d.lanes[n].old, raw := raw, status := status, resistance := resistance, tag := k.desc.tag
    log := k.desc.log, commit := d.clk.cycle, epoch := d.marks, holds := holds, w3 := lo48 p, w4 := d.stampHi a p
    flags := d.axisFlags a }

/-- The place of a plate among those that wait for its reducer: oldest commit edge, then lowest lane (R414). -/
def insertPlate (p : Plate) : List Plate → List Plate
  | [] => [p]
  | a :: t =>
    if a.commit < p.commit ∨ (a.commit = p.commit ∧ a.lane.val ≤ p.lane.val) then a :: insertPlate p t else p :: a :: t

/-- The reduced value of a plate reaches the comparators and the output bindings, and counts as a reading of its bridge
unless it is VOID or a saturation code (Table 10.1 step 3, R413, R419); the ticket's cache line is released (R432). -/
def Dev.reachValue (d : Dev) (p : Plate) : Dev :=
  let b := p.bridge
  let d := if p.value = voidRatio ∨ p.value = satCode true ∨ p.value = satCode false then d
    else
      let r : Reading :=
        { mantissa := p.value.toInt, exponent := (fabricOf (d.bankOf p.old) b.val).exponent, tau := d.clk.tau }
      { d with red := { d.red with readings := tins b.val r (tdel d.red.readings b.val) } }
  let d := (d.present b true p.gen p.old p.value).boundValue b p.old p.value
  let d := if p.holds then d.dropLine b else d
  { d with red := { d.red with plates := d.red.plates ++ [{ p with reached := d.clk.cycle }] } }

/-- A bridge's line is being fetched. -/
def Dev.lineFetching (d : Dev) (b : Fin 2176) : Bool := match d.line b with
  | some l => l.fetching
  | none => false

/-- A bridge's line is being fetched again (R434). -/
def Dev.lineAgain (d : Dev) (b : Fin 2176) : Bool := match d.line b with
  | some l => l.fetching && l.again
  | none => false

/-- A raw ratio is offered to its reducer, where it may have to wait for its line (R414, R434), or passes none and reaches
the comparators on the next edge (R413). -/
def Dev.offer (d : Dev) (p : Plate) : Dev :=
  match p.reducer with
  | some r =>
    let w := p.holds && d.lineAgain p.bridge
    let d := if w then d.count .cacheWaits 1 else d
    d.onRed r (fun q => { q with waiting := insertPlate { p with waited := w } q.waiting })
  | none => { d with red := { d.red with direct := d.red.direct ++ [{ p with value := p.raw }] } }

/-- The plates that pass no reducer reach the comparators and the bindings on the edge after their commit edge (R413). -/
def Dev.reachDirect (d : Dev) : Dev :=
  let now (p : Plate) : Bool := decide (p.commit < d.clk.cycle)
  forEach (d.red.direct.filter now) (fun p d => d.reachValue p)
    { d with red := { d.red with direct := d.red.direct.filter (fun p => !now p) } }

/-- A ticket's outcome is fixed: the lane delivers its raw ratio (R393, Table 8.4). -/
def Dev.deliver (d : Dev) (p : Plate) : Dev :=
  ((d.onTicket p.ticket (fun k => { k with stage := .committed })).wrRatio (.laneResult p.lane) p.raw).offer p

/-- The commit edge of a ticket on lane n is a pulse for the chronographs (Table 13.1). -/
def Dev.commitPulse (d : Dev) (n : Fin 32) : Dev := d.post (.pulse (0x40 + n.val))

/-- The lane's ticket ends with the plate and leaves the lane. -/
def Dev.finish (d : Dev) (n : Fin 32) (p : Plate) : Dev := (d.deliver p).leaveLane n

/-- The ticket of a lane ends with a VOID plate (R282, R283). -/
def Dev.finishVoid (d : Dev) (n : Fin 32) (t : Nat) (k : Ticket) (shutTimeout : Bool) : Dev :=
  let w := d.lanes[n].work
  (d.commitPulse n).finish n
    (d.mkPlate n t k (d.laneBank n).gen voidRatio (laneStatus w k.late true false shutTimeout false) none)

/-- A pair is complete: it counts, and the last one fixes the raw ratio (R359, R363), whose own saturation is OVR too (R60, "What if a
negative result lands exactly on 0x80_0000_0000?"). `d` stands on the edge on which its last sample leaves the filter. -/
def Dev.completePair (d : Dev) (n : Fin 32) (t : Nat) (k : Ticket) : Dev :=
  let d := d.onWork n (fun w => { w with
    pairs := w.pairs ++ [(w.sumPos - w.sumNeg, w.length)]
    ovr := w.ovr.or w.pairOvr
    resistances := w.resistances ++ w.pairRes.toList
    pairRes := none })
  let w := d.lanes[n].work
  if w.pairs.length < k.desc.pairs then
    if w.ended then d.onLane n (fun l => { l with phase := .turret, work := { w with ended := false } })
    else d.onWork n (fun w => { w with taken := true })
  else
    let raw := match w.ovr with
      | some dir => satCode dir
      | none => satRatio (rawRatio w.pairs)
    let sat := w.ovr.isSome || ratioSaturates (rawRatio w.pairs)
    let p := d.mkPlate n t k (d.laneBank n).gen raw (laneStatus w k.late false sat false false)
      (meanResistance w.resistances)
    let d := d.commitPulse n
    if w.ended then d.finish n p
    else (d.onTicket t (fun k => { k with stage := .committed })).onWork n (fun w => { w with taken := true, plate := some p })

/-! ### Voided bursts (R276 to R282) -/

/-- A burst of lane n's ticket counts as void, and so does its pair: the ticket tries again, or ends when its voids pass RETRY
(R278, R280 to R282). -/
def Dev.voidPair (d : Dev) (n : Fin 32) (t : Nat) (k : Ticket) (lineFault : Bool) : Dev :=
  let d := if lineFault then d.setBits (.laneStatus n) (mkBit true 11) else d
  let d := d.onLane n (fun l => { l with
    phase := .turret
    work := { l.work with
      voids := l.work.voids + 1, lineFault := l.work.lineFault || lineFault, tail := false, ended := false, pairRes := none } })
  if k.desc.retry < d.lanes[n].work.voids then d.finishVoid n t k false else d

/-- The burst in progress on lane n is voided, with or without LINE_FAULT: its drive ends, and the rest begins (R278 to R282,
R357). -/
def Dev.voidBurst (d : Dev) (n : Fin 32) (lineFault : Bool) : Dev :=
  match d.working n with
  | none => d
  | some (t, k) =>
    if d.lanes[n].inBurst = false ∨ d.lanes[n].work.ended = true ∨ d.lanes[n].work.taken = true then d
    else ((d.onPort (portOfBridge k.desc.bridge.val) Port.cut).beginRest k.desc.bridge (d.exciteFor n k).duty).voidPair n t k
      lineFault

/-- A frame that carried a sample of lane n's burst has failed: the burst is voided, also while its drive has ended and only its last
sample is to come (R777). -/
def Dev.frameVoids (d : Dev) (n : Fin 32) : Dev :=
  match d.working n with
  | none => d
  | some (t, k) =>
    if d.lanes[n].inBurst = true ∧ d.lanes[n].work.ended = true ∧ d.lanes[n].work.taken = false then d.voidPair n t k false
    else d.voidBurst n false

/-- Every burst whose port has a BLANK line in its mask is voided (R276). -/
def Dev.voidShuttered (d : Dev) : Dev :=
  forEach allLanes (fun n d =>
    match d.working n with
    | some (_, k) => if d.portBlank (portOfBridge k.desc.bridge.val) then d.voidBurst n false else d
    | none => d) d

/-! ### The turret (R288 to R299) -/

/-- The ticket's slot is made and confirmed for lane n (R294, R325). -/
def Dev.slotReady (d : Dev) (n : Fin 32) (k : Ticket) : Bool :=
  match extOfBridge k.desc.bridge.val with
  | none => true
  | some (x, c, s) =>
    decide (d.xports[x].holder = some n) && decide (d.xports[x].made = some (c, s)) && !d.xports[x].breaking n

/-- Another lane's turret still has the ticket's port or bridge connected (R37, R239). -/
def Dev.portClosed (d : Dev) (n : Fin 32) (p : Fin 136) : Bool :=
  (lanesOf (quadOf8 n.val)).any (fun m => decide (m ≠ n) && match d.lanes[m].closed with
    | some b => decide (portOfBridge b.val = p)
    | none => false)

/-- The head ticket of an idle lane may enter stage 4 (R38, R239, R262, R299, R391). -/
def Dev.mayConvert (d : Dev) (n : Fin 32) (k : Ticket) : Bool :=
  let p := portOfBridge k.desc.bridge.val
  decide (k.desc.bridge ∉ d.rests) && !d.ports[p].collimated && !d.portClosed n p &&
    match extOfBridge k.desc.bridge.val with
    | none => true
    | some (x, _, _) => d.xportFree x n && (match d.nextHolder x with
      | none => true
      | some m => decide (m = n))

/-- The connection of the ticket's bridge is kept (R297): it stands, and no other lane waits for its port (R293). -/
def Dev.keeps (d : Dev) (n : Fin 32) (k : Ticket) : Bool :=
  decide (d.lanes[n].closed = some k.desc.bridge) && d.slotReady n k &&
    match extOfBridge k.desc.bridge.val with
    | none => true
    | some (x, _, _) => (d.waiters x).all (fun w => decide (w.1 = n))

/-- The card sequence of stage 4 (R325, R326, Table 7.7): what the lane holds on another extension port is broken, and so
is the slot made on this one for the lane's previous ticket; then the slot is made, unless the ticket's own run-ahead has asked
for it. -/
def Dev.cardSequence (d : Dev) (n : Fin 32) (t : Nat) (k : Ticket) : Dev :=
  let tgt := extOfBridge k.desc.bridge.val
  let d := forEach (xportsOf (quadOf8 n.val)) (fun x d =>
    if (tgt.map (·.1)) = some x ∧ k.connect = true then d else d.breakPort x n) d
  match tgt with
  | none => d
  | some (x, c, s) =>
    if k.connect then d
    else
      (d.wantBus x (connectItems c s (fabricOf (d.laneBank n) k.desc.bridge.val).dischargeUs (.connect n t))).onTicket t
        (fun k => { k with connect := true })

/-- Stage 4 begins for the head ticket of lane n (R295, R297, R341, R391, R432). -/
def Dev.enterStage4 (d : Dev) (n : Fin 32) (t : Nat) (k : Ticket) : Dev :=
  let kept := d.keeps n k
  let d := if d.lanes[n].runAhead = some t then d else d.holdLine k.desc.bridge
  let d := d.onTicket t (fun k => { k with stage := if kept then .bursts else .turret, waitSince := none })
  let d := d.onLane n (fun l => { l with
    queue := l.queue.filter (· ≠ t), runAhead := none, current := some t, work := {}, phase := .turret
    gain := k.desc.gain, gainWas := l.gain, profile := k.desc.filter
    step := if kept then .made else .short
    closed := if kept then l.closed else none
    shortOpen := false, brokeAt := d.lastTick n })
  (if kept then d else d.cardSequence n t k).post (.freed n)

/-- The turret of lane n has broken its old input, and its short is not closed yet: tick 1 of Table 7.1 is still to come. -/
def Dev.beforeShort (d : Dev) (n : Fin 32) : Bool :=
  decide (d.lanes[n].step = .short) && decide (d.clk.tau < d.lanes[n].brokeAt + modTick)

/-- TUR_STATUS as it reads (Table 7.9). STEP is break until the short closes, one modulator tick after tick 0 (Table 7.1), and
card wait while the short is closed and the card sequence is not confirmed. -/
def Dev.readTurStatus (d : Dev) (n : Fin 32) : Word :=
  let l := d.lanes[n]
  let step := match l.step with
    | .idle => 0
    | .break_ => 1
    | .short => if d.beforeShort n then 1 else match d.working n with
      | some (_, k) => if d.slotReady n k then 2 else 3
      | none => 2
    | .cardWait => 3
    | .made => 4
  match l.closed with
  | none => at_ step 28 ||| at_ 0xFFF 16
  | some b =>
    let port := if b.val < 128 then b.val % 32 else (b.val - 128) / 256 % 2
    at_ step 28 ||| at_ b.val 16 ||| mkBit true 7 ||| mkBit (decide (128 ≤ b.val)) 6 ||| at_ port 0

/-! ### Cancellation (R394 to R401) -/

/-- The code of a cancel cause (Table 9.4). -/
def CancelCause.code : CancelCause → Nat
  | .software => 0
  | .hold => 1
  | .sleep => 2
  | .field => 3
  | .thermal => 4
  | .expired => 5
  | .fault => 6
  | .safe => 7

/-- The code of a stage (Table 9.4). -/
def Stage.code : Stage → Nat
  | .armed => 0
  | .queued => 1
  | .runAhead => 2
  | .turret => 3
  | .bursts => 4
  | .committed => 4

/-- The CANCELLED record of a cancelled ticket is handed over and its entry released (R376, R399). -/
def Dev.handCancelled (d : Dev) (t : Nat) : Dev :=
  match d.ticket t with
  | none => d
  | some k =>
    match k.cancelled with
    | none => d
    | some c =>
      let armed := decide (c.stage = .armed)
      let w7 := at_ c.cause.code 28 ||| at_ c.stage.code 25 ||| mkBit c.pulseRunning 24 ||| at_ (min k.pulses 255) 16 |||
        mkBit k.dischargeSent 15 ||| mkBit k.makeSent 14 ||| mkBit k.makeConfirmed 13 ||| mkBit c.laneMade 12 |||
        at_ k.desc.bridge.val 0
      let r := d.mkRec .cancelled (if armed then .scheduler else .lane) (if armed then 0 else k.lane.val) k.desc.log 0
        k.desc.tag (d.handle t) w7
      (d.handOver { r with cause := c.by_ }).freeTicket t

/-- A connection of ticket t that is not made for a lane is given up (R328): commands not yet sent are dropped, and what
has been sent, repeats of it that wait included, is followed by a BREAK_A once its reply has come or failed. Answers whether such
a break is owed. -/
def Dev.withdrawSlot (d : Dev) (n : Fin 32) (t : Nat) (k : Ticket) : Bool × Dev :=
  match extOfBridge k.desc.bridge.val with
  | none => (false, d)
  | some (x, c, s) =>
    if k.connect = false then (false, d)
    else
      let sent := decide (d.xports[x].holder = some n) && !d.xports[x].unsent t
      let d := (d.onX x (fun p => { p with wanted := dropConnect t p.wanted })).onTicket t
        (fun k => { k with connect := false })
      if sent then (true, d.wantBus x [breakItem (c, s) (.withdraw n t)]) else (false, d)

/-- The run-ahead of lane n is withdrawn; its ticket goes on waiting in the queue (R238, R269). Its pre-warm pulses stay
counted, so that PREWARM_N and the alternation of polarity go on when its run-ahead starts again, which R266 leaves open
(log entry 47). -/
def Dev.withdrawRunAhead (d : Dev) (n : Fin 32) : Dev :=
  match d.lanes[n].runAhead with
  | none => d
  | some t =>
    match d.ticket t with
    | none => d
    | some k =>
      let d := (d.onLane n (fun l => { l with runAhead := none })).dropLine k.desc.bridge
      let d := d.onTicket t (fun k => { k with stage := .queued })
      (d.withdrawSlot n t k).2

/-- A pre-warm pulse of ticket t runs on its port (R269). -/
def Dev.pulsing (d : Dev) (t : Nat) (k : Ticket) : Bool :=
  decide (d.ports[portOfBridge k.desc.bridge.val].pulse = some (d.handle t))

/-- A break that a cancelled ticket waits for has not been sent (R328). -/
def Dev.breakOwed (d : Dev) (t : Nat) (k : Ticket) : Bool :=
  match extOfBridge k.desc.bridge.val with
  | none => false
  | some (x, _, _) => d.xports[x].wanted.any (fun i => match i.why with
    | .withdraw _ u => decide (u = t)
    | _ => false)

/-- A pulse served the ticket with this handle and is over: the record of a ticket cancelled meanwhile is handed over, unless
a BREAK_A is still to be sent (Table 9.3). -/
def Dev.pulseOver (d : Dev) (h : Word) : Dev :=
  let t := Machine.fld h 0 11
  match d.ticket t with
  | none => d
  | some k => if d.handle t = h ∧ k.cancelled.isSome = true ∧ d.breakOwed t k = false then d.handCancelled t else d

/-- A port goes to 0 V, and a pulse in progress is over (R247, R286). -/
def Dev.cutPort (d : Dev) (p : Fin 136) : Dev :=
  let o := d.ports[p]
  let d := d.onPort p Port.cut
  match o.pulse with
  | some h => d.pulseOver h
  | none => d

/-- A ticket that has not passed its commit edge is cancelled (R394, R398, Table 9.3). A pre-warm pulse completes all the
same (R267), and at stage 4 the record waits until the drive is at 0 V (log entry 121). -/
def Dev.cancelTicket (d : Dev) (t : Nat) (cause : CancelCause) (by_ : Option (Fin 8 × Nat)) : Dev :=
  match d.ticket t with
  | none => d
  | some k =>
    if k.cancelled.isSome ∨ k.stage = .committed then d
    else
      let n := k.lane
      let l := d.lanes[n]
      let made := decide (l.current = some t) && decide (l.closed = some k.desc.bridge)
      let c : Cancelled := { cause := cause, stage := k.stage, by_ := by_, laneMade := made
                             pulseRunning := d.pulsing t k }
      let d := d.onTicket t (fun k => { k with cancelled := some c })
      match k.stage with
      | .armed => d.handCancelled t
      | .queued => ((d.onLane n (fun l => { l with queue := l.queue.filter (· ≠ t) })).post (.freed n)).handCancelled t
      | .runAhead =>
        let d := (d.onLane n (fun l => { l with queue := l.queue.filter (· ≠ t), runAhead := none })).dropLine k.desc.bridge
        let (owed, d) := d.withdrawSlot n t k
        if owed then d.post (.freed n) else (d.post (.freed n)).handCancelled t
      | _ =>
        let d := if l.inBurst && !l.work.ended then
            (d.onPort (portOfBridge k.desc.bridge.val) Port.cut).beginRest k.desc.bridge (d.exciteFor n k).duty
          else d
        let d := (d.dropLine k.desc.bridge).leaveLane n
        let (owed, d) := if k.stage = .turret ∧ d.slotReady n k = false then d.withdrawSlot n t k
          else (false, d.onTicket t (fun k => { k with connect := false }))
        if owed || c.pulseRunning then d else d.handCancelled t

/-- Every ticket of the pool that `p` selects is cancelled (R52, R115, R177, R192, R400, R401). -/
def Dev.cancelWhere (d : Dev) (p : Ticket → Bool) (cause : CancelCause) : Dev :=
  forEach ((d.pool.filter (fun e => p e.2)).map (·.1)) (fun t d => d.cancelTicket t cause none) d

/-- A ticket is queued or converting: it is in the pool, not armed, and its outcome is not fixed (R52). -/
def Ticket.onLaneQueue (k : Ticket) : Bool :=
  decide (k.stage ≠ .armed) && decide (k.stage ≠ .committed) && k.cancelled.isNone

/-- The ticket's quadrant. -/
def Ticket.quad (k : Ticket) : Fin 4 := quadOfBridge k.desc.bridge.val

/-- A ticket that has not reached stage 5 ends with a VOID plate carrying TURRET_ERR (R333); one that waits in the queue
holds no cache line, and its VOID ratio needs none (R432, Table 10.3). The generation of a connection that was never made is
a free value (log entry 2). -/
def Dev.endTurretErr (d : Dev) (t : Nat) : Dev :=
  match d.ticket t with
  | none => d
  | some k =>
    if k.cancelled.isSome then d
    else
      let n := k.lane
      let (g, d) := d.takeFree
      let w : Work := if d.lanes[n].current = some t then d.lanes[n].work else {}
      let p := d.mkPlate n t k (g.setWidth 8) voidRatio (laneStatus w k.late true false false true) none
      let d := (d.deliver p).commitPulse n
      if d.lanes[n].current = some t then d.leaveLane n
      else (d.onLane n (fun l => { l with
        queue := l.queue.filter (· ≠ t), runAhead := if l.runAhead = some t then none else l.runAhead })).post (.freed n)

/-! ### Quadrants stopped at once (R102, R103, R192, R286) -/

/-- Every driver of a quadrant goes to 0 V, pulses in progress are cut, and every turret of it opens (R102). -/
def Dev.quadDrivesOff (d : Dev) (q : Fin 4) : Dev :=
  let d := forEach (portsOf q) (fun p d => d.cutPort p) d
  forEach (lanesOf q) (fun n d => d.onLane n (fun l => { l with closed := none, step := .idle, shortOpen := false })) d

/-! ### Samples (R350 to R364) -/

/-- ±FS of a gain in ratio-word LSBs (Table 8.1). -/
def fullScale (g : Nat) : Int := 2 ^ (39 - g)

/-- A modulator reset is in progress (R362, Table 8.4). -/
def Lane.modReset (l : Lane) : Bool := l.resets.any (fun r => r.stop.isNone)

/-- The time `t` lies in the window of a reset: from its start to `span` after its end (R361). -/
def ModReset.covers (r : ModReset) (t span : Int) : Bool :=
  decide (r.start ≤ t) && match r.stop with
    | none => true
    | some e => decide (t ≤ e + span)

/-- The direction of an OVR sample with its boundary at τ = `t`; none when the sample is not OVR (R361). Which kind decides when
several hold is left open: its own value first, then the newest reset (log entry 60). -/
def Lane.ovrDir (l : Lane) (v t span : Int) : Option Bool :=
  if fullScale l.gain.val < v then some true
  else if v < -fullScale l.gain.val then some false
  else (l.resets.find? (fun r => r.covers t span)).map (·.positive)

/-- τ at the boundary of sample k of the present burst: k × D modulator ticks after the grid start (R350). -/
def Work.boundary (w : Work) (f : Filter) (k : Nat) : Int := w.gridAt + (k * f.totalDec : Nat) * modTick

/-- The line-axis period of one cycle in units of 2^-16 ns, as last measured (R355). -/
def Dev.cycleTime (d : Dev) (a : Fin 8) : Option Nat :=
  let e := axisOf d.alm a.val
  if e.source.edgeDriven then d.axes[a].period.map (· * e.counts) else some (1000000 * 65536)

/-- The window has reached its target: pos(b) + δ/2 reaches or passes it (R355). -/
def Dev.windowDone (d : Dev) (a : Fin 8) (pos target : W48) (totalDec : Nat) : Bool :=
  atOrLater pos target ||
    match d.cycleTime a with
    | some p => decide (2 * p * (target - pos).toNat ≤ totalDec * 6400000 * 2 ^ 24)
    | none => false

/-- The boundary of sample k of a positive burst under line-cycle integration passes, with the axis as it stands on the CCLK edge that
acts on it (R354, R355, R357, R462; log entry 59): that of sample F reads A_0 and sets the target, and a later one may end the
window. -/
def Dev.lineBoundary (d : Dev) (n : Fin 32) (a : Fin 8) (f : Filter) (k : Nat) : Dev :=
  let w := d.lanes[n].work
  let pos := d.axisPos a
  let d := d.onWork n (fun w => { w with passed := k })
  if k < f.settle then d
  else if d.axes[a].stall then d.voidBurst n true
  else if k = f.settle then d.onWork n (fun w => { w with target := some (pos + BitVec.ofNat 48 (f.lineCycles * 2 ^ 24)) })
  else
    let m := k - f.settle
    if d.windowDone a pos (w.target.getD 0) f.totalDec then
      (d.onWork n (fun w => { w with length := m })).wr (.laneLineN n) (at_ (m % 65536) 0)
    else if 65535 ≤ m then d.voidBurst n true
    else d

/-- The next sample boundary of lane n that a line-cycle window still waits for: the axis and the number of the sample. -/
def Dev.lineNext (d : Dev) (n : Fin 32) : Option (Fin 8 × Filter × Nat) :=
  let l := d.lanes[n]
  match d.working n with
  | none => none
  | some (_, k) =>
    let f := d.filterFor n k
    if (decide (l.phase = .discard) || decide (l.phase = .integrate)) && !l.work.neg && decide (l.work.length = 0) then
      f.lineAxis.map (fun a => (a, f, l.work.passed + 1))
    else none

/-- Sample boundaries of line-cycle windows are read on the first CCLK edge at or after them (R354, R806). -/
def Dev.passLines (d : Dev) : Dev :=
  forEach allLanes (fun n d => match d.lineNext n with
    | some (a, f, k) => if d.lanes[n].work.boundary f k ≤ d.clk.tau then d.lineBoundary n a f k else d
    | none => d) d

/-- The boundary of the sample that leaves the filter has passed. -/
def Dev.linePassed (d : Dev) (n : Fin 32) (i : Nat) : Dev :=
  match d.lineNext n with
  | some (a, f, k) => if k ≤ i then d.lineBoundary n a f k else d
  | none => d

/-- A discarded sample leaves the filter; the last of them begins the integration (R351). -/
def Dev.discardSample (d : Dev) (n : Fin 32) (f : Filter) (k : Nat) : Dev :=
  if k < f.settle then d else d.onLane n (fun l => { l with phase := .integrate })

/-- The sensed excitation of a sample is below 95 % of LEVEL, which is in steps of 0.5 V (R251, R272). -/
def lowExcitation (m : SampleReading) (level : Nat) : Bool :=
  decide (100 * m.excitation < 95 * (level * 500000 * 65536))

/-- An integrated sample leaves the filter: it is summed, presented to the raw comparators, and may end the pair (R351, R359,
R363, R587). `k` counts the integrated samples of the burst. -/
def Dev.integrateSample (d : Dev) (n : Fin 32) (t : Nat) (kt : Ticket) (neg : Bool) (k : Nat)
    (m : SampleReading) (ovr : Option Bool) : Dev :=
  let b := kt.desc.bridge
  let low := lowExcitation m (d.exciteFor n kt).level
  let shown : Ratio := match ovr with
    | some dir => satCode (dir != neg)
    | none => satRatio (if neg then -m.value else m.value)
  let d := d.onWork n (fun w => { w with
    sumPos := if neg then w.sumPos else w.sumPos + m.value
    sumNeg := if neg then w.sumNeg + m.value else w.sumNeg
    pairOvr := w.pairOvr.or (ovr.map (· != neg))
    excLow := w.excLow || low })
  let d := if low then d.setBits (statusReg (portOfBridge b.val)) (mkBit true 9) else d
  let d := d.present b false (d.laneBank n).gen d.lanes[n].old shown
  if neg && decide (d.lanes[n].work.length ≤ k) then d.completePair n t kt else d

/-- Lane n's burst still has a sample to leave the filter. -/
def Dev.sampling (d : Dev) (n : Fin 32) (f : Filter) : Bool :=
  let l := d.lanes[n]
  let w := l.work
  w.tail || w.ended || ((decide (l.phase = .discard) || decide (l.phase = .integrate)) && !w.taken &&
    (decide (w.length = 0) || decide (w.samples < f.settle + w.length)))

/-- The sample that leaves lane n's filter next is this one of its burst. -/
def Dev.sampleNumber (d : Dev) (n : Fin 32) (f : Filter) : Nat :=
  let w := d.lanes[n].work
  if w.tail then f.settle + w.length else w.samples + 1

/-- A sample of ticket t leaves the filter (R351, R353, R361, R364). -/
def Dev.sampleOut (d : Dev) (n : Fin 32) (t : Nat) (k : Ticket) (f : Filter) (m : SampleReading) : Dev :=
  let l := d.lanes[n]
  let w := l.work
  let i := d.sampleNumber n f
  let ovr := l.ovrDir m.value (w.boundary f i) ((settleSamples f.firSet * f.totalDec : Nat) * modTick)
  let d := d.wrRatio (.laneSample n) (satRatio m.value)
  let d := if ovr.isSome then d.setBits (.laneStatus n) (mkBit true 10) else d
  let d := (d.flagIlim (portOfBridge k.desc.bridge.val) m.ilim).onWork n (fun w => { w with ilim := w.ilim || m.ilim })
  if w.tail then (d.onWork n (fun w => { w with tail := false })).integrateSample n t k false w.length m ovr
  else
    let d := d.onWork n (fun w => { w with samples := i })
    if i ≤ f.settle then d.discardSample n f i else d.integrateSample n t k w.neg (i - f.settle) m ovr

/-- A decimated sample leaves lane n's filter (R353); under line-cycle integration its boundary has passed before, and may
have voided the burst (R357). -/
def Dev.sampleLeaves (d : Dev) (n : Fin 32) (m : SampleReading) : Dev :=
  match d.working n with
  | none => d
  | some (t, k) =>
    let f := d.filterFor n k
    if d.sampling n f = false then d
    else
      let d := d.linePassed n (d.sampleNumber n f)
      if d.sampling n f then d.sampleOut n t k f m else d

/-! ### Burst pairs (Table 6.2) -/

/-- Every condition of R255 but the shutter lines holds for the lane's ticket; on an extension port its slot stands made and
confirmed (R294). -/
def Dev.mayBurst (d : Dev) (n : Fin 32) (k : Ticket) : Bool :=
  let p := portOfBridge k.desc.bridge.val
  decide (k.stage = .bursts) && decide (d.lanes[n].closed = some k.desc.bridge) && d.slotReady n k &&
    decide (d.lanes[n].phase = .turret) && !d.lanes[n].work.ended &&
    !d.lanes[n].work.taken && decide (k.desc.bridge ∉ d.rests) && decide (d.ports[p].pulse = none) && d.clk.measPll

/-- The positive burst of an attempt starts (R255, Table 6.2 step 1). -/
def Dev.startBurst (d : Dev) (n : Fin 32) (k : Ticket) (ilim : Bool) : Dev :=
  let p := portOfBridge k.desc.bridge.val
  let f := d.filterFor n k
  let d := (d.onPort p (fun o => { o with drive := .pos, bridge := some k.desc.bridge })).flagIlim p ilim
  d.onLane n (fun l => { l with
    phase := .settle
    work := { l.work with
      neg := false, samples := 0, length := if f.lineAxis.isSome then 0 else k.desc.samples, sumPos := 0, sumNeg := 0
      target := none, pairOvr := none, ilim := l.work.ilim || ilim } })

/-- The drive reverses at the end of the positive integration (Table 6.2 step 4); `ilim` tells whether the limit acts in the
settle phase that begins (R252). A drive that the quadrant has cut meanwhile stays at 0 V (R286). -/
def Dev.reverse (d : Dev) (n : Fin 32) (k : Ticket) (ilim : Bool) : Dev :=
  let f := d.filterFor n k
  let p := portOfBridge k.desc.bridge.val
  let d := (d.onPort p (fun o => { o with drive := if o.drive = .pos then .neg else .off })).flagIlim p ilim
  d.onLane n (fun l => { l with
    phase := .settle
    work := { l.work with neg := true, ilim := l.work.ilim || ilim, tail := decide (l.work.samples < f.settle + l.work.length), samples := 0 } })

/-- The bridge resistance of a completed pair, in 2^-16 Ω (R271). -/
def pairResistance (m : PairMeans) : Option Nat :=
  if m.currentPos < 10000 * m.den ∨ m.currentNeg < 10000 * m.den then none
  else some (min (roundDiv (1000 * (m.sensedMean : Int)) m.currentMean).toNat 0xFFFFFFFE)

/-- The negative integration has ended: the drive goes to 0 V, the rest begins, and the pair's resistance is formed
(Table 6.2 step 7, R260, R271). -/
def Dev.endPair (d : Dev) (n : Fin 32) (k : Ticket) (m : PairMeans) : Dev :=
  let b := k.desc.bridge
  let p := portOfBridge b.val
  let r := pairResistance m
  let d := (d.onPort p Port.cut).beginRest b (d.exciteFor n k).duty
  let d := (d.wr (rbridgeReg p) (match r with
    | some v => BitVec.ofNat 32 v
    | none => 0xFFFFFFFF)).wr (iexcReg p) (BitVec.ofNat 32 (min (roundDiv m.currentMean m.den).toNat 0xFFFFFFFF))
  let d := match extOfBridge b.val with
    | some (x, _, _) => d.wr (.xportBridge x) (at_ (b.val - 128) 0)
    | none => d
  if d.lanes[n].work.taken then
    let d := d.onWork n (fun w => { w with resistances := w.resistances ++ r.toList })
    let w := d.lanes[n].work
    match w.plate with
    | some p => d.finish n { p with resistance := meanResistance w.resistances }
    | none => d.onLane n (fun l => { l with phase := .turret, work := { w with taken := false } })
  else d.onWork n (fun w => { w with ended := true, pairRes := r })

/-- The boundary of sample F of lane n's burst has passed, where the integration begins (Table 8.5 step 5). -/
def Dev.integrates (d : Dev) (n : Fin 32) : Bool :=
  match d.working n with
  | none => false
  | some (_, k) =>
    let f := d.filterFor n k
    decide (d.lanes[n].work.boundary f f.settle ≤ d.clk.tau)

/-- The gain that the PGA of lane n has (R341). -/
def Dev.gainNow (d : Dev) (n : Fin 32) : Fin 9 := if d.beforeShort n then d.lanes[n].gainWas else d.lanes[n].gain

/-- LANE_STATUS as it reads (Table 8.4). -/
def Dev.readLaneStatus (d : Dev) (n : Fin 32) : Word :=
  let l := d.lanes[n]
  let phase := match l.phase with
    | .idle => 0
    | .turret => 1
    | .settle => if l.work.ended || l.work.taken then 1 else 2
    | .discard => if l.work.ended then 1 else if d.integrates n then 4 else 3
    | .integrate => if l.work.ended then 1 else 4
  d.rd (.laneStatus n) ||| at_ l.profile.val 16 ||| at_ (d.gainNow n).val 12 ||| mkBit l.modReset 9 |||
    mkBit (l.inBurst && l.work.neg && !l.work.ended) 8 ||| at_ phase 0

end Sys2Proof.Machine
end

