-- ==== Sys2Proof/Machine/TurretBus.lean ====
section
/-! DEFINITION. The turret-bus protocol: what cards do with frames, what the device sends, replies, retries and failures,
and probes (07_turret.md, R303 to R336). -/
namespace Sys2Proof.Machine

/-! ### Cards (R313 to R318) -/

/-- A card acts on a frame: CRC, address, listed command, and every reserved or fixed field 0 (R313). -/
def cardAccepts (c : Fin 4) (w : Word) : Option BusCmd :=
  match cmdOf (fld w 28 4) with
  | none => none
  | some m =>
    let argOk := decide (fld w 8 8 = 0) || m matches .discharge || m matches .dischargeA || m matches .ident
    let allOk := !bit w 5 || m matches .brk || m matches .breakA
    if crc5 w = fld w 0 5 ∧ fld w 26 2 = c.val ∧ fld w 6 2 = 0 ∧ argOk = true ∧ allOk = true then some m else none

/-- The card state of Table 7.6. -/
def Card.state (k : Card) : Nat :=
  (match k.made with
    | some s => 2 ^ 14 + s.val
    | none => 0) + (if k.discharging then 2 ^ 13 else 0) + (if k.faulty ≠ 0 then 2 ^ 12 else 0)

/-- The identification words (Table 7.6). -/
def Card.ident (k : Card) (i : Nat) : Nat :=
  match i with
  | 0 => k.version.toNat * 2 ^ 12 + k.slotsFitted % 128
  | 1 => k.breakUs.toNat
  | _ => k.makeUs.toNat

/-- A make under way or done, or a discharge (R315); a slot still closing or still opening counts as made. -/
def Card.engaged (k : Card) : Bool := k.made.isSome || k.closing.isSome || k.opening.isSome || k.discharging

/-- How a card answers a command it acts on: 0 takes it, 1 NAK_BAD, 2 NAK_FAULT, which comes before every refusal (R315). QUERY and
ID move no switch, so a faulty slot alone does not refuse them, and a break of every slot addresses none (log entry 49). -/
def Card.verdict (k : Card) (m : BusCmd) (slot arg : Nat) (all : Bool) : Nat :=
  let bad := decide (k.slotsFitted ≤ slot)
  let faulty := k.faulty.getLsbD slot
  let refused := match m.plain with
    | .query => bad
    | .ident => bad || decide (2 < arg)
    | .brk => !all && (faulty || bad)
    | .discharge => faulty || bad || k.engaged || decide (arg = 0)
    | _ => faulty || bad || k.engaged
  if refused then (if faulty then 2 else 1) else 0

/-- The slot of a card that is made, closing or opening; a card has one at most (R315). -/
def Card.active (k : Card) : Option (Fin 64) := (k.made.or k.closing).or k.opening

/-- The card opens the slot, or every slot (R314): a make of it that is still closing stops, and owes no reply. Answers
whether anything is to open. -/
def Card.beginBreak (k : Card) (slot : Fin 64) (all : Bool) : Bool × Card :=
  match k.active with
  | none => (false, k)
  | some s =>
    if all = true ∨ s = slot then
      (true, { k with opening := some s, closing := none, owed := k.owed.filter (fun o => decide (o.1 ≠ .makeA)) })
    else (false, k)

/-- What card c of a port does with a frame, and the reply it places in slot n + 2, if any (R314 to R316). -/
def Card.take (k : Card) (c : Fin 4) (w : Word) : Card × Option Word :=
  if k.fitted = false then (k, none)
  else
    match cardAccepts c w with
    | none => (k, none)
    | some m =>
      let slot := fld w 20 6
      let seq := fld w 16 4
      let arg := fld w 8 8
      let ok := k.verdict m slot arg (bit w 5)
      if ok ≠ 0 then (k, if m.replies then some (replyFrame m c seq ok k.state) else none)
      else
        match m with
        | .query => (k, some (replyFrame m c seq 0 k.state))
        | .ident => (k, some (replyFrame m c seq 0 (k.ident arg)))
        | .brk => ((k.beginBreak (toFin 63 slot) (bit w 5)).2, none)
        | .breakA =>
          let (hit, k) := k.beginBreak (toFin 63 slot) (bit w 5)
          if hit then ({ k with owed := k.owed ++ [(m, seq)] }, none) else (k, some (replyFrame m c seq 0 k.state))
        | .discharge => ({ k with discharging := true }, none)
        | .dischargeA => ({ k with discharging := true, owed := k.owed ++ [(m, seq)] }, none)
        | .make => ({ k with closing := some (toFin 63 slot) }, none)
        | .makeA => ({ k with closing := some (toFin 63 slot), owed := k.owed ++ [(m, seq)] }, none)

/-- Every card of a port sees a frame; a reply goes on the bus (R316). -/
def Dev.cardsTake (d : Dev) (x : Fin 8) (w : Word) : Dev :=
  forEach (List.finRange 4) (fun c d =>
    let (k, r) := d.cards[cardIx x c].take c w
    let d := d.onCard x c (fun _ => k)
    match r with
    | some f => d.emit (.cardReply x f)
    | none => d) d

/-- A card opens every slot, and owes no reply (R318). The rule says the end of a discharge and of owed replies for a bus reset only; a
card that has lost TCLK or its power is taken to end them too (log entry 134). -/
def Card.openAll (k : Card) : Card :=
  { k with opening := k.active, closing := none, discharging := false, owed := [] }

/-- A card's action is complete, and the replies it owes for it go on the bus (R316). Of several actions a break
completes first, then a discharge. -/
def Dev.cardComplete (d : Dev) (x : Fin 8) (c : Fin 4) : Dev :=
  let k := d.cards[cardIx x c]
  let (m, k) := if k.opening.isSome then (some BusCmd.breakA, { k with opening := none, made := none })
    else if k.discharging then (some BusCmd.dischargeA, { k with discharging := false })
    else match k.closing with
      | some s => (some BusCmd.makeA, { k with closing := none, made := some s })
      | none => (none, k)
  match m with
  | none => d
  | some m =>
    let now := k.owed.filter (fun o => decide (o.1 = m))
    let k := { k with owed := k.owed.filter (fun o => decide (o.1 ≠ m)) }
    forEach now (fun o d => d.emit (.cardReply x (replyFrame o.1 c o.2 0 k.state))) (d.onCard x c (fun _ => k))

/-! ### Sending (R320, R321, R328) -/

/-- A break waits until a pulse in progress on the port is over (Table 9.3, R294). -/
def Dev.breakWaits (d : Dev) (x : Fin 8) (i : BusItem) : Bool :=
  decide (i.cmd = .breakA) && decide (i.why ≠ .safety) && d.ports[xPort x].pulse.isSome

/-- What sending a command changes besides the bus: flags of its ticket, the holder of the port (R291), and a cancelled
ticket's record (R328). -/
def Dev.noteSent (d : Dev) (x : Fin 8) (i : BusItem) : Dev :=
  match i.why with
  | .connect n t =>
    (d.onX x (fun p => { p with holder := some n })).onTicket t (fun k =>
      if i.cmd = .dischargeA then { k with dischargeSent := true, waitSince := none }
      else { k with makeSent := true, waitSince := none })
  | .withdraw _ t => d.handCancelled t
  | _ => d

/-- The bus carries commands beside a forced break: TCLK runs, CCLK runs, and no thermal shutdown holds the quadrant, in
which a card receives empty slots (R301, R329). -/
def Dev.busOpen (d : Dev) (x : Fin 8) : Bool :=
  let p := d.xports[x]
  p.outstanding.isNone && p.timed.isNone && !p.resetWanted && d.clocked && !d.quads[quadOfXport x].hotOff

/-- The command `i` goes out in the form `c` (R320, R321): a new command that expects a reply takes the next SEQ, and a
repeat keeps its own. A command without a reply carries the counter as it stands (log entry 51). -/
def XPort.sends (p : XPort) (i : BusItem) (rest : List BusItem) (c : BusCmd) : Word × XPort :=
  let seq := i.seq.getD (if c.replies then toFin 15 ((p.seq.val + 1) % 16) else p.seq)
  let w := cmdFrame c i seq.val
  (w, { p with
    wanted := rest, lastSent := tset 0 p.lastSent i.card.val w, bad := false
    seq := if i.seq.isNone then seq else p.seq, lastSeq := if c.replies then seq else p.lastSeq
    closing := if i.cmd = .makeA then some (i.card, i.slot) else p.closing
    outstanding := if c.replies then some ({ i with seq := some seq }, w) else none
    timed := if c.replies || decide (i.why = .safety) then none else some i })

/-- The device sends the command at the front of those wanted, when its form on the bus is `c` (R320). The frame reaches
the cards with the bits of `err` inverted. -/
def Dev.sendBus (d : Dev) (x : Fin 8) (c : BusCmd) (err : Word) : Dev :=
  match d.xports[x].wanted with
  | [] => d
  | i :: rest =>
    if d.quads[quadOfXport x].barrierUp = false ∨ d.busForm x i ≠ c ∨ (d.busOpen x = false ∧ i.why ≠ .safety) ∨
        d.breakWaits x i = true then d
    else
      let (w, p) := d.xports[x].sends i rest c
      ((((d.onX x (fun _ => p)).emit (.busFrame x w)).noteSent x i)).cardsTake x (w ^^^ err)

/-- A bus reset goes out while TCLK runs: every card of the port opens every slot (R301, R305, R318). -/
def Dev.sendReset (d : Dev) (x : Fin 8) : Dev :=
  if d.xports[x].resetWanted = false ∨ d.quads[quadOfXport x].barrierUp = false then d
  else
    forEach (List.finRange 4) (fun c d => d.onCard x c Card.openAll)
      ((d.onX x (fun p => { p with resetWanted := false })).emit (.busReset x))

/-! ### Failures (R332 to R335) -/

/-- The CAUSE of a turret FAULT record (Table 17.7). -/
def BusFail.cause : BusFail → Nat
  | .silent => 0x10
  | .badReply => 0x11
  | .nak => 0x12

/-- A turret FAULT record while FAULT_LOG is 1 (R335, R681). -/
def Dev.turretFault (d : Dev) (x : Fin 8) (i : BusItem) (cause : Nat) : Dev :=
  let p := d.xports[x]
  d.handOverIf (d.bit (.tbCtrl x) 11)
    (d.mkRec .fault .xport x.val (toFin 15 (d.fld (.tbCtrl x) 12 4)) 0
      (at_ cause 24 ||| at_ i.card.val 16 ||| at_ i.slot.val 8 ||| at_ (d.busForm x i).code 0)
      (tget 0 p.lastSent i.card.val) (tget 0 p.lastReply i.card.val))

/-- CARD_INFO STATE of a card changes (Table 7.10). -/
def Dev.setCardState (d : Dev) (x : Fin 8) (c : Fin 4) (s : Nat) : Dev :=
  d.wr (.cardInfo x c) (setFld (d.rd (.cardInfo x c)) 30 2 s)

/-- Collimation releases a port (R442). -/
def Dev.collFree (d : Dev) (p : Fin 136) : Dev :=
  (d.onPort p (fun o => { o with collimated := false })).post (.freed (toFin 31 (8 * (quadOfPort p.val).val)))

/-- The run of a quadrant is over. Its port is released: a direct port at once, and an extension port after a BREAK_A, unless
no command has connected its slot yet (R441, R442). -/
def Dev.collRelease (d : Dev) (q : Fin 4) (b : Fin 2176) : Dev :=
  let d := d.onColl q (fun c => { c with run := none })
  match extOfBridge b.val with
  | none => d.collFree (portOfBridge b.val)
  | some (x, c, s) =>
    let mine (i : BusItem) : Bool := decide (i.why = .coll q)
    let sent := !d.xports[x].wanted.any (fun i => mine i && decide (i.cmd = .dischargeA) && i.seq.isNone)
    let d := d.onX x (fun p => { p with wanted := p.wanted.filter (fun i => !mine i) })
    if sent then d.wantBus x [breakItem (c, s) (.coll q)] else d.collFree (xPort x)

/-- The collimation run of a quadrant is abandoned: it counts, and its port is released (R444, R445). -/
def Dev.collStop (d : Dev) (q : Fin 4) : Dev :=
  match d.colls[q].run with
  | none => d
  | some r => (d.count .collAbandon 1).collRelease q r.bridge

/-- The collimation run of quadrant q tests a bridge on this card. -/
def Dev.collOnCard (d : Dev) (q : Fin 4) (x : Fin 8) (c : Fin 4) : Bool :=
  d.colls[q].run.any (fun r => decide ((extOfBridge r.bridge.val).map (fun e => (e.1, e.2.1)) = some (x, c)))

/-- The run that a card's failure meets, one on a bridge of that card, is abandoned; the failure's own handling breaks and releases
the port (R445). -/
def Dev.collCut (d : Dev) (q : Fin 4) (x : Fin 8) (c : Fin 4) : Dev :=
  if d.collOnCard q x c then (d.onColl q (fun r => { r with run := none })).count .collAbandon 1 else d

/-- A command that a failing port keeps to send: a safety break, what probes and TB_CMD QUERY ask of its cards, and, when the bus
goes on, the BREAK_A that follows the failure of a cancelled ticket's command (R328). -/
def BusItem.stays (i : BusItem) (goesOn : Bool) : Bool :=
  match i.why with
  | .safety => true
  | .probe => true
  | .query => true
  | .withdraw _ _ => goesOn
  | _ => false

/-- What the end of a command unsent or unfinished means to whom it served: a ticket asks again later, a cancelled ticket
whose break it was ends now, and a collimation run is abandoned. -/
def Dev.forsake (d : Dev) (x : Fin 8) (i : BusItem) : Dev :=
  match i.why with
  | .connect _ t => d.onTicket t (fun k => { k with connect := false })
  | .withdraw _ t => d.handCancelled t
  | .coll q => d.collCut q x i.card
  | _ => d

/-- The commands that connect and break slots of a port are dropped. An outstanding one that stays is to be sent again. -/
def Dev.dropWanted (d : Dev) (x : Fin 8) (goesOn : Bool) : Dev :=
  let l := d.xports[x].items
  let d := d.onX x (fun p => { p with
    wanted := ((p.outstanding.map (·.1)).toList ++ p.wanted).filter (fun i => i.stays goesOn), outstanding := none, timed := none })
  forEach (l.filter (fun i => !i.stays goesOn)) (fun i d => d.forsake x i) d

/-- Every ticket for a card's bridges that has not reached stage 5 ends (R333). -/
def Dev.endCardTickets (d : Dev) (x : Fin 8) (c : Fin 4) : Dev :=
  let hit (k : Ticket) : Bool := (match extOfBridge k.desc.bridge.val with
    | some (y, e, _) => decide (y = x) && decide (e = c)
    | none => false) && (decide (k.stage = .queued) || decide (k.stage = .runAhead) || decide (k.stage = .turret))
  forEach ((d.pool.filter (fun e => hit e.2)).map (·.1)) (fun t d => d.endTurretErr t) d

/-- A break with ALL 1 and no reply goes to a card before anything else, unless one waits already (R329, R333). -/
def Dev.wantSafety (d : Dev) (x : Fin 8) (c : Fin 4) (s : Fin 64) : Dev :=
  if d.xports[x].wanted.any (fun i => decide (i.why = .safety) && decide (i.card = c)) then d
  else d.onX x (fun p => { p with
    wanted := { cmd := .breakA, card := c, slot := s, all := true, why := .safety } :: p.wanted })

/-- A card is FAILED, and the run that tests a bridge of it is abandoned (R333, R334, R445). -/
def Dev.cardFailed (d : Dev) (x : Fin 8) (c : Fin 4) (flags : Word) : Dev :=
  ((d.collCut (quadOfXport x) x c).setCardState x c 2).setBits (.tbStatus x) flags

/-- The failing command and those that connect or break slots of its port come to nothing, and its card is FAILED (R333,
R334). -/
def Dev.cardOut (d : Dev) (x : Fin 8) (i : BusItem) (flags : Word) : Dev :=
  (((d.dropWanted x true).forsake x i).onX x (fun p => { p with made := none, closing := none })).cardFailed x i.card flags

/-- A card fails (R333): a BREAK with ALL 1, its tickets end, and the port waits to be released. -/
def Dev.cardFail (d : Dev) (x : Fin 8) (i : BusItem) (cause : Nat) : Dev :=
  let d := (d.turretFault x i cause).cardOut x i (mkBit true 24)
  let d := (d.onX x (fun p => { p with releasing := true })).wantSafety x i.card i.slot
  d.endCardTickets x i.card

/-- Tickets at stage 4 on a port whose card sequence was dropped ask for it again, or end when their card is out of
service (R333, R336). -/
def Dev.resumeSequences (d : Dev) (x : Fin 8) : Dev :=
  forEach (lanesOf (quadOfXport x)) (fun n d =>
    match d.working n with
    | none => d
    | some (t, k) =>
      match extOfBridge k.desc.bridge.val with
      | none => d
      | some (y, c, _) =>
        if y ≠ x ∨ k.stage ≠ .turret ∨ k.connect = true then d
        else if d.cardState x c ≠ 1 then d.endTurretErr t
        else d.cardSequence n t k) d

/-- Lanes and collimation hold the port no more, and tickets at stage 4 ask for their card sequences again. -/
def Dev.portFree (d : Dev) (x : Fin 8) : Dev :=
  ((d.onX x (fun p => { p with holder := none, made := none, closing := none })).collFree (xPort x)).resumeSequences x

/-- The port is released after the wait of R333 or R334. -/
def Dev.releasePort (d : Dev) (x : Fin 8) : Dev :=
  let p := d.xports[x]
  if p.releasing && !p.resetWanted && p.wanted.all (fun i => decide (i.why ≠ .safety)) then
    (d.onX x (fun p => { p with releasing := false })).portFree x
  else d

/-! ### Probes (R323) -/

/-- The next word of a probe (R323). -/
def identItem (c : Fin 4) (i : Nat) : BusItem := { cmd := .ident, card := c, slot := 0, arg := i, why := .probe }

/-- The probe goes on with the first card of the list, or ends. -/
def Dev.probeNext (d : Dev) (x : Fin 8) (l : List (Fin 4)) : Dev :=
  let d := d.onX x (fun p => { p with probing := l, ids := [] })
  match l with
  | [] => d
  | c :: _ => (d.setCardState x c 3).wantBus x [identItem c 0]

/-- A card's probe ends with a STATE (R323). -/
def Dev.probeEnd (d : Dev) (x : Fin 8) (info : Word) : Dev :=
  match d.xports[x].probing with
  | [] => d
  | c :: t => (d.wr (.cardInfo x c) info).probeNext x t

/-- CARD_INFO of a card whose three words have come: PRESENT when they are valid and the version is 0b001, FAILED
otherwise (R323, Table 7.6). -/
def probeInfo (w0 w1 w2 : BitVec 15) : Word :=
  let slots := w0.toNat % 128
  let brk := w1.toNat
  let mk := w2.toNat
  if w0.toNat / 128 = 32 ∧ 1 ≤ slots ∧ slots ≤ 64 ∧ 1 ≤ brk ∧ brk < 2048 ∧ 1 ≤ mk ∧ mk < 2048 then
    at_ 1 30 ||| at_ slots 23 ||| at_ mk 12 ||| at_ brk 1
  else at_ 2 30

/-- An identification word has come (R323). -/
def Dev.probeWord (d : Dev) (x : Fin 8) (c : Fin 4) (data : BitVec 15) : Dev :=
  let ids := d.xports[x].ids ++ [data]
  match ids with
  | [w0, w1, w2] => d.probeEnd x (probeInfo w0 w1 w2)
  | _ => (d.onX x (fun p => { p with ids := ids })).wantBus x [identItem c ids.length]

/-- A probe meets a card that does not answer: ABSENT when word 0 had no reply, FAILED otherwise (R323). -/
def Dev.probeFail (d : Dev) (x : Fin 8) (answered : Bool) : Dev :=
  if d.xports[x].ids = [] ∧ answered = false then d.probeEnd x 0 else d.probeEnd x (at_ 2 30)

/-! ### Breaks that fail (R332, R334) -/

/-- The command that a BREAK_A after a NAK_BAD was to make way for is not repeated (R332): a probe fails its card, and a
QUERY has failed. -/
def Dev.notRepeated (d : Dev) (x : Fin 8) (i : BusItem) : Dev :=
  if i.why ≠ .recover then d
  else
    match d.xports[x].wanted with
    | [] => d
    | j :: rest =>
      if j.card ≠ i.card ∨ j.seq = none then d
      else
        let d := d.onX x (fun p => { p with wanted := rest })
        match j.cmd with
        | .ident => d.probeFail x true
        | _ => d.wr (.tbQueryResult x) (mkBit true 30 ||| at_ j.card.val 16)

/-- The tickets of the card end when the break was to make way for another command, which then is not retried (R333): also after a
QUERY or an ID, whose failure R333 does not name (log entry 54). -/
def Dev.endRecovered (d : Dev) (x : Fin 8) (i : BusItem) : Dev :=
  if i.why = .recover then d.endCardTickets x i.card else d

/-- A break is unconfirmed (R334). -/
def Dev.breakUnconfirmed (d : Dev) (x : Fin 8) (i : BusItem) : Dev :=
  let d := (d.turretFault x i 0x14).cardOut x i (mkBit true 24 ||| mkBit true 25)
  ((d.onX x (fun p => { p with releasing := true, resetWanted := true })).notRepeated x i).endRecovered x i

/-- Another card of the port than the command's has the made slot. -/
def XPort.madeElsewhere (p : XPort) (c : Fin 4) : Bool := p.made.any (fun m => decide (m.1 ≠ c))

/-- A faulty card has broken the slot (R334): the port is released at once, unless the slot made is another card's, which the break
has not opened (R292). -/
def Dev.breakFaulty (d : Dev) (x : Fin 8) (i : BusItem) : Dev :=
  let d := d.turretFault x i 0x13
  if d.xports[x].madeElsewhere i.card then (((d.cardFailed x i.card (mkBit true 24)).notRepeated x i).endRecovered x i)
  else (((d.cardOut x i (mkBit true 24)).notRepeated x i).endRecovered x i).portFree x

/-! ### Replies (R330 to R334) -/

/-- A command is done (R316, R321): `data` is the card state of Table 7.6. -/
def Dev.busDone (d : Dev) (x : Fin 8) (i : BusItem) (data : BitVec 15) : Dev :=
  match i.cmd with
  | .query => d.wr (.tbQueryResult x) (mkBit true 31 ||| at_ i.card.val 16 ||| at_ data.toNat 0)
  | .ident => d.probeWord x i.card data
  | .make => d
  | .makeA =>
    let d := d.onX x (fun p => { p with made := some (i.card, i.slot), closing := none })
    match i.why with
    | .connect _ t => d.onTicket t (fun k => { k with makeConfirmed := true })
    | .coll q => if d.collOnCard q x i.card then d.onColl q (fun c => match c.run with
      | some r => { c with run := some { r with step := 1 }, lastStep := 1 }
      | none => c) else d
    | _ => d
  | .breakA =>
    match i.why with
    | .break_ n => d.portBroken x n
    | .withdraw n _ => d.portBroken x n
    | .coll _ => (d.onX x (fun p => { p with made := none, closing := none })).collFree (xPort x)
    | _ => if d.xports[x].madeElsewhere i.card then d else d.onX x (fun p => { p with made := none, closing := none })
  | _ => d

/-- An attempt fails (R331, R332): it is repeated while RETRIES allow, after a BREAK_A with ALL 1 when it was refused. The
command of a ticket cancelled meanwhile is repeated too, before the break that R328 asks for. -/
def Dev.attemptFailed (d : Dev) (x : Fin 8) (i : BusItem) (how : BusFail) : Dev :=
  let d := d.onX x (fun p => { p with outstanding := none, bad := false })
  if i.tries < d.fld (.tbCtrl x) 8 3 then
    let again := { i with tries := i.tries + 1 }
    let first : List BusItem := if how = .nak ∧ i.cmd ≠ .breakA then
        [{ cmd := .breakA, card := i.card, slot := i.slot, all := true, why := .recover }] else []
    d.onX x (fun p => { p with wanted := first ++ again :: p.wanted })
  else
    match i.cmd with
    | .ident => d.probeFail x (decide (how ≠ .silent))
    | .query => d.wr (.tbQueryResult x) (mkBit true 30 ||| at_ i.card.val 16)
    | .breakA => d.breakUnconfirmed x i
    | _ => d.cardFail x i how.cause

/-- A valid reply to the outstanding command (R332 to R334). An ACK with FAULT 0 confirms the command whatever state its DATA shows,
since Table 7.7 gives no outcome for another one (log entry 135). -/
def Dev.replyTaken (d : Dev) (x : Fin 8) (i : BusItem) (status : Nat) (data : BitVec 15) : Dev :=
  let fault := data.getLsbD 12
  let made := data.getLsbD 14
  if status = 1 then d.attemptFailed x i .nak
  else
    let d := d.onX x (fun p => { p with outstanding := none, bad := false })
    match i.cmd with
    | .query => d.wr (.tbQueryResult x) (mkBit true 31 ||| at_ status 18 ||| at_ i.card.val 16 ||| at_ data.toNat 0)
    | .ident => if status = 0 then d.busDone x i data else d.probeFail x true
    | .breakA =>
      if status ≠ 0 ∨ (fault = true ∧ made = true) then d.breakUnconfirmed x i
      else if fault then d.breakFaulty x i
      else d.busDone x i data
    | _ => if status ≠ 0 ∨ fault = true then d.cardFail x i 0x13 else d.busDone x i data

/-- A frame arrives on TDI (R306, R330). -/
def Dev.takeReply (d : Dev) (x : Fin 8) (w : Word) : Dev :=
  if w = 0 then d
  else
    let bad (d : Dev) : Dev := d.countFld (.tbErrors x) 0 16 1
    match d.xports[x].outstanding with
    | none => bad d
    | some (i, sent) =>
      let d := d.onX x (fun p => { p with lastReply := tset 0 p.lastReply i.card.val w })
      if crc5 w = Machine.fld w 0 5 ∧ Machine.fld w 28 4 = Machine.fld sent 28 4 ∧ Machine.fld w 26 2 = i.card.val ∧ Machine.fld w 22 4 = Machine.fld sent 16 4 ∧
          Machine.fld w 20 2 ≠ 3 then
        d.replyTaken x i (Machine.fld w 20 2) (BitVec.ofNat 15 (Machine.fld w 5 15))
      else bad (d.onX x (fun p => { p with bad := true }))

/-- No valid reply has come in time (R331). -/
def Dev.replyTimeout (d : Dev) (x : Fin 8) : Dev :=
  match d.xports[x].outstanding with
  | none => d
  | some (i, _) =>
    (d.countFld (.tbErrors x) 16 16 1).attemptFailed x i (if d.xports[x].bad then .badReply else .silent)

/-- A timed wait under ACK_MODE 0 ends, and stands for the reply (R321, R294). -/
def Dev.timedEnd (d : Dev) (x : Fin 8) : Dev :=
  match d.xports[x].timed with
  | none => d
  | some i => (d.onX x (fun p => { p with timed := none })).busDone x i 0

/-- The device sends BREAK with ALL 1 at once to the card that holds the made slot, or may hold it since a MAKE has been sent,
and abandons every reply (R329). A break that a cancelled ticket waited for counts as sent; a probe goes on when the bus
carries commands again. R329 gives this break no completion: the port counts as released at once (log entry 133). -/
def Dev.forceBreak (d : Dev) (x : Fin 8) : Dev :=
  let slot := d.xports[x].made.or d.xports[x].closing
  let d := ((d.dropWanted x false).onX x (fun p => { p with made := none, closing := none, holder := none })).collFree (xPort x)
  match slot with
  | some (c, s) => d.wantSafety x c s
  | none => d

/-- The probe of every address of an extension port when BARRIER_UP rises (R323): a bus reset first. -/
def Dev.probeAll (d : Dev) (x : Fin 8) : Dev :=
  (forEach (List.finRange 4) (fun c d => d.setCardState x c 3)
    (d.onX x (fun p => { p with
      resetWanted := true, wanted := p.wanted.filter (fun i => decide (i.why ≠ .probe)) }))).probeNext x (List.finRange 4)

/-! ### TB_CMD and TB_CTRL (R321, R336, R337) -/

/-- TB_STATUS HELD or PENDING is 1 (R336). -/
def Dev.busBusy (d : Dev) (x : Fin 8) : Bool := d.xports[x].holder.isSome || d.xports[x].outstanding.isSome

/-- TB_CMD PROBE of one card (R323, R336). -/
def Dev.tbProbe (d : Dev) (x : Fin 8) (c : Fin 4) : Result :=
  checked d (lowest [(d.busBusy x, .busy)]) (fun d =>
    if d.xports[x].probing = [] then d.probeNext x [c]
    else (d.setCardState x c 3).onX x (fun p => { p with probing := p.probing ++ [c] }))

/-- TB_CMD QUERY (R336). -/
def Dev.tbQuery (d : Dev) (x : Fin 8) (c : Fin 4) : Result :=
  checked d (lowest [(d.busBusy x, .busy)]) (fun d =>
    d.wantBus x [{ cmd := .query, card := c, slot := 0, why := .query }])

/-- TB_CMD BUS_RESET (R336). -/
def Dev.tbReset (d : Dev) (x : Fin 8) : Result :=
  checked d (lowest [(d.busBusy x, .busy)]) (fun d => d.onX x (fun p => { p with resetWanted := true }))

/-- TB_CMD CLR_CNT (Table 7.10). -/
def Dev.tbClear (d : Dev) (x : Fin 8) : Result := (.ok, d.wr (.tbErrors x) 0)

/-- A TB_CMD write: exactly one command bit (R337). -/
def Dev.writeTbCmd (d : Dev) (x : Fin 8) (w : Word) : Result :=
  let c := toFin 3 (Machine.fld w 4 2)
  match Machine.fld w 0 4 with
  | 1 => d.tbProbe x c
  | 2 => d.tbQuery x c
  | 4 => d.tbReset x
  | 8 => d.tbClear x
  | _ => (.range, d)

/-- A TB_CTRL write: ACK_MODE does not change while the port is held (R321). -/
def Dev.writeTbCtrl (d : Dev) (x : Fin 8) (w : Word) : Result :=
  checked d (lowest [(Machine.bit w 0 != d.ackMode x && d.xports[x].holder.isSome, .busy)]) (fun d => d.wr (.tbCtrl x) w)

/-- TB_STATUS as it reads (Table 7.10). -/
def Dev.readTbStatus (d : Dev) (x : Fin 8) : Word :=
  let p := d.xports[x]
  d.rd (.tbStatus x) ||| mkBit p.outstanding.isSome 21 |||
    (match p.holder with
      | some n => mkBit true 20 ||| at_ n.val 15
      | none => 0) |||
    (match p.made with
      | some (c, s) => mkBit true 14 ||| at_ c.val 12 ||| at_ s.val 6
      | none => 0) ||| at_ p.lastSeq.val 0

end Sys2Proof.Machine
end

