-- ==== Sys2Proof/Machine/Tickets.lean ====
section
/-! DEFINITION. Ticket descriptors and their checks, the pool, triggers, lane queues and slips, cancel requests,
run-ahead, and COMPLETION records (09_tickets.md; 16_host_interface.md R641). -/
namespace Sys2Proof.Machine

/-! ### COMPLETION records (R641, Table 16.5) -/

/-- A COMPLETION record of queue k for the entry of opcode `op` at the present HEAD. -/
def Dev.complete (d : Dev) (k : Fin 8) (code : Code) (op : Nat) (w6 w7 : Word) : Dev :=
  let r := d.mkRec .completion .queue k.val (toFin 15 (d.fld (.qCtrl k) 16 4)) 0
    (at_ code.num 24 ||| at_ op 16 ||| at_ (d.queues[k].head % 4096) 0) w6 w7
  d.handOver { r with cause := some (k, d.marks) }

/-! ### The pool (R376 to R378) -/

/-- An entry of the pool is in use. -/
def Dev.inUse (d : Dev) (t : Nat) : Bool := d.pool.any (fun e => decide (e.1 = t))

/-- The first free entry from `t` on, going round the pool. -/
def Dev.freeFrom (d : Dev) (t : Nat) : Nat → Nat
  | 0 => t
  | fuel + 1 => if d.inUse t then d.freeFrom ((t + 1) % 2048) fuel else t

/-- A ticket takes a free entry; which one is open, and a free value chooses (log entry 2). The entry's incarnation
counts the tickets it has held (R377). -/
def Dev.takeEntry (d : Dev) (k : Ticket) : Nat × Dev :=
  let (w, d) := d.takeFree
  let t := d.freeFrom (w.toNat % 2048) 2048
  let d := { d.setTicket t k with incarn := tset 0 d.incarn t ((tget 0 d.incarn t + 1) % 2 ^ 21) }
  (t, d.wr .poolHwm (at_ (max (d.fld .poolHwm 0 12) d.pool.length) 0))

/-- Free entries. -/
def Dev.poolFree (d : Dev) : Nat := 2048 - d.pool.length

/-! ### Slips (R388, R402 to R404) -/

/-- The SLIP record of a lane, and its unreported count back at 0 (R403, R404). -/
def Dev.reportSlips (d : Dev) (n : Fin 32) : Dev :=
  let s := d.lanes[n].slips
  (d.handOverIf (d.bit .schedCtrl 4)
    (d.mkRec .slip .lane n.val (toFin 15 (d.fld .schedCtrl 0 4)) 0 (at_ s.count 0)
      (mkBit s.reserve 17 ||| mkBit s.full 16 ||| at_ s.bridge 0) s.tag)).onLane n (fun l => { l with slips := {} })

/-- A ticket for a bridge is slipped, on a full lane queue or on the pool reserve (R388, R402). -/
def Dev.slip (d : Dev) (b : Fin 2176) (tag : Word) (full : Bool) : Dev :=
  let n := (fabricOf d.alm b.val).lane
  let d := (d.count (.slipTotal n) 1).onLane n (fun l => { l with slips :=
    { count := l.slips.count + 1, full := l.slips.full || full, reserve := l.slips.reserve || !full
      bridge := b.val, tag := tag } })
  if 1024 ≤ d.lanes[n].slips.count then d.reportSlips n else d

/-! ### Queueing and triggers (R36, R380 to R388) -/

/-- LQ_LIMIT of a lane is reached (R388). -/
def Dev.laneFull (d : Dev) (n : Fin 32) : Bool := decide (d.fld (.lqLimit n) 0 12 ≤ d.lanes[n].queue.length)

/-- A ticket enters the queue of the lane that the generation in force binds to its bridge (R36, R387). -/
def Dev.enqueue (d : Dev) (t : Nat) (b : Fin 2176) : Dev :=
  let n := (fabricOf d.alm b.val).lane
  let o := d.queuings
  (({ d with queuings := o + 1 }.onTicket t (fun k => { k with stage := .queued, lane := n, order := o })).onLane n (fun l =>
    { l with queue := l.queue ++ [t] })).post (.freed n)

/-- An armed ticket is triggered (R385, R388, R457). -/
def Dev.trigger (d : Dev) (t : Nat) (late : Bool) : Dev :=
  match d.ticket t with
  | none => d
  | some k =>
    if k.stage ≠ .armed ∨ k.cancelled.isSome = true then d
    else
      let q := k.quad
      if d.quads[q].barrierUp = false ∨ d.qOff q = true then d.cancelTicket t .field none
      else if d.quads[q].hotOff then d.cancelTicket t .thermal none
      else if d.quarantined k.desc.bridge then d.cancelTicket t .fault none
      else if d.laneFull (fabricOf d.alm k.desc.bridge.val).lane then
        (d.freeTicket t).slip k.desc.bridge k.desc.tag true
      else (d.onTicket t (fun k => { k with late := k.late || late })).enqueue t k.desc.bridge

/-- Every armed ticket that `p` selects is triggered. -/
def Dev.triggerWhere (d : Dev) (p : Trigger → Bool) : Dev :=
  forEach ((d.pool.filter (fun e => decide (e.2.stage = .armed) && p e.2.desc.trigger)).map (·.1))
    (fun t d => d.trigger t false) d

/-- A chronograph's capture or match triggers its tickets (R381). -/
def Dev.chronoTrigger (d : Dev) (n : Fin 64) (onMatch : Bool) : Dev :=
  d.triggerWhere (fun g => decide (g = .chrono n onMatch))

/-- A link trigger code triggers its tickets (R382). -/
def Dev.linkTriggers (d : Dev) (code : Nat) : Dev :=
  d.triggerWhere (fun g => decide (g = .link (BitVec.ofNat 8 code)))

/-- An armed TRANSIT ticket's axis stands at or later than TRIG_AT (R380). -/
def Dev.transitDue (d : Dev) (k : Ticket) : Bool :=
  match k.desc.trigger with
  | .transit a pos => decide (k.stage = .armed) && k.cancelled.isNone && atOrLater (d.axisPos a) pos
  | _ => false

/-- An armed ticket's EXPIRE_MS has elapsed (R383). -/
def Dev.expireNow (d : Dev) (t : Nat) : Dev :=
  match d.ticket t with
  | some k => if k.stage = .armed ∧ k.desc.expireMs ≠ 0 then d.cancelTicket t .expired none else d
  | none => d

/-- An expiry passed in SLEEP takes effect on the resume edge (R384). -/
def Dev.expireLater (d : Dev) (t : Nat) : Dev :=
  d.onTicket t (fun k => { k with lapsed := decide (k.stage = .armed) && decide (k.desc.expireMs ≠ 0) })

/-- The expiries passed in SLEEP, on the resume edge; triggers taken there come before them (R384, R386). -/
def Dev.resumeExpiries (d : Dev) : Dev :=
  forEach ((d.pool.filter (fun e => e.2.lapsed)).map (·.1)) (fun t d => d.expireNow t) d

/-! ### Descriptors (Table 9.1) and submission checks (Table 9.2) -/

/-- The trigger fields of a descriptor; none when one is outside Table 9.1. -/
def triggerOf (bs : List Byte) : Option Trigger :=
  let src := byteAt bs 0x14
  let edge := byteAt bs 0x15
  let pos := field bs 0x18 6
  match byteAt bs 0x12 with
  | 0 => if src = 0 ∧ edge = 0 ∧ pos = 0 ∧ field bs 0x1E 2 = 0 then some .immediate else none
  | 1 => if src < 8 ∧ edge = 0 then some (.transit (toFin 7 src) (BitVec.ofNat 48 pos)) else none
  | 2 => if src < 64 ∧ edge < 2 ∧ pos = 0 then some (.chrono (toFin 63 src) (edge = 1)) else none
  | 3 => if edge = 0 ∧ pos = 0 then some (.link (BitVec.ofNat 8 src)) else none
  | _ => none

/-- The fields of a descriptor whose own ranges hold (Table 9.1); none otherwise. -/
def descOf (bs : List Byte) : Option Desc :=
  let b := field bs 2 2
  let r := byteAt bs 0x0B
  match triggerOf bs with
  | none => none
  | some g =>
    if byteAt bs 0 = 0x10 ∧ b < 2176 ∧ byteAt bs 8 < 64 ∧ byteAt bs 9 < 16 ∧ byteAt bs 0x0A ≤ 8 ∧ (r < 8 ∨ r = 0xFF) ∧
        1 ≤ field bs 0x0C 2 ∧ field bs 0x0C 2 ≤ 1024 ∧ 1 ≤ field bs 0x0E 2 ∧ byteAt bs 0x11 < 16 ∧
        (byteAt bs 1 / 4 % 2 = 1 ∨ byteAt bs 0x13 = 0) then
      some { bridge := toFin 2175 b, tag := wordAt bs 4, excite := toFin 63 (byteAt bs 8)
             filter := toFin 15 (byteAt bs 9), gain := toFin 8 (byteAt bs 0x0A)
             reducer := if r < 8 then some (toFin 7 r) else none
             noRunAhead := byteAt bs 1 / 2 % 2 = 1, pairs := field bs 0x0C 2, samples := field bs 0x0E 2
             retry := byteAt bs 0x10, log := toFin 15 (byteAt bs 0x11), trigger := g, expireMs := field bs 0x1E 2 }
    else none

/-- A reserved field or bit of a descriptor is set (R14, Table 9.1). -/
def descReserved (bs : List Byte) : Bool :=
  decide (8 ≤ byteAt bs 1) || decide (field bs 0x16 2 ≠ 0) || decide (field bs 0x20 32 ≠ 0)

/-- What the generation in force must hold for a descriptor (R250, R349, R370). -/
def Dev.descFits (d : Dev) (k : Desc) : Bool :=
  let q := quadOfBridge k.bridge.val
  decide ((filterOf d.alm q.val k.filter.val).totalDec ≠ 0) && decide ((exciteOf d.alm k.excite.val).level ≠ 0) &&
    match k.reducer with
    | none => true
    | some r => (fabricOf d.alm k.bridge.val).reducer.isSome && (reduceOf d.alm r.val).en

/-- The device takes submissions for a quadrant now (Table 9.2, STATE). -/
def Dev.takesTickets (d : Dev) (q : Fin 4) : Bool :=
  decide (d.boot.phase = .run) && !d.boot.holding && !d.boot.sleeping && !d.quads[q].hotOff

/-- The bridge is not there for a submission (Table 9.2, NOT_PRESENT; R457). The slot is compared with SLOTS while the
card is PRESENT. -/
def Dev.bridgeAbsent (d : Dev) (b : Fin 2176) : Bool :=
  let q := quadOfBridge b.val
  !(fabricOf d.alm b.val).inService || !d.quads[q].barrierUp || d.qOff q || d.quarantined b ||
    match extOfBridge b.val with
    | none => false
    | some (x, c, s) =>
      match d.cardState x c with
      | 1 => decide (d.fld (.cardInfo x c) 23 7 ≤ s.val)
      | 3 => false
      | _ => true

/-- The bridge's card is PROBING (R324). -/
def Dev.bridgeProbing (d : Dev) (b : Fin 2176) : Bool :=
  match extOfBridge b.val with
  | none => false
  | some (x, c, _) => decide (d.cardState x c = 3)

/-- The checks that submissions and issues share (Table 9.2), with the codes that apply. -/
def Dev.submitChecks (d : Dev) (bs : List Byte) : List (Bool × Code) :=
  let common : List (Bool × Code) :=
    [(descReserved bs, .reservedSet),
     (decide (byteAt bs 1 / 4 % 2 = 1) && decide (byteAt bs 0x13 ≠ d.genInForce.toNat), .genMismatch)]
  match descOf bs with
  | none => (true, .range) :: common
  | some k =>
    [(!d.descFits k, .range), (!d.takesTickets (quadOfBridge k.bridge.val), .state),
     (d.bridgeAbsent k.bridge, .notPresent), (d.bridgeProbing k.bridge, .busy)] ++ common

/-- The code of a SUBMIT entry (R372). -/
def Dev.submitCode (d : Dev) (bs : List Byte) : Code :=
  lowest (d.submitChecks bs ++
    [(decide (d.poolFree = 0), .poolFull),
     (match descOf bs with
       | some k => decide (k.trigger = .immediate) && d.laneFull (fabricOf d.alm k.bridge.val).lane
       | none => false, .busy)])

/-- A checked descriptor becomes a ticket, armed or queued (R372, R376, R380). Answers its pool index. -/
def Dev.acceptTicket (d : Dev) (k : Desc) : Nat × Dev :=
  let (t, d) := d.takeEntry { desc := k, stage := .armed, lane := (fabricOf d.alm k.bridge.val).lane }
  match k.trigger with
  | .immediate => (t, d.enqueue t k.bridge)
  | .transit a pos =>
    if atOrLater (d.axisPos a) pos then (t, d.trigger t (laterThan (d.axisPos a) pos)) else (t, d)
  | _ => (t, d)

/-- A SUBMIT entry of queue k is processed (R372, R373). -/
def Dev.submit (d : Dev) (k : Fin 8) (bs : List Byte) : Dev :=
  let code := d.submitCode bs
  match code, descOf bs with
  | .ok, some ds =>
    let (t, d) := d.acceptTicket ds
    if byteAt bs 1 % 2 = 1 then d.complete k .ok 0x10 (d.handle t) (wordAt bs 4) else d
  | c, _ => (if c = .poolFull then d.count .poolRejects 1 else d).complete k c 0x10 0 (wordAt bs 4)

/-- The bytes of a template (Table 9.6). -/
def Dev.templateBytes (d : Dev) (i : Nat) : List Byte :=
  wordsToBytes ((List.finRange 16).map (fun w => d.rd (.template (toFin 255 i) w)))

/-- A template error (R374). -/
def Dev.templateErr (d : Dev) (i : Nat) (c : Code) : Dev :=
  d.wr .schedStatus ((d.rd .schedStatus &&& at_ 0xFFFF 0) ||| at_ c.num 24 ||| at_ (i % 256) 16 ||| mkBit true 8)

/-- A template is issued (R115, R374, R375, R378, R388). A ticket that meets a full lane queue has taken its pool entry, which
the slip releases (R376). -/
def Dev.issue (d : Dev) (i : Nat) : Dev :=
  if d.boot.phase ≠ .run ∨ d.boot.holding = true then d
  else
    let bs := d.templateBytes i
    let c := lowest ((decide (byteAt bs 0x12 ≠ 0), .range) :: d.submitChecks bs)
    match c, descOf bs with
    | .ok, some k =>
      if d.poolFree ≤ d.fld .poolReserve 0 12 then d.slip k.bridge k.tag false
      else if d.laneFull (fabricOf d.alm k.bridge.val).lane then
        let (t, d) := d.takeEntry { desc := k, stage := .armed, lane := (fabricOf d.alm k.bridge.val).lane }
        (d.freeTicket t).slip k.bridge k.tag true
      else (d.acceptTicket k).2
    | c, _ => d.templateErr i c

/-- An issue message from a peer: taken in RUN, dropped and counted in any other state (R375). -/
def Dev.peerIssue (d : Dev) (i : Nat) : Dev :=
  if d.boot.phase = .run ∧ d.boot.holding = false then d.issue i else d.countFld .schedStatus 0 8 1

/-! ### CANCEL requests (R394 to R397) -/

/-- A ticket can still be cancelled (R394). -/
def Ticket.cancellable (k : Ticket) : Bool := decide (k.stage ≠ .committed) && k.cancelled.isNone

/-- The code of a CANCEL entry's own checks (R396, R636). -/
def cancelCode (bs : List Byte) : Code :=
  let mode := byteAt bs 1
  let bridge := field bs 2 2
  let handle := field bs 4 4
  let tag := field bs 8 4
  let mask := field bs 0x0C 4
  lowest [
    (decide (2 < mode) ||
      (decide (mode = 0) && (decide (bridge ≠ 0) || decide (tag ≠ 0) || decide (mask ≠ 0))) ||
      (decide (mode = 1) && (decide (2175 < bridge) || decide (handle ≠ 0) || decide (tag ≠ 0) || decide (mask ≠ 0))) ||
      (decide (mode = 2) && (decide (bridge ≠ 0) || decide (handle ≠ 0))), .range),
    (decide (field bs 0x10 48 ≠ 0), .reservedSet)]

/-- A CANCEL entry of queue k is processed (R397). -/
def Dev.cancelEntry (d : Dev) (k : Fin 8) (bs : List Byte) : Dev :=
  let by_ := some (k, d.marks)
  let w7 := wordAt bs 4
  let code := if d.boot.phase = .safe then lowest [(true, .state), (true, cancelCode bs)] else cancelCode bs
  if code ≠ .ok then d.complete k code 0x11 0 w7
  else if byteAt bs 1 = 0 then
    let h := wordAt bs 4
    let t := Machine.fld h 0 11
    match d.ticket t with
    | some e =>
      if e.cancellable && decide (tget 0 d.incarn t = Machine.fld h 11 21) then
        (d.cancelTicket t .software by_).complete k .ok 0x11 0 w7
      else d.complete k .alreadyDone 0x11 0 w7
    | none => d.complete k .alreadyDone 0x11 0 w7
  else
    let hit (e : Ticket) : Bool := e.cancellable &&
      (if byteAt bs 1 = 1 then decide (e.desc.bridge.val = field bs 2 2)
       else decide ((e.desc.tag ^^^ wordAt bs 8) &&& wordAt bs 0x0C = 0))
    let ts := (d.pool.filter (fun e => hit e.2)).map (·.1)
    (forEach ts (fun t d => d.cancelTicket t .software by_) d).complete k .ok 0x11 (at_ ts.length 0) w7

/-! ### Run-ahead and pre-warm (R47 to R49, R264 to R269, R327, R390 to R392) -/

/-- The bridge of the ticket a lane converts. -/
def Dev.converting (d : Dev) (n : Fin 32) : Option (Fin 2176) := (d.working n).map (fun e => e.2.desc.bridge)

/-- The head ticket of a converting lane enters the run-ahead slot (R390, R432), and its slot is made when its port is
held by no lane (R49, R327). -/
def Dev.runAhead (d : Dev) (n : Fin 32) : Dev :=
  match d.lanes[n].queue with
  | [] => d
  | t :: _ =>
    match d.ticket t with
    | none => d
    | some k =>
      if d.lanes[n].current = none ∨ d.lanes[n].runAhead ≠ none ∨ k.desc.noRunAhead = true then d
      else
        let d := (((d.onLane n (fun l => { l with runAhead := some t })).onTicket t (fun k => { k with
          stage := .runAhead })).holdLine k.desc.bridge).post (.freed n)
        match extOfBridge k.desc.bridge.val with
        | none => d
        | some (x, c, s) =>
          if d.converting n ≠ some k.desc.bridge ∧ d.xports[x].holder = none ∧ d.xportFree x n = true ∧
              d.cardState x c = 1 ∧ d.waiters x = [] then
            (d.wantBus x (connectItems c s (fabricOf d.alm k.desc.bridge.val).dischargeUs (.connect n t))).onTicket t
              (fun k => { k with connect := true })
          else d

/-- A pre-warm pulse starts for the run-ahead ticket of lane n (R264 to R266, R294, R442); without a premise of theirs
nothing happens. -/
def Dev.startPulse (d : Dev) (n : Fin 32) (ilim : Bool) : Dev :=
  match d.lanes[n].runAhead with
  | none => d
  | some t =>
    match d.ticket t with
    | none => d
    | some k =>
      let b := k.desc.bridge
      let p := portOfBridge b.val
      let e := exciteOf d.alm k.desc.excite.val
      let o := d.ports[p]
      if e.prewarm = true ∧ d.converting n ≠ some b ∧ b ∉ d.rests ∧ o.drive = .off ∧ o.pulse = none ∧
          o.collimated = false ∧ d.slotReady n k = true ∧
          (e.prewarmN = 0 ∨ k.pulses < e.prewarmN) then
        let d := d.onPort p (fun o => { o with
          drive := if k.pulses % 2 = 0 then .pos else .neg, pulse := some (d.handle t), bridge := some b })
        (d.flagIlim p ilim).onTicket t (fun k => { k with pulses := k.pulses + 1 })
      else d

/-- The pre-warm pulse on a port has run its W ticks (R265, R267). -/
def Dev.endPulse (d : Dev) (p : Fin 136) : Dev := if d.ports[p].pulse.isSome then d.cutPort p else d

/-! ### Register reads and writes of the scheduler -/

/-- POOL_STATUS as it reads (Table 9.6). -/
def Dev.readPoolStatus (d : Dev) : Word :=
  at_ (d.pool.filter (fun e => decide (e.2.stage = .armed))).length 16 ||| at_ d.pool.length 0

/-- LQ_STATUS as it reads (Table 9.6). -/
def Dev.readLqStatus (d : Dev) (n : Fin 32) : Word :=
  let l := d.lanes[n]
  at_ l.slips.count 14 ||| mkBit l.current.isSome 13 ||| mkBit l.runAhead.isSome 12 ||| at_ l.queue.length 0

/-- RA_HANDLE as it reads (Table 9.6). -/
def Dev.readRaHandle (d : Dev) (n : Fin 32) : Word :=
  match d.lanes[n].runAhead with
  | some t => d.handle t
  | none => 0

end Sys2Proof.Machine
end

