-- ==== Sys2Proof/Machine/Chrono.lean ====
section
/-! DEFINITION. Chronographs: counting, arming, captures, widths, compares and one-shots (13_chronographs.md). -/
namespace Sys2Proof.Machine

/-- The CHRONO entry in force of a channel (R499). -/
def Dev.chrEntry (d : Dev) (n : Fin 64) : ChronoEntry := chronoOf d.alm n.val

/-- CHR_CTRL PIN_OUT, WIDTH and EDGE (Table 13.5). -/
def Dev.chrPinOut (d : Dev) (n : Fin 64) : Bool := d.bit (.chrCtrl n) 16

/-- A capture source has two states (R511, Table 13.1). -/
def levelSource (src : Nat) : Bool := decide (src < 0x40) || (decide (0x68 ≤ src) && decide (src < 0x78))

/-- A capture source has only events (R511, Table 13.1). -/
def pulseSource (src : Nat) : Bool :=
  (decide (0x40 ≤ src) && decide (src < 0x68)) || decide (src = 0x78)

/-- Sets sticky bits of CHR_STATUS. -/
def Dev.chrFlag (d : Dev) (n : Fin 64) (i : Nat) : Dev := d.setBits (.chrStatus n) (mkBit true i)

/-- CHR_COMPARE as it stands. -/
def Dev.chrCompareAt (d : Dev) (n : Fin 64) : W48 := d.rd48 (.chrCompare n)

/-! ### Records and events (R528 to R532) -/

/-- The kinds of a CAPTURE record (Table 13.3). -/
inductive CapKind where
  | edge | width | orphan | match_
  deriving DecidableEq, Repr

/-- The code of a kind (Table 13.3). -/
def CapKind.code : CapKind → Nat
  | .edge => 0
  | .width => 1
  | .orphan => 2
  | .match_ => 3

/-- A CAPTURE record (R531, Table 13.3), while REC_CAP or, for a match, REC_CMP is 1. `flags` holds bits [21:16]. -/
def Dev.capRecord (d : Dev) (n : Fin 64) (kind : CapKind) (v : W48) (flags w7 : Word) : Dev :=
  d.handOverIf (d.bit (.chrCtrl n) (if kind = .match_ then 27 else 26))
    (d.mkRec .capture .chrono n.val (toFin 15 (d.fld (.chrCtrl n) 28 4)) 0 (lo48 v)
      (at_ kind.code 24 ||| flags ||| mkBit (d.bit (.chrStatus n) 15) 18 ||| hi48 v) w7)

/-- A value goes to CHR_CAPTURE (R532). -/
def Dev.capWrite (d : Dev) (n : Fin 64) (v : W48) : Dev :=
  let d := if d.chronos[n].capNew then d.chrFlag n 12 else d
  (d.wr48 (.chrCapture n) v).onChrono n (fun c => { c with capNew := true })

/-- The event that CHR_ISSUE ON selects issues its template (R530). -/
def Dev.chrIssue (d : Dev) (n : Fin 64) (on : Nat) : Dev :=
  if d.fld (.chrIssue n) 8 2 = on then d.issue (d.fld (.chrIssue n) 0 8) else d

/-- A capture event (R517, R530): tickets, issue, and the axes that take it as their edge at the capture time. -/
def Dev.capEvent (d : Dev) (n : Fin 64) (time : Int) : Dev :=
  (((d.chrFlag n 5).post (.captured n time)).chronoTrigger n false).chrIssue n 1

/-- A new level on CAP_CMP[n] while it is an output. The synchronised sample shows it 2 or 3 edges later (R513, R529): which of
the two is open, and one constant of the pin says it (R514; log entry 125). -/
def Dev.chrDrive (d : Dev) (n : Fin 64) (high : Bool) : Dev :=
  d.onChrono n (fun c => { c with
    pin := high, drives := (d.clk.cycle + 2 + (Config.pinLate n.val).toNat, high) :: c.drives.take 20 })

/-- OUT_ACT on CAP_CMP[n]: the pin changes two edges later (R528, Table 13.5). A toggle turns the level that the pin is to have
by then. -/
def Dev.chrPinAct (d : Dev) (n : Fin 64) : Dev :=
  let c := d.chronos[n]
  let next (high : Bool) : Dev := d.onChrono n (fun c => { c with pinNext := c.pinNext ++ [(d.clk.cycle + 2, high)] })
  if d.chrPinOut n = false then d
  else
    match d.fld (.chrCtrl n) 18 2 with
    | 1 => next true
    | 2 => next false
    | 3 => next (!((c.pinNext.getLast?.map (·.2)).getD c.pin))
    | _ => d

/-- The pin changes that are due on the present edge (R528). -/
def Dev.chrPins (d : Dev) : Dev :=
  forEach (List.finRange 64) (fun n d =>
    let c := d.chronos[n]
    let now (e : Nat × Bool) : Bool := decide (e.1 ≤ d.clk.cycle)
    if c.pinNext = [] then d
    else forEach (c.pinNext.filter now) (fun e d => if e.2 = d.chronos[n].pin then d else d.chrDrive n e.2)
      (d.onChrono n (fun c => { c with pinNext := c.pinNext.filter (fun e => !now e) }))) d

/-- The counter, which has counted under a prescale, is about to be set, started or stopped: how it stands is kept for captures
whose sample edge lies before (R518). -/
def Dev.chrBreakAs (d : Dev) (n : Fin 64) (prescale : Nat) : Dev :=
  d.onChrono n (fun c =>
    let k : CountCut := {
      edge := d.clk.cycle, count := c.count, residue := c.residue, prescale := prescale, running := c.running }
    { c with cuts := k :: c.cuts.filter (fun k => decide (d.clk.cycle ≤ k.edge + 16)) })

/-- The same, under the prescale of the entry in force. -/
def Dev.chrBreak (d : Dev) (n : Fin 64) : Dev := d.chrBreakAs n (d.chrEntry n).prescale

/-- COMPARE moves on by CMP_PERIOD to the first value ahead of the count, or the compare is disarmed (R527). -/
def Dev.chrNextCompare (d : Dev) (n : Fin 64) : Dev :=
  let p := (d.rd48 (.chrCmpPeriod n)).toNat
  if p = 0 then d.onChrono n (fun c => { c with armed := false })
  else
    let behind := (d.chronos[n].count - d.chrCompareAt n).toNat
    (d.wr48 (.chrCompare n) (d.chrCompareAt n + BitVec.ofNat 48 ((behind / p + 1) * p))).onChrono n (fun c => { c with
      armed := true })

/-- A match or a late fire (R527, R528, R531). -/
def Dev.chrFire (d : Dev) (n : Fin 64) (late : Bool) : Dev :=
  let v := d.chrCompareAt n
  let d := ((d.chrFlag n 6).chrPinAct n).onChrono n (fun c => { c with matched := true })
  let d := d.capRecord n .match_ v (mkBit late 19) 0
  let d := d.chronoTrigger n true
  let d := forEach (List.finRange 32) (fun o d =>
    let e := d.outEntry o
    if e.clkSrc = 1 ∧ e.clkArg = n.val then d.sampleEvent o else d) d
  (d.chrIssue n 2).chrNextCompare n

/-- The compare is decided anew (R526). -/
def Dev.chrEvaluate (d : Dev) (n : Fin 64) : Dev :=
  if laterThan (d.chrCompareAt n) d.chronos[n].count then d.onChrono n (fun c => { c with armed := true })
  else
    let d := d.chrFlag n 8
    if d.bit (.chrCtrl n) 23 then d.chrFire n true else d.onChrono n (fun c => { c with armed := false })

/-- The terminal event of a one-shot counter (R507). -/
def Dev.chrTerminalEvent (d : Dev) (n : Fin 64) : Dev :=
  let c := d.chronos[n]
  let d := ((d.chrBreak n).onChrono n (fun c => { c with running := false })).chrFlag n 7
  let d := if c.armed && !c.matched then d.chrFlag n 9 else d
  d.chrIssue n 3

/-- A channel is armed (R505). Pin changes still on their way are dropped: OUT_INIT is what the pin shows (log entry 125). -/
def Dev.chrArmOne (d : Dev) (n : Fin 64) : Dev :=
  let d := d.clrBits (.chrStatus n) (mkBit true 7 ||| mkBit true 15)
  let d := (d.chrBreak n).onChrono n (fun c => { c with
    count := 0, residue := 0, edges := 0, interval := none, running := true, matched := false, moved := false, pinNext := [] })
  let d := if d.chrPinOut n then d.chrDrive n (d.bit (.chrCtrl n) 17) else d
  d.chrEvaluate n

/-- The level that the synchronised samples of CAP_CMP[k] show on an edge, while the device drives the pin (R529). -/
def Dev.sampledPin (d : Dev) (k : Fin 64) (edge : Nat) : Option Bool :=
  (d.chronos[k].drives.find? (fun e => decide (e.1 ≤ edge))).map (·.2)

/-- The present level of a level source, where the device itself makes it (Table 13.1). -/
def Dev.sourceLevel (d : Dev) (src : Nat) : Option Bool :=
  if src < 0x40 then (if d.chrPinOut (toFin 63 src) then d.sampledPin (toFin 63 src) d.clk.cycle else none)
  else if 0x68 ≤ src ∧ src < 0x70 then some (d.lineBlank (src - 0x68))
  else if 0x70 ≤ src ∧ src < 0x78 then some (d.tripDriven (toFin 7 (src - 0x70)))
  else none

/-- The channel's accepted level is the one its source shows now; a pin that the device does not drive leaves it as it is (log
entry 125). -/
def Dev.chrTakeLevel (d : Dev) (n : Fin 64) : Dev :=
  match d.sourceLevel (d.chrEntry n).capSrc with
  | some high => d.onChrono n (fun c => { c with level := high })
  | none => d

/-- A channel that has counted under a prescale begins anew under its entry: MODE 1 runs from 0, the others stand still at 0 (R501,
R502). -/
def Dev.chrBegin (d : Dev) (n : Fin 64) (prescale : Nat) : Dev :=
  ((d.chrBreakAs n prescale).onChrono n (fun c => { c with
    count := 0, residue := 0, edges := 0, interval := none, armed := false, moved := false
    running := (d.chrEntry n).mode = 1 })).chrTakeLevel n

/-- A channel restarts because an apply lists a changed entry for it (R502). -/
def Dev.chrRestart (d : Dev) (n : Fin 64) (prescale : Nat) : Dev :=
  ((d.chrBegin n prescale).chrFlag n 14).clrBits (.chrStatus n) (mkBit true 15)

/-- An apply drops the channel's entry without listing it: MODE 0 stops the counter at 0 (R499), and the rest stays as it is
(R502; log entry 126). -/
def Dev.chrDropped (d : Dev) (n : Fin 64) (prescale : Nat) : Dev :=
  (d.chrBreakAs n prescale).onChrono n (fun c => { c with count := 0, residue := 0, running := false, moved := false })

/-- An almanac is activated in place of that of `old` (R501). -/
def Dev.chrActivate (d old : Dev) : Dev := forEach (List.finRange 64) (fun n d => d.chrBegin n (old.chrEntry n).prescale) d

/-- Counters stop in SAFE (R501). -/
def Dev.chrStopAll (d : Dev) : Dev := { d with chronos := d.chronos.map (fun c => { c with running := false }) }

/-- One CCLK edge of a channel (R500). -/
def Chrono.tick (c : Chrono) (prescale : Nat) : Chrono :=
  if c.running = false then { c with moved := false }
  else if c.residue + 1 < 2 ^ prescale then { c with residue := c.residue + 1, moved := false }
  else { c with residue := 0, count := c.count + 1, moved := true }

/-- One CCLK edge of every channel; a step to 0 sets WRAP (R500). -/
def Dev.chrTick (d : Dev) : Dev :=
  forEach (List.finRange 64) (fun n d =>
    let c := d.chronos[n].tick (d.chrEntry n).prescale
    let d := if d.chronos[n].running ∨ d.chronos[n].moved then d.onChrono n (fun _ => c) else d
    if c.moved ∧ c.count = 0 then d.chrFlag n 13 else d) d

/-! ### Captures (R510, R513 to R523) -/

/-- The count of a counter that has run, `lag` edges before it stood at `count` with `residue` (R500). -/
def countBefore (count : W48) (residue prescale lag : Nat) : W48 :=
  BitVec.ofInt 48 (((count.toNat * 2 ^ prescale + residue : Nat) - (lag : Int)) / (2 ^ prescale : Nat))

/-- The count that stood on an edge of late (R518): before the first break from that edge on, or before now. -/
def Dev.chrCountOn (d : Dev) (n : Fin 64) (edge : Nat) : W48 :=
  let c := d.chronos[n]
  match c.cuts.reverse.find? (fun k => decide (edge ≤ k.edge)) with
  | some k => countBefore k.count k.residue k.prescale (if k.running then k.edge - edge else 0)
  | none => countBefore c.count c.residue (d.chrEntry n).prescale (if c.running then d.clk.cycle - edge else 0)

/-- The capture time of an edge of late: its τ minus two CCLK periods (R518). -/
def Dev.captureTime (d : Dev) (edge : Nat) : Int :=
  match d.clk.cuts.reverse.find? (fun k => decide (edge ≤ k.edge)) with
  | some k => k.tau - ((k.edge - edge + 2) * k.period : Nat)
  | none => d.clk.tau - ((d.clk.cycle - edge + 2) * d.period : Nat)

/-- The first switch edge of CCLK from an edge of late on (R534). -/
def Dev.switchedFrom (d : Dev) (edge : Nat) : Option Nat :=
  (d.clk.cuts.reverse.find? (fun k => k.switch && decide (edge ≤ k.edge))).map (·.edge)

/-- An accepted edge of a channel's source (R510, R517 to R523). `lag` is the number of edges since its sample edge. In SLEEP
there is none (R535). -/
def Dev.capEdge (d : Dev) (n : Fin 64) (rising : Bool) (lag : Nat) : Dev :=
  let c := d.chronos[n]
  if c.running = false ∨ d.clocked = false then d
  else
    let s := d.clk.cycle - lag
    let v := d.chrCountOn n s
    let time := d.captureTime s
    let edge := d.fld (.chrCtrl n) 8 2
    if d.bit (.chrCtrl n) 7 then
      if rising = decide (edge = 0) then
        let i : Interval := { start := v, repeatStart := c.interval.isSome, mixedAt := d.switchedFrom s }
        (d.onChrono n (fun c => { c with interval := some i })).capEvent n time
      else
        match c.interval with
        | some i =>
          let w := v - i.start
          let d := d.onChrono n (fun c => { c with interval := none })
          let d := if w = 0 then d.chrFlag n 10 else d
          (d.capWrite n w).capRecord n .width w
            (mkBit (i.mixedAt.any (fun e => decide (e ≤ s))) 21 ||| mkBit i.repeatStart 20 ||| mkBit (decide (w = 0)) 16) (lo48 i.start)
        | none => ((d.chrFlag n 11).capWrite n v).capRecord n .orphan v (mkBit true 17) 0
    else if edge = 2 ∨ rising = decide (edge = 0) then
      if c.edges + 1 < max 1 (d.chrEntry n).edgeDiv then d.onChrono n (fun c => { c with edges := c.edges + 1 })
      else
        (((d.onChrono n (fun c => { c with edges := 0 })).capWrite n v).capRecord n .edge v 0 0).capEvent n time
    else d

/-- A pulse on a capture source (R511, R515). -/
def Dev.capPulse (d : Dev) (src : Nat) : Dev :=
  forEach (List.finRange 64) (fun n d =>
    let e := d.chrEntry n
    if e.mode ≠ 0 ∧ e.capSrc = src then d.capEdge n true 0 else d) d

/-- A new level of a level source as a channel accepts it (R511). A change in SLEEP is no edge: the channel only finds the level
there afterwards (R535; log entry 125). -/
def Dev.capAccept (d : Dev) (n : Fin 64) (high : Bool) (lag : Nat) : Dev :=
  if d.chronos[n].level = high then d
  else
    let d := d.onChrono n (fun c => { c with level := high })
    if (d.chrEntry n).mode = 0 then d else d.capEdge n high lag

/-- A new level on an internal level source (R515). -/
def Dev.capLevel (d : Dev) (src : Nat) (high : Bool) : Dev :=
  forEach (List.finRange 64) (fun n d => if (d.chrEntry n).capSrc = src then d.capAccept n high 0 else d) d

/-- An edge of the internal source of channel n on the present CCLK edge (R515). -/
def Dev.capInternal (d : Dev) (n : Fin 64) (rising : Bool) : Dev :=
  if levelSource (d.chrEntry n).capSrc then d.capAccept n rising 0
  else if (d.chrEntry n).mode = 0 then d else d.capEdge n rising 0

/-- The channels that `p` selects take what they still owe the present edge (R530, R536). -/
def Dev.capsTake (d : Dev) (p : Fin 64 → Bool) : Dev :=
  forEach (d.caps.filter (fun e => p e.1)) (fun e d => d.capInternal e.1 e.2)
    { d with caps := d.caps.filter (fun e => !p e.1) }

/-- The edges that the passing of a CCLK edge brings to internal sources: axes whose cycle field has stepped forward, shutter lines
that have changed, and TRIP lines whose driven level has changed, since `old` (Table 13.1). -/
def Dev.capsDue (d old : Dev) : List (Fin 64 × Bool) :=
  let axes := (List.finRange 8).filter (fun a => d.cycleStepped old a)
  let lines := (List.range 8).filter (fun k => d.lineBlank k != old.lineBlank k)
  let trips := (List.finRange 8).filter (fun k => d.tripDriven k != old.tripDriven k)
  if axes = [] ∧ lines = [] ∧ trips = [] then []
  else (List.finRange 64).filterMap (fun n =>
    let src := (d.chrEntry n).capSrc
    if axes.any (fun a => decide (src = 0x60 + a.val)) then some (n, true)
    else ((lines.find? (fun k => decide (src = 0x68 + k))).map (fun k => (n, d.lineBlank k))).or
      ((trips.find? (fun k => decide (src = 0x70 + k.val))).map (fun k => (n, d.tripDriven k))))

/-- On the resume edge every channel finds the level that its internal source shows by then, without an edge (R535; log entry
125). -/
def Dev.chrResample (d : Dev) : Dev :=
  forEach (List.finRange 64) (fun n d => if (d.chrEntry n).capSrc < 0x40 then d else d.chrTakeLevel n) d

/-- How every running counter stands on the freeze edge is kept for captures whose sample edge lies before SLEEP (R518). -/
def Dev.chrBreakAll (d : Dev) : Dev :=
  forEach (List.finRange 64) (fun n d => if d.chronos[n].running then d.chrBreak n else d) d

/-- The level that channel n accepts on the present edge from a pin that the device drives: FILTER samples agree (R513,
R529). -/
def Dev.drivenDue (d : Dev) (n : Fin 64) : Option Bool :=
  let e := d.chrEntry n
  let k : Fin 64 := toFin 63 e.capSrc
  if e.mode = 0 ∨ 0x40 ≤ e.capSrc ∨ d.chrPinOut k = false then none
  else match d.sampledPin k d.clk.cycle with
    | some high =>
      if d.chronos[n].level ≠ high ∧
        (List.range e.filter).all (fun i => decide (i ≤ d.clk.cycle) && decide (d.sampledPin k (d.clk.cycle - i) = some high)) then some high
      else none
    | none => none

/-- CCLK changes, or τ leaps: how time has run so far is kept for captures whose sample edge lies before, and a switch falls
within every open interval (R518, R534). -/
def Dev.clkBreak (d : Dev) (switch : Bool) : Dev :=
  let k : ClkCut := { edge := d.clk.cycle, tau := d.clk.tau, period := d.period, switch := switch }
  let d := d.onClk (fun c => { c with cuts := k :: c.cuts.filter (fun k => decide (c.cycle ≤ k.edge + 16)) })
  if switch then { d with chronos := d.chronos.map (fun c => { c with interval := c.interval.map (fun i =>
    { i with mixedAt := i.mixedAt <|> some d.clk.cycle }) }) }
  else d

/-! ### Register reads and writes of the chronographs -/

/-- MODE 0 (R499). -/
def Dev.chrOff (d : Dev) (n : Fin 64) : Bool := decide ((d.chrEntry n).mode = 0)

/-- CHR_CMD ARM (R504). -/
def Dev.chrCmdArm (d : Dev) (n : Fin 64) : Result :=
  checked d (lowest [(d.chrOff n, .state)]) (fun d => d.chrArmOne n)

/-- CHR_CMD STOP (R509). -/
def Dev.chrCmdStop (d : Dev) (n : Fin 64) : Result :=
  (.ok, (d.chrBreak n).onChrono n (fun c => { c with running := false }))

/-- A CHR_CMD write: exactly one command bit (R538). -/
def Dev.writeChrCmd (d : Dev) (n : Fin 64) (w : Word) : Result :=
  match Machine.fld w 0 2 with
  | 1 => d.chrCmdArm n
  | 2 => d.chrCmdStop n
  | _ => (.range, d)

/-- The commit of CHR_ARM: every channel of the mask is armed on one edge (R504). -/
def Dev.writeChrArm (d : Dev) (lo hi : Word) : Result :=
  let named (n : Fin 64) : Bool := if n.val < 32 then Machine.bit lo n.val else Machine.bit hi (n.val - 32)
  checked d (lowest [((List.finRange 64).any (fun n => named n && d.chrOff n), .state)])
    (fun d => forEach ((List.finRange 64).filter named) (fun n d => d.chrArmOne n) d)

/-- A committed CHR_COUNT write (R506). -/
def Dev.writeChrCount (d : Dev) (n : Fin 64) (v : W48) : Result :=
  checked d (lowest [(d.chrOff n, .state)]) (fun d =>
    (((d.chrBreak n).onChrono n (fun c => { c with count := v, residue := 0, moved := false })).clrBits (.chrStatus n)
      (mkBit true 15)).chrEvaluate n)

/-- A committed CHR_TERM write (R508). -/
def Dev.writeChrTerm (d : Dev) (n : Fin 64) (v : W48) : Result :=
  checked d (lowest [(decide (v = 0), .range)]) (fun d =>
    let d := d.wr48 (.chrTerm n) v
    if d.chronos[n].running && decide ((d.chrEntry n).mode = 2) && atOrLater d.chronos[n].count v then
      d.chrTerminalEvent n
    else d)

/-- A committed CHR_COMPARE write (R526). A MODE 0 channel fires no compare (R499). -/
def Dev.writeChrCompare (d : Dev) (n : Fin 64) (v : W48) : Result :=
  (.ok, let d := d.wr48 (.chrCompare n) v
        if d.chrOff n then d else d.chrEvaluate n)

/-- A committed CHR_CMP_PERIOD write (R527). -/
def Dev.writeChrCmpPeriod (d : Dev) (n : Fin 64) (v : W48) : Result :=
  checked d (lowest [(decide (2 ^ 47 ≤ v.toNat), .range)]) (fun d => d.wr48 (.chrCmpPeriod n) v)

/-- A CHR_CTRL write (R516, R519). With PIN_OUT the pin becomes an output, at the level it was driven to last, or an input
(R529). -/
def Dev.writeChrCtrl (d : Dev) (n : Fin 64) (w : Word) : Result :=
  let src := (d.chrEntry n).capSrc
  let edge := Machine.fld w 8 2
  checked d (lowest [
    (decide (edge = 3) || (pulseSource src && decide (edge ≠ 0)) ||
      (Machine.bit w 7 && (!levelSource src || decide (1 < edge))), .range)])
    (fun d =>
      let was := d.chrPinOut n
      let d := d.wr (.chrCtrl n) w
      if d.chrPinOut n = was then d
      else
        let d := d.onChrono n (fun c => { c with drives := [], pinNext := [] })
        if was then d else d.chrDrive n d.chronos[n].pin)

/-- CHR_STATUS as it reads (Table 13.5). -/
def Dev.readChrStatus (d : Dev) (n : Fin 64) : Word :=
  let c := d.chronos[n]
  d.rd (.chrStatus n) ||| mkBit c.running 31 ||| mkBit c.interval.isSome 23 ||| mkBit c.capNew 22 |||
    mkBit (c.level && levelSource (d.chrEntry n).capSrc) 0

/-- CHR_CFG as it reads (Table 13.5). -/
def Dev.readChrCfg (d : Dev) (n : Fin 64) : Word :=
  let e := d.chrEntry n
  if e.mode = 0 then at_ (e.capSrc % 256) 24 ||| at_ (e.prescale % 16) 6
  else at_ (e.capSrc % 256) 24 ||| at_ (e.edgeDiv % 512) 15 ||| at_ (e.filter % 32) 10 ||| at_ (e.prescale % 16) 6 |||
    at_ (e.mode % 4) 0

end Sys2Proof.Machine
end

