-- ==== Sys2Proof/Machine/VaultStore.lean ====
section
/-! DEFINITION. The vault's cells: home pages, journal slots and what a read returns (19_vault.md, R739 to R743, R752,
R755). -/
namespace Sys2Proof.Machine

/-- The byte of a home page at vault offset `a`; a byte that is not listed is 0x00, as shipped (Table 19.1). -/
def homeByte : List Host.Cell → Nat → Byte
  | [], _ => 0
  | (k, b) :: t, a => if k = a then b else homeByte t a

/-- Puts a cell before the first greater offset. -/
def insCell (a : Nat) (b : Byte) : List Host.Cell → List Host.Cell
  | [] => [(a, b)]
  | (k, c) :: t => if a < k then (a, b) :: (k, c) :: t else (k, c) :: insCell a b t

/-- The home pages with one byte written; a byte of 0x00 is not listed. -/
def homeWrite (m : List Host.Cell) (a : Nat) (b : Byte) : List Host.Cell :=
  let t := m.filter (fun c => c.1 ≠ a)
  if b = 0 then t else insCell a b t

/-- Consecutive bytes written from offset `a` on. -/
def homeWriteAll (m : List Host.Cell) (a : Nat) : List Byte → List Host.Cell
  | [] => m
  | b :: t => homeWriteAll (homeWrite m a b) (a + 1) t

/-- The canonical form of the home pages: offsets strictly rising, within the array, and no byte of 0x00 listed. -/
def Memory.wf : List Host.Cell → Bool
  | [] => true
  | [(a, b)] => b ≠ 0 && decide (a < 2 ^ 20)
  | (a, b) :: (c, e) :: t => b ≠ 0 && decide (a < c) && Memory.wf ((c, e) :: t)

/-- The slot that the journal holds for a page. -/
def slotOf (j : List (Nat × List Byte)) (page : Nat) : Option (List Byte) := (j.find? (·.1 = page)).map (·.2)

/-- The committed contents at vault offset `a` (R741): a page that a committed transaction holds is served from its slot,
whether or not it has been copied. -/
def NonVolatile.committed (v : NonVolatile) (a : Nat) : Byte :=
  match v.kind, slotOf v.journal (a / 256) with
  | .committed, some p => p.getD (a % 256) 0
  | _, _ => homeByte v.home a

/-- `k` committed bytes from offset `a` on. -/
def NonVolatile.read (v : NonVolatile) (a k : Nat) : List Byte := (List.range k).map (fun i => v.committed (a + i))

/-- The coefficient block of a bridge (R428). -/
def NonVolatile.coefBlock (v : NonVolatile) (b : Nat) : List Byte := v.read (192 * b) 192

/-- The thermometry record of a bridge (R429). -/
def NonVolatile.thermRecord (v : NonVolatile) (b : Nat) : List Byte := v.read (0x066000 + 16 * b) 16

/-- The collimation window record of a bridge (R451). -/
def NonVolatile.windowRecord (v : NonVolatile) (b : Nat) : List Byte := v.read (0x06E800 + 32 * b) 32

/-- The pages that hold a bridge's coefficient block or thermometry record (R434). -/
def linePages (b : Nat) : List Nat := [192 * b / 256, (192 * b + 191) / 256, 0x660 + b / 16]

/-- VLT_STATUS OFF (R743). -/
def Dev.vaultOff (d : Dev) : Bool := !d.vault.ready || decide (d.boot.phase = .sleep)

/-- A word of BAR2 (R743). -/
def Dev.bar2Word (d : Dev) (v : NonVolatile) (off : Nat) : Word :=
  if d.vaultOff then 0xFFFFFFFF else wordAt (v.read (off / 4 * 4) 4) 0

end Sys2Proof.Machine
end

