-- ==== Sys2Proof/Machine/Reduce.lean ====
section
/-! DEFINITION. The reducers: binding, temperature sources, the polynomial, the coefficient cache and the PLATE record
(10_reduction.md; 17_logbook.md, R674, R675). -/
namespace Sys2Proof.Machine

/-! ### Temperatures (R416 to R422, R425) -/

/-- A temperature source's answer: the word, and whether it was limited or stands at a saturation code (R425). -/
structure Temp where
  word : BitVec 24
  sat : Bool
  deriving DecidableEq, Repr

/-- No temperature. -/
def noTemperature : Temp := { word := noTemp, sat := false }

/-- A temperature word as a source shows it (R425). -/
def shownTemp (w : Word) : Temp :=
  let t : BitVec 24 := w.setWidth 24
  { word := t, sat := decide (t = 0x7FFFFF#24) || decide (t = 0x800001#24) }

/-- A converted temperature in units of 2^-16 °C, limited (R77). -/
def limitedTemp (v : Int) : Temp :=
  { word := satTemp v, sat := decide (2 ^ 23 - 1 < v) || decide (v < -(2 ^ 23 - 1)) }

/-- `v × 2^e` rounded half to even. -/
def scaleRound (v e : Int) : Int := if 0 ≤ e then v * 2 ^ e.toNat else roundDiv v (2 ^ (-e).toNat)

/-- `a + v × 2^e` rounded half to even. -/
def addScaled (a v e : Int) : Int :=
  if 0 ≤ e then a + v * 2 ^ e.toNat else roundDiv (a * 2 ^ (-e).toNat + v) (2 ^ (-e).toNat)

/-- The mantissa of an illegal coefficient word (R74). -/
def badMantissa : Int := -(2 ^ 39)

/-- The temperature that a bridge resistance stands for (R417, R422). -/
def resistanceTemp (record : List Byte) (r : Word) : Temp :=
  let th := signedOf 24 (field record 0 3)
  let ref := field record 4 4
  let g := coefOf (field record 8 6)
  if th = signedOf 24 0x800000 ∨ ref = 0 ∨ g.1 = badMantissa then noTemperature
  else limitedTemp (addScaled th (g.1 * ((r.toNat : Int) - ref)) g.2)

/-- The temperature of a companion's latest reading (R419). -/
def Dev.companionTemp (d : Dev) (r : Fin 8) (companion : Nat) : Temp :=
  match d.red.readings.find? (·.1 = companion) with
  | none => noTemperature
  | some (_, x) =>
    let age := d.fld (.redCtrl r) 0 16
    if age ≠ 0 ∧ d.clk.tau - x.tau > (age * 1000000 * 65536 : Nat) then noTemperature
    else limitedTemp (scaleRound x.mantissa (x.exponent + 16))

/-- The temperature of a plate on its entry edge (Table 10.2). -/
def Dev.plateTemp (d : Dev) (r : Fin 8) (p : Plate) (f : Fabric) (l : CacheLine) : Temp :=
  match f.tempSrc with
  | 0 => shownTemp (d.rd (.thermTemp (toFin 4 ((quadOfBridge p.bridge.val).val + 1))))
  | 1 => match p.resistance with
    | some w => resistanceTemp l.record w
    | none => noTemperature
  | 2 => d.companionTemp r f.companion
  | _ => shownTemp (d.rd (.redHostTemp r))

/-! ### The polynomial (R407 to R410, R423 to R426) -/

/-- The coefficient words within MAX_I and MAX_J, with their powers (R408, R428). -/
def coefficients (block : List Byte) (e : ReduceEntry) : List (Nat × Nat × Int × Int) :=
  (List.range (e.maxI + 1)).flatMap (fun i => (List.range (e.maxJ + 1)).map (fun j =>
    (i, j, coefOf (field block (6 * (4 * i + j)) 6))))

/-- The mantissa before its limits: Σ c × x^i × t^j / 2^E as if exactly, rounded once (R407, R409). `w` is the raw ratio
word and `t` the temperature word; every term is a multiple of 2^-600. -/
def polyMantissa (cs : List (Nat × Nat × Int × Int)) (w t exponent : Int) : Int :=
  roundDiv (cs.foldl (fun (s : Int) c =>
    s + c.2.2.1 * w ^ c.1 * t ^ c.2.1 * 2 ^ (600 + c.2.2.2 - exponent - 40 * c.1 - 16 * c.2.1).toNat) 0) (2 ^ 600)

/-- The sign of c_10 is negative (R424). -/
def spanNegative (block : List Byte) (e : ReduceEntry) : Bool :=
  decide (0 < e.maxI) && decide ((coefOf (field block 24 6)).1 < 0)

/-- STATUS bits of a reducer (Table 17.6). -/
def redStatus (coefBad redSat tempNone tempSat : Bool) : BitVec 16 :=
  (mkBit coefBad 3 ||| mkBit redSat 2 ||| mkBit tempNone 1 ||| mkBit tempSat 0).setWidth 16

/-- A plate as its reducer settles it (Table 10.3): cases 1, 2 and 4 give a VOID value. -/
def Dev.settlePlate (d : Dev) (r : Fin 8) (p : Plate) (l : CacheLine) : Plate :=
  let void (s : BitVec 16) : Plate := { p with value := voidRatio, status := p.status ||| s }
  let k := d.bankOf p.old
  let e := reduceOf k r.val
  let f := fabricOf k p.bridge.val
  let cs := coefficients l.block e
  if p.raw = voidRatio then void 0
  else if cs.any (fun c => decide (c.2.2.1 = badMantissa)) then void (redStatus true false false false)
  else if p.raw = satCode true ∨ p.raw = satCode false then
    { p with value := satCode (decide (p.raw = satCode true) != spanNegative l.block e)
             status := p.status ||| redStatus false true false false }
  else
    let t := if e.maxJ = 0 then { word := 0, sat := false } else d.plateTemp r p f l
    if e.maxJ ≠ 0 ∧ t.word = noTemp then void (redStatus false false true false)
    else
      let m := polyMantissa cs p.raw.toInt t.word.toInt f.exponent
      { p with value := satRatio m, temp := if e.maxJ = 0 then noTemp else t.word
               status := p.status ||| redStatus false (ratioSaturates m) false t.sat }

/-- A bridge's line is valid. While PD2 is off none is (R437). -/
def Dev.validLine (d : Dev) (b : Fin 2176) : Option CacheLine := (d.line b).filter (fun l => !l.fetching)

/-- The ratio enters its reducer though its bridge's line is not valid: its ticket never held one, or it is VOID, which consults none
(Table 10.3), and waits only while the line is fetched again (R415, R434). -/
def Dev.needsNoLine (d : Dev) (p : Plate) : Bool := !p.holds || (decide (p.raw = voidRatio) && !d.lineAgain p.bridge)

/-- The first waiting ratio that may enter, with its line, and the ratios that stay (R414, R434). -/
def Dev.nextRatio (d : Dev) : List Plate → Option (Plate × CacheLine × List Plate)
  | [] => none
  | p :: t =>
    match d.validLine p.bridge with
    | some l => some (p, l, t)
    | none => if d.needsNoLine p then some (p, { bridge := p.bridge, fetching := false, block := [], record := [] }, t)
      else (d.nextRatio t).map (fun q => (q.1, q.2.1, p :: q.2.2))

/-- One raw ratio enters a reducer (Table 10.1 step 2). -/
def Dev.reducerEntry (d : Dev) (r : Fin 8) : Dev :=
  match d.nextRatio d.red.reducers[r].waiting with
  | none => d
  | some (p, l, rest) =>
    let q := d.settlePlate r p l
    (d.count (.redEvals r) 1).onRed r (fun x => { x with waiting := rest, pipeline := x.pipeline ++ [q] })

/-- RED_FLAGS of a plate's status: there TEMP_SAT is bit 1 and TEMP_NONE bit 0 (R427, Table 10.6). -/
def redFlags (s : BitVec 16) : Word :=
  mkBit (s.getLsbD 3) 3 ||| mkBit (s.getLsbD 2) 2 ||| mkBit (s.getLsbD 0) 1 ||| mkBit (s.getLsbD 1) 0

/-- No ratio waits for a reducer, is in one, or passes none on its way to the comparators. -/
def Dev.reducersIdle (d : Dev) : Bool :=
  decide (d.red.direct = []) &&
    (List.finRange 8).all (fun r => decide (d.red.reducers[r].waiting = []) && decide (d.red.reducers[r].pipeline = []))

/-- PD2 goes off: no line is valid (R437). -/
def Dev.cacheOff (d : Dev) : Dev := { d with red := { d.red with cache := [] } }

/-- In SAFE PD2 is off once the plates past their commit edges have left their reducers (R401, R437). -/
def Dev.reduceSafe (d : Dev) : Dev := if d.boot.phase = .safe ∧ d.reducersIdle = true then d.cacheOff else d

/-- The oldest ratio in a reducer's pipeline leaves it (Table 10.1 step 3). -/
def Dev.reducedOut (d : Dev) (r : Fin 8) : Dev :=
  match d.red.reducers[r].pipeline with
  | [] => d
  | p :: t =>
    let d := d.onRed r (fun x => { x with pipeline := t })
    let d := (d.setBits (.redFlags r) (redFlags p.status)).wrRatio (.redLastValue r) p.value
    let d := (d.wr (.redLastTemp r) (tempWord p.temp)).wr (.redLastSrc r)
      (at_ p.gen.toNat 24 ||| at_ p.lane.val 16 ||| at_ p.bridge.val 0)
    (d.reachValue p).reduceSafe

/-- The PLATE record of a plate (R671, R672, R674, Tables 17.4, 17.5). Its stamp, flags and place among epoch marks are
those of its commit edge. -/
def plateRecord (p : Plate) : Rec :=
  { kind := RecType.plate.code, cls := SrcClass.lane.code, idx := p.lane.val
    w2 := at_ p.gen.toNat 24 ||| p.flags ||| at_ p.bridge.val 8 ||| at_ (p.tag.toNat % 256) 0
    w3 := p.w3, w4 := p.w4, w5 := ratioLo p.value, w6 := ratioLo p.raw
    w7 := at_ p.status.toNat 16 ||| at_ (p.raw.toNat / 2 ^ 32) 8 ||| at_ (p.value.toNat / 2 ^ 32) 0
    log := p.log, cycle := 0, epoch := p.epoch, cause := none }

/-- The oldest plate whose value has reached the comparators on an earlier edge is handed over, and its pool entry released
(R43, R376, Table 10.1 step 4). -/
def Dev.plateOut (d : Dev) : Dev :=
  match d.red.plates with
  | [] => d
  | p :: t =>
    if p.reached < d.clk.cycle then (({ d with red := { d.red with plates := t } }).handOver (plateRecord p)).freeTicket p.ticket
    else d

/-! ### The cache (R431 to R437) -/

/-- A line's fetch completes with committed contents (R432, R434). -/
def Dev.fetchDone (d : Dev) (v : NonVolatile) (b : Fin 2176) : Dev :=
  if d.lineFetching b then
    let l : CacheLine := { bridge := b, fetching := false, block := v.coefBlock b.val, record := v.thermRecord b.val }
    { d.count .cacheFills 1 with
      red := { d.red with cache := d.red.cache.map (fun m => if m.bridge = b then l else m) } }
  else d

/-- The lines that a committed transaction writes become stale (R434): held ones are fetched again, the others go. -/
def Dev.staleLines (d : Dev) (pages : List Nat) : Dev :=
  let hit (b : Fin 2176) : Bool := (linePages b.val).any (fun p => decide (p ∈ pages))
  let stale (b : Fin 2176) : Bool := hit b && d.red.cache.any (fun l => decide (l.bridge = b) && !l.fetching)
  let cache := d.red.cache.filterMap (fun l =>
    if hit l.bridge = false then some l
    else if tget 0 d.red.held l.bridge.val = 0 then none
    else some { l with fetching := true, again := true })
  let now (p : Plate) : Bool := stale p.bridge && p.holds && !p.waited
  let n := (List.finRange 8).foldl (fun n r => n + (d.red.reducers[r].waiting.filter now).length) 0
  let mark (x : Reducer) : Reducer := { x with waiting := x.waiting.map (fun p => if now p then { p with waited := true } else p) }
  { d.count .cacheWaits n with
    red := { d.red with cache := cache, reducers := d.red.reducers.map mark } }

/-- PD2 comes back: the lines that tickets hold are fetched (R432, R437). -/
def Dev.cacheOn (d : Dev) : Dev :=
  forEach (d.red.held.map (·.1)) (fun b d =>
    let b := toFin 2175 b
    if (d.line b).isSome then d
    else { d with red := { d.red with
      cache := d.red.cache ++ [{ bridge := b, fetching := true, block := [], record := [] }] } }) d

/-- HOST_TEMP of the REDUCE entries named is loaded (R421). -/
def Dev.loadHostTemps (d : Dev) (rs : List (Fin 8)) : Dev :=
  forEach rs (fun r d => d.wr (.redHostTemp r) (tempWord (reduceOf d.alm r.val).hostTemp)) d

/-- CACHE_STATUS as it reads (Table 10.6). -/
def Dev.readCacheStatus (d : Dev) : Word :=
  let held := d.red.cache.filter (fun l => decide (tget 0 d.red.held l.bridge.val ≠ 0))
  at_ held.length 16 ||| at_ (d.red.cache.filter (fun l => !l.fetching)).length 0

/-- A RED_HOST_TEMP write (R86, R438). -/
def Dev.writeHostTemp (d : Dev) (r : Fin 8) (w : Word) : Result :=
  checked d (lowest [(!tempWordOk w, .range)]) (fun d => d.wr (.redHostTemp r) w)

end Sys2Proof.Machine
end

