-- ==== Sys2Proof/Machine/Vault.lean ====
section
/-! DEFINITION. Vault transactions: commands, page operations, the commit sequence, recovery and abort (19_vault.md, R744
to R765). -/
namespace Sys2Proof.Machine

/-- OWNER of an access path (Table 19.6). -/
def pathCode : Path → Nat
  | .pcie => 0
  | .spi => 1
  | .link => 2
  | .queue k => 8 + k.val

/-- The code of a phase (Table 19.6). -/
def VaultPhase.code : VaultPhase → Nat
  | .idle => 0
  | .open_ => 1
  | .committing => 2
  | .copying => 3

/-- PAGE_BUSY: a page write or a LOAD is in progress (R747, 19_vault.md's example); a commit writes pages from the COMMITTED
descriptor to the CLOSED one, unless PD5 has gone off meanwhile (R195). -/
def Dev.pageBusy (d : Dev) : Bool :=
  d.vault.op.isSome ||
    ((decide (d.vault.phase = .committing) || decide (d.vault.phase = .copying)) && d.vault.ready)

/-- The bytes of the transaction buffer (R765). -/
def Dev.vaultBuffer (d : Dev) : List Byte := wordsToBytes ((List.finRange 64).map (fun w => d.rd (.vltBuf w)))

/-- Fills the transaction buffer. -/
def Dev.setVaultBuffer (d : Dev) (bs : List Byte) : Dev :=
  forEach (List.finRange 64) (fun w d => d.wr (.vltBuf w) (wordAt bs (4 * w.val))) d

/-- A write comes from a path other than the owner of the transaction (R746). -/
def Dev.notOwner (d : Dev) (p : Path) : Bool := decide (d.vault.phase ≠ .idle) && decide (d.vault.owner ≠ p)

/-- PHASE becomes IDLE (R764). -/
def Dev.vaultIdle (d : Dev) : Dev :=
  let d := d.onVault (fun v => { v with phase := .idle, op := none, aborting := false, slots := [], toCopy := [] })
  if d.bit .vltCtrl 0 then d.signal (d.vecOf .vltCtrl) else d

/-- VLT_CMD OPEN (R745, R751). -/
def Dev.vltOpen (d : Dev) (p : Path) : Result :=
  checked d (lowest [
    (!(decide (d.boot.phase = .held) || decide (d.boot.phase = .run)) || d.vaultOff, .state),
    (decide (d.vault.phase ≠ .idle) || d.pageBusy, .busy)])
    (fun d => d.onVault (fun v => { v with
      phase := .open_, owner := p, op := some .openDesc, slots := [], toCopy := [], aborting := false
      committedLast := false }))

/-- VLT_CMD LOAD (R746, R748, R751). -/
def Dev.vltLoad (d : Dev) (p : Path) (page : Fin 4096) : Result :=
  checked d (lowest [
    (decide (d.vault.phase ≠ .open_), .state), (d.notOwner p || d.pageBusy, .busy)])
    (fun d => d.onVault (fun v => { v with op := some (.load page) }))

/-- VLT_CMD PUT (R746, R750, R751). -/
def Dev.vltPut (d : Dev) (p : Path) (page : Fin 4096) : Result :=
  checked d (lowest [
    (decide (page.val ∉ d.vault.slots) && decide (64 ≤ d.vault.slots.length), .range),
    (decide (d.vault.phase ≠ .open_), .state), (d.notOwner p || d.pageBusy, .busy)])
    (fun d => d.onVault (fun v => { v with
      op := some (.put page d.vaultBuffer)
      slots := if page.val ∈ v.slots then v.slots else v.slots ++ [page.val] }))

/-- VLT_CMD COMMIT (R746, R751, R753). -/
def Dev.vltCommit (d : Dev) (p : Path) : Result :=
  checked d (lowest [
    (decide (d.vault.phase ≠ .open_) || decide (d.vault.slots = []), .state), (d.notOwner p || d.pageBusy, .busy)])
    (fun d => d.onVault (fun v => { v with phase := .committing }))

/-- An open transaction is aborted: a page write in progress completes, then a CLOSED descriptor is written (R756). -/
def Dev.abortOpen (d : Dev) : Dev :=
  d.onVault (fun v => { v with aborting := true, op := if v.op.isSome then v.op else some .closing })

/-- VLT_CMD ABORT (R746, R756, R757). -/
def Dev.vltAbort (d : Dev) (p : Path) : Result :=
  match d.vault.phase with
  | .open_ => checked d (lowest [(d.notOwner p, .busy)]) (fun d => d.abortOpen)
  | .idle =>
    checked d (lowest [(!(decide (d.vault.owner = p) && d.vault.committedLast), .state)])
      (fun d => d.onVault (fun v => { v with abortResult := Code.alreadyDone.num }))
  | _ =>
    checked d (lowest [(d.notOwner p, .busy)])
      (fun d => d.onVault (fun v => { v with abortResult := Code.alreadyDone.num }))

/-- A VLT_CMD write: exactly one command bit, and PAGE 0 except with LOAD or PUT (R765). -/
def Dev.writeVltCmd (d : Dev) (p : Path) (w : Word) : Result :=
  let page := toFin 4095 (Machine.fld w 16 12)
  let plain (r : Result) : Result := if page.val = 0 then r else (Code.lower .range r.1, d)
  match Machine.fld w 0 5 with
  | 1 => plain (d.vltOpen p)
  | 2 => d.vltPut p page
  | 4 => plain (d.vltCommit p)
  | 8 => plain (d.vltAbort p)
  | 16 => d.vltLoad p page
  | _ => (.range, d)

/-- A VLT_BUF write (R746, R749). -/
def Dev.writeVltBuf (d : Dev) (p : Path) (i : Fin 64) (w : Word) : Result :=
  let loading := match d.vault.op with
    | some (.load _) => true
    | _ => false
  checked d (lowest [(decide (d.vault.phase ≠ .open_), .state), (d.notOwner p || loading, .busy)])
    (fun d => d.wr (.vltBuf i) w)

/-- A descriptor write completes: it is in force, with the next sequence number (R759, R760). -/
def NonVolatile.describe (v : NonVolatile) (k : DescKind) : NonVolatile := { v with kind := k, seq := v.seq + 1 }

/-- VLT_JSEQ follows the descriptor in force (Table 19.6). -/
def Dev.showSeq (d : Dev) (v : NonVolatile) : Dev := d.wr .vltJseq v.seq

/-- PD5 goes off once the page in progress is written (R195). -/
def Dev.vaultStop (d : Dev) : Dev :=
  if d.vault.stopping then d.onVault (fun v => { v with ready := false, op := none }) else d

/-- A journal, slot or home-page write, or a LOAD, completes (R747, R748, R750, R753, R756). Once PD5 has gone off no page is
being written (R195). -/
def Dev.pageDone (d : Dev) (v : NonVolatile) : Dev × NonVolatile :=
  let next (d : Dev) : Dev :=
    (d.onVault (fun u => { u with op := if u.aborting then some .closing else none })).vaultStop
  match d.vault.op with
  | some .openDesc =>
    let v := v.describe .open_
    (next (d.showSeq v), { v with journal := [] })
  | some (.load page) =>
    let bs := if page.val ∈ d.vault.slots then (slotOf v.journal page.val).getD [] else v.read (256 * page.val) 256
    (next (d.setVaultBuffer bs), v)
  | some (.put page bs) => (next d, { v with journal := tins page.val (bs.take 256) (tdel v.journal page.val) })
  | some .closing =>
    let v := { v.describe .closed with journal := [] }
    let d := (d.showSeq v).setBits .vltStatus (mkBit true 1)
    ((d.onVault (fun u => { u with abortResult := 0 })).vaultIdle.vaultStop, v)
  | none =>
    match d.vault.phase, d.vault.toCopy with
    | .copying, p :: t =>
      if d.vault.ready = false then (d, v)
      else ((d.onVault (fun u => { u with toCopy := t })).vaultStop,
        { v with home := homeWriteAll v.home (256 * p) ((slotOf v.journal p).getD []) })
    | _, _ => (d, v)

/-- The pages of the slots in ascending order (Table 19.3 step 3). -/
def sortPages (l : List Nat) : List Nat := l.foldl (fun s p =>
  s.filter (fun q => decide (q < p)) ++ p :: s.filter (fun q => decide (p < q))) []

/-- The commit point: the COMMITTED descriptor is written (R754, R434). -/
def Dev.commitPoint (d : Dev) (v : NonVolatile) : Dev × NonVolatile :=
  if d.vault.phase = .committing ∧ d.vault.ready = true then
    let v := v.describe .committed
    let pages := sortPages d.vault.slots
    let d := (d.showSeq v).onVault (fun u => { u with phase := .copying, toCopy := pages })
    ((d.staleLines pages).vaultStop, v)
  else (d, v)

/-- The CLOSED descriptor after the copies is written (Table 19.3 steps 4 and 5). -/
def Dev.vaultClose (d : Dev) (v : NonVolatile) : Dev × NonVolatile :=
  if d.vault.phase = .copying ∧ d.vault.toCopy = [] ∧ d.vault.ready = true then
    let v := { v.describe .closed with journal := [] }
    let d := ((d.showSeq v).setBits .vltStatus (mkBit true 0)).count .vltCommits 1
    (((d.onVault (fun u => { u with committedLast := true })).vaultIdle).vaultStop, v)
  else (d, v)

/-- Journal recovery by the descriptor in force (Table 19.4): its JRNL code and the cells after it. -/
def NonVolatile.recover (v : NonVolatile) : Nat × NonVolatile :=
  match v.kind with
  | .closed => (0, v)
  | .open_ => (2, { v.describe .closed with journal := [] })
  | .committed =>
    (1, { v.describe .closed with
      home := v.journal.foldl (fun m s => homeWriteAll m (256 * s.1) s.2) v.home, journal := [] })

/-- PERST_N low or a Function Level Reset aborts an open transaction of the host's (R763). A hot control die starts no further page
for it: the transaction is resolved at the next boot (R195, R761). -/
def Dev.hostAbort (d : Dev) : Dev :=
  if d.vault.ready = true ∧ d.vault.stopping = false ∧ d.vault.phase = .open_ ∧ (d.vault.owner = .pcie ∨ 8 ≤ pathCode d.vault.owner) then d.abortOpen else d

/-- The control die is hot: PD5 finishes the page it is writing and turns off (R195). -/
def Dev.vaultHot (d : Dev) : Dev :=
  let writing := decide (d.vault.phase = .committing) || decide (d.vault.phase = .copying) || (match d.vault.op with
    | some (.load _) => false
    | some _ => true
    | none => false)
  let d := d.onVault (fun v => { v with stopping := true })
  if writing then d else d.vaultStop

/-- VLT_STATUS as it reads (Table 19.6). -/
def Dev.readVltStatus (d : Dev) : Word :=
  let v := d.vault
  (d.rd .vltStatus &&& 0x3) ||| at_ v.phase.code 30 ||| mkBit d.pageBusy 29 ||| mkBit d.vaultOff 28 ||| at_ (pathCode v.owner) 24 |||
    at_ v.slots.length 16 ||| at_ v.abortResult 8

end Sys2Proof.Machine
end

