-- ==== Sys2Proof/Machine/Coll.lean ====
section
/-! DEFINITION. Collimation: which bridge is tested next, the seven steps, the solution of the arms, and the faults of a
run (11_collimation.md). -/
namespace Sys2Proof.Machine

/-- A reading or a result beyond range (R448, R449). -/
def beyond : Word := 0xFFFFFFFF

/-! ### The arms (R449) -/

/-- One digit of a square root in base 2, from the highest: `r` is the root so far with `k` digits still to come. -/
def sqrtDigits (n r : Nat) : Nat → Nat
  | 0 => r
  | k + 1 =>
    let t := r + 2 ^ k
    sqrtDigits n (if t * t ≤ n then t else r) k

/-- ⌊√n⌋ of a number below 2^300. -/
def isqrt (n : Nat) : Nat := sqrtDigits n 0 150

/-- Scale of the sum S while it is searched: 2^-96 of an LSB. -/
def sScale : Nat := 2 ^ 96

/-- √(S² − 4·S·z) with S in units of 2^-96 LSB. -/
def armRoot (s z : Nat) : Nat := isqrt (s * (s - 4 * z * sScale))

/-- S lies at or below the root: the four arms R_k = (S − √(S² − 4·S·Z_k))/2 still add up to at least S. -/
def belowRoot (zs : List Nat) (s : Nat) : Bool := decide ((zs.map (armRoot s)).foldl (· + ·) 0 ≤ 2 * s)

/-- Bisection for the largest S at or below the root; `k` halvings are left and the width is 2^k. -/
def searchSum (zs : List Nat) (lo : Nat) : Nat → Nat
  | 0 => lo
  | k + 1 => searchSum zs (if belowRoot zs (lo + 2 ^ k) then lo + 2 ^ k else lo) k

/-- One arm rounded half to even, from the two ends of the interval that holds the root. -/
def armRound (s z : Nat) : Nat :=
  let lo := roundDiv ((s : Int) - armRoot s z) (2 * sScale)
  let hi := roundDiv ((s + 1 : Nat) - (armRoot (s + 1) z : Int)) (2 * sScale)
  (if lo = hi ∨ lo % 2 = 0 then lo else hi).toNat

/-- The four arms from the four readings in 2^-8 Ω; none when a reading is beyond range or no root with every R_k below
S/2 exists (R449, log entry 13). -/
def solveArms (zs : List Word) : Option (List Nat) :=
  let ns := zs.map (·.toNat)
  let top := ns.foldl max 0
  if zs.any (fun z => decide (z = beyond)) ∨ top = 0 then none
  else
    let s0 := 4 * top * sScale
    if (ns.map (armRoot s0)).foldl (· + ·) 0 < 2 * s0 then
      let s := searchSum ns s0 130
      some (ns.map (armRound s))
    else none

/-! ### The window record (Table 11.2) -/

/-- A window record's fields. -/
structure Window where
  nom : List Nat
  tol : Nat
  shortPct : Nat
  flags : Nat
  leadMax : Nat
  leakMin : Nat
  deriving DecidableEq, Repr

/-- The fields of a window record's bytes. -/
def windowOf (bs : List Byte) : Window :=
  { nom := (List.range 4).map (fun a => field bs (4 * a) 4), tol := field bs 0x10 2, shortPct := byteAt bs 0x12
    flags := byteAt bs 0x13, leadMax := field bs 0x14 2, leakMin := field bs 0x18 4 }

/-- The record is compared (R452). -/
def windowUsed (bs : List Byte) : Bool :=
  let w := windowOf bs
  decide (w.flags % 2 = 1) && decide (w.flags < 8) && decide (1 ≤ w.tol) && decide (w.tol ≤ 10000) &&
    decide (1 ≤ w.shortPct) && decide (w.shortPct ≤ 99) && decide (field bs 0x16 2 = 0) && decide (field bs 0x1C 4 = 0)

/-- A fault of Table 11.3: its code, and the items that meet its condition, each with its ITEM code and its value. -/
structure CollFault where
  code : Nat
  items : List (Nat × Word)
  deriving DecidableEq, Repr

/-- The items of a list that meet a condition, numbered from `base` on. -/
def itemsFrom (base : Nat) (p : Word → Bool) (l : List Word) : List (Nat × Word) :=
  (l.zipIdx.filter (fun x => p x.1)).map (fun x => (base + x.2, x.1))

/-- The results of a run: loops, signal readings, arms and leakage. -/
structure CollResult where
  loops : List Word
  signals : List Word
  arms : Option (List Nat)
  leak : Word
  deriving DecidableEq, Repr

/-- The result of a run's seven readings. -/
def collResult (l : List Word) : CollResult :=
  { loops := l.take 2, signals := (l.drop 2).take 4, arms := solveArms ((l.drop 2).take 4), leak := l.getD 6 0 }

/-- The arms as COLL_ARM shows them (R449). -/
def CollResult.armWords (r : CollResult) : List Word :=
  match r.arms with
  | some l => l.map (BitVec.ofNat 32)
  | none => [beyond, beyond, beyond, beyond]

/-- The compared arms that meet a condition on the arm and its nominal value. -/
def CollResult.armItems (r : CollResult) (w : Window) (p : Nat → Nat → Bool) : List (Nat × Word) :=
  match r.arms with
  | some l => ((l.zip w.nom).zipIdx.filter (fun x => decide (x.1.2 ≠ 0) && p x.1.1 x.1.2)).map (fun x =>
      (x.2, BitVec.ofNat 32 x.1.1))
  | none => []

/-- The faults of a run under a window, by rising code, those without an item left out (Table 11.3). -/
def collFaults (w : Window) (r : CollResult) : List CollFault :=
  let drift := match r.arms with
    | some _ => r.armItems w (fun a n => decide (w.tol * n < 10000 * ((a : Int) - n).natAbs))
    | none => itemsFrom 0 (fun _ => true) r.armWords
  [{ code := 0x20, items := itemsFrom 4 (fun v => decide (v = beyond) || decide (16 * w.leadMax < v.toNat)) r.loops },
   { code := 0x21, items := (itemsFrom 0 (fun v => decide (v = beyond)) r.signals).map (fun x => (6, x.2)) },
   { code := 0x22, items := r.armItems w (fun a n => decide (100 * a < w.shortPct * n)) },
   { code := 0x23, items := if r.leak.toNat < w.leakMin then [(7, r.leak)] else [] },
   { code := 0x24, items := drift }].filter (fun f => decide (f.items ≠ []))

/-- The mask of a set of faults. -/
def collMask (l : List CollFault) : Nat := l.foldl (fun m f => m + 2 ^ (f.code - 0x20)) 0

/-! ### Eligibility (R439 to R443) -/

/-- A ticket for a port stands at stage 4 or later, in a run-ahead slot, or at the head of a lane queue. -/
def Dev.portWanted (d : Dev) (p : Fin 136) (later : Bool) : Bool :=
  d.pool.any (fun e => decide (portOfBridge e.2.desc.bridge.val = p) && e.2.cancelled.isNone &&
    (decide (e.2.stage = .runAhead) || decide (d.lanes[e.2.lane].queue.head? = some e.1) ||
      (later && (decide (e.2.stage = .turret) || decide (e.2.stage = .bursts) || decide (e.2.stage = .committed)))))

/-- The port of a bridge is free for collimation (R440, R441). -/
def Dev.collPortFree (d : Dev) (b : Fin 2176) : Bool :=
  let p := portOfBridge b.val
  let o := d.ports[p]
  match extOfBridge b.val with
  | none =>
    !(lanesOf (quadOfBridge b.val)).any (fun n => match d.lanes[n].closed with
      | some c => decide (portOfBridge c.val = p)
      | none => false) && !d.portWanted p true && decide (o.drive = .off) && o.pulse.isNone && !o.collimated
  | some (x, c, _) =>
    let m := d.xports[x]
    m.holder.isNone && !m.releasing && !o.collimated && m.items.all (fun i => i.why.lane.isNone) &&
      decide (d.cardState x c = 1)

/-- A run may start in quadrant q (R439), and none does while a HOLD goes on to HELD (R148). -/
def Dev.collOn (d : Dev) (q : Fin 4) : Bool :=
  decide (d.boot.phase = .run) && !d.boot.holding && d.quads[q].barrierUp && !d.quads[q].hotOff && d.bit .collCtrl q.val &&
    d.colls[q].run.isNone

/-- COLL_PERIOD has passed since the last run of a bridge started (R443). -/
def Dev.collDue (d : Dev) (q : Fin 4) (b : Fin 2176) : Bool :=
  match d.collStarts.find? (·.1 = b.val) with
  | none => true
  | some (_, t) => decide ((d.fld (.collPeriod q) 0 16) * 1000000 * 65536 + t ≤ d.clk.tau.toNat)

/-- When a bridge's last run started; one never run counts as older than any other. -/
def Dev.collAge (d : Dev) (b : Fin 2176) : Nat := match d.collStarts.find? (·.1 = b.val) with
  | none => 0
  | some (_, t) => t + 1

/-- A bridge is one the engine may choose by itself (R443 step 2). -/
def Dev.collCandidate (d : Dev) (q : Fin 4) (b : Fin 2176) : Bool :=
  decide (quadOfBridge b.val = q) && (fabricOf d.alm b.val).collimate && d.collPortFree b && d.collDue q b

/-- The bridge that quadrant q tests next may be `b` (R443). -/
def Dev.collChooses (d : Dev) (q : Fin 4) (b : Fin 2176) : Bool :=
  match d.colls[q].commanded with
  | some c => decide (c = b) && d.collPortFree b
  | none =>
    d.collCandidate q b && (List.finRange 2176).all (fun c =>
      decide (d.collAge b < d.collAge c) || (decide (d.collAge b = d.collAge c) && decide (b.val ≤ c.val)) ||
        !d.collCandidate q c)

/-! ### Runs -/

/-- Runs whose port a ticket wants are marked to yield (R444). -/
def Dev.collWatch (d : Dev) : Dev :=
  if d.bit .collCtrl 8 = false then d
  else forEach (List.finRange 4) (fun q d =>
    match d.colls[q].run with
    | some r => if d.portWanted (portOfBridge r.bridge.val) false then
        d.onColl q (fun c => { c with run := some { r with yielding := true } }) else d
    | none => d) d

/-- A run starts (R440, R441, R447, R451). -/
def Dev.collStart (d : Dev) (v : NonVolatile) (q : Fin 4) (b : Fin 2176) : Dev :=
  if d.collOn q && d.collChooses q b then
    let ext := extOfBridge b.val
    let step := if ext.isSome then 0 else 1
    let d := d.onColl q (fun c => { c with
      run := some { bridge := b, step := step, readings := [], window := v.windowRecord b.val }
      commanded := none, lastBridge := b.val, lastStep := if ext.isSome then c.lastStep else 1 })
    let d := (d.onPort (portOfBridge b.val) (fun p => { p with collimated := true }))
    let d := { d with collStarts := tins b.val d.clk.tau.toNat (tdel d.collStarts b.val) }
    match ext with
    | some (x, c, s) =>
      (d.wantBus x (connectItems c s (fabricOf d.alm b.val).dischargeUs (.coll q))).collWatch
    | none => d
  else d

/-- A reading within the meter's range (R448). -/
def meterReading (step : Nat) (w : Word) : Word :=
  if step = 7 then (if w.toNat < 100 then 0 else if 1000000 < w.toNat then beyond else w)
  else if 64000000 < w.toNat then beyond else w

/-- A step ends (R444, R447). -/
def Dev.collStepEnd (d : Dev) (q : Fin 4) (w : Word) : Dev :=
  match d.colls[q].run with
  | none => d
  | some r =>
    if r.step = 0 ∨ 7 < r.step then d
    else if r.yielding then (d.count .collAbandon 1).collRelease q r.bridge
    else
      d.onColl q (fun c => { c with
        run := some { r with step := r.step + 1, readings := r.readings ++ [meterReading r.step w] }
        lastStep := min (r.step + 1) 7 })

/-- The collimation FAULT record (R454, R455). Which of several items decided the cause is left open: a free value
chooses among them (log entry 2). -/
def Dev.collRecord (d : Dev) (b : Fin 2176) (faults : List CollFault) : Dev :=
  let (cause, items) := match faults with
    | [] => (0, [])
    | f :: _ => (f.code, f.items)
  let (i, d) := if items.length ≤ 1 then (0, d) else let (w, d) := d.takeFree; (w.toNat % items.length, d)
  let item := items.getD i (0, 0)
  d.handOverIf (d.bit .collCtrl 9)
    (d.mkRec .fault .collimation b.val (toFin 15 (d.fld .collCtrl 12 4)) 0
      (at_ cause 24 ||| at_ (collMask faults) 16 ||| at_ b.val 0) item.2 (at_ item.1 0))

/-- COLL_FAULTED bit of a bridge is set (R456). -/
def Dev.quarantine (d : Dev) (b : Fin 2176) : Dev :=
  let off := 0x1E1000 + 4 * (b.val / 32)
  let d := d.setWord off (d.word off ||| mkBit true (b.val % 32))
  d.cancelWhere (fun k => decide (k.desc.bridge = b) && (decide (k.stage = .queued) || decide (k.stage = .runAhead))) .fault

/-- The decision edge of a run (R450, R453 to R458). -/
def Dev.collDecide (d : Dev) (q : Fin 4) : Dev :=
  match d.colls[q].run with
  | none => d
  | some r =>
    if r.step ≠ 8 then d
    else
      let b := r.bridge
      let res := collResult r.readings
      let w := windowOf r.window
      let faults := if windowUsed r.window then collFaults w res else []
      let mask := collMask faults
      let d := forEach (List.finRange 4) (fun a d => d.wr (.collArm q a) (res.armWords.getD a.val beyond)) d
      let d := ((d.wr (.collLoopP q) (res.loops.getD 0 beyond)).wr (.collLoopN q) (res.loops.getD 1 beyond)).wr
        (.collLeak q) res.leak
      let d := (d.count (.collRuns q) 1).onColl q (fun c => { c with lastMask := mask })
      let d := if tget 0 d.collMasks b.val = mask then d else d.collRecord b faults
      let d := { d with collMasks := tset 0 d.collMasks b.val mask }
      let d := if mask ≠ 0 ∧ w.flags / 2 % 2 = 1 then d.quarantine b else d
      let d := if mask ≠ 0 ∧ w.flags / 4 % 2 = 1 then d.collTrip b else d
      d.collRelease q b

/-- A COLL_CMD write (R443, R460). -/
def Dev.writeCollCmd (d : Dev) (w : Word) : Result :=
  let n := Machine.fld w 0 12
  let b := toFin 2175 n
  let q := quadOfBridge b.val
  checked d (lowest [(decide (2175 < n), .range), (decide (n ≤ 2175) && d.colls[q].commanded.isSome, .busy)])
    (fun d => if Machine.bit w 31 then d.onColl q (fun c => { c with commanded := some b }) else d)

/-- A COLL_PERIOD write (R460). -/
def Dev.writeCollPeriod (d : Dev) (q : Fin 4) (w : Word) : Result :=
  checked d (lowest [(decide (Machine.fld w 0 16 = 0), .range)]) (fun d => d.wr (.collPeriod q) w)

/-- COLL_STATUS as it reads (Table 11.5). -/
def Dev.readCollStatus (d : Dev) (q : Fin 4) : Word :=
  let c := d.colls[q]
  mkBit c.run.isSome 31 ||| at_ (c.lastStep % 8) 28 |||
    mkBit ((xportsOf q).any (fun x => d.ports[toFin 135 (128 + x.val)].collimated)) 27 ||| at_ (c.lastMask % 32) 16 |||
    at_ c.lastBridge 0

end Sys2Proof.Machine
end

