-- ==== Sys2Proof/Machine/Ephem.lean ====
section
/-! DEFINITION. Axes as their edges, indexes and settings move them, and the schedule table (12_ephemeris.md). -/
namespace Sys2Proof.Machine

/-! ### Axis flags (R473) -/

/-- The entry in force of an axis. -/
def Dev.axisEntry (d : Dev) (a : Fin 8) : AxisEntry := axisOf d.alm a.val

/-- HOLD and STALL of an axis as R473 defines them on the present edge; a rise of STALL sets STALL_SEEN. -/
def Dev.axisLevels (d : Dev) (a : Fin 8) : Dev :=
  let stall := d.overdue a
  let d' := if stall && !d.axes[a].stall then d.setBits (.axStatus a) (mkBit true 18) else d
  d'.onAxis a (fun x => { x with hold := d.atClamp a, stall := stall })

/-- DISCONT of an axis is set (Table 12.5). -/
def Dev.discont (d : Dev) (a : Fin 8) : Dev := d.setBits (.axStatus a) (mkBit true 19)

/-! ### Edges (R468 to R477) -/

/-- The nearest edge position beyond a position in the direction of an edge, as its counts (R475). -/
def beyondEdge (n : Nat) (x : W48) (forward : Bool) : Nat × Nat :=
  let c := x.toNat / 2 ^ 24
  let f := x.toNat % 2 ^ 24
  let e := f * n / 2 ^ 24
  let at_ (i : Nat) : Nat := (roundDiv ((i : Int) * 2 ^ 24) n).toNat
  if forward then
    let i := if f < at_ e then e else if f < at_ (e + 1) then e + 1 else e + 2
    if i < n then (c, i) else ((c + 1) % 2 ^ 24, 0)
  else if at_ e < f then (c, e)
  else if e = 0 then ((c + 2 ^ 24 - 1) % 2 ^ 24, n - 1)
  else (c, e - 1)

/-- A source edge of an edge-driven axis with edge time `time` (R469, R470, R475). -/
def Dev.axisEdge (d : Dev) (a : Fin 8) (forward : Bool) (time : Int) : Dev :=
  let n := (d.axisEntry a).counts
  let x := d.axes[a]
  let (c, e) := if x.known = false then beyondEdge n x.held forward
    else if forward then edgeForward n x.c x.e else edgeReverse n x.c x.e
  let p := match x.last with
    | some t => if x.known && forward && x.forward && decide (0 < time - t) then some (time - t).toNat else none
    | none => none
  ((d.onAxis a (fun x => { x with
    c := c, e := e, known := true, last := some time, forward := forward, period := p })).axisLevels a).cyclePulses d

/-- Accepted levels of AX_A and AX_B (R476, R477). A change in SLEEP is not counted (R483). -/
def Dev.encoderLevels (d : Dev) (a : Fin 8) (la lb : Bool) : Dev :=
  let x := d.axes[a]
  let en := d.axisEntry a
  let d' := d.onAxis a (fun x => { x with lineA := la, lineB := lb })
  if en.source ≠ .encoder ∨ d.almValid = false ∨ d.clocked = false then d'
  else if la ≠ x.lineA ∧ lb ≠ x.lineB then d'.setBits (.axStatus a) (mkBit true 16)
  else if la = x.lineA ∧ lb = x.lineB then d'
  else
    let fwd := if la ≠ x.lineA then decide (la ≠ lb) else decide (la = lb)
    d'.axisEdge a (fwd != en.reverse) (d.clk.tau - (2 * d.period : Nat))

/-- A crossing on LINE_q accepted `age` after it happened (R472). -/
def Dev.lineCross (d : Dev) (q : Fin 4) (age : Int) : Dev :=
  if d.quads[q].barrierUp = false ∨ d.almValid = false then d
  else forEach (List.finRange 8) (fun a d =>
    if (d.axisEntry a).source = .line q then d.axisEdge a true (d.clk.tau - age) else d) d

/-- A capture event of chronograph n is an edge of the tach axes that name it (Table 12.1, R472). -/
def Dev.tachEdges (d : Dev) (n : Fin 64) (time : Int) : Dev :=
  if d.almValid = false then d
  else forEach (List.finRange 8) (fun a d =>
    if (d.axisEntry a).source = .tach n then d.axisEdge a true time else d) d

/-! ### Index and home (R478, R479) -/

/-- The cycle whose start lies nearest a position, the later one when two are equally near (R479). -/
def nearestCycle (x : W48) : Nat := (x.toNat / 2 ^ 24 + (if 2 ^ 24 ≤ 2 * (x.toNat % 2 ^ 24) then 1 else 0)) % 2 ^ 24

/-- The axis is homed (R479). -/
def Dev.axisHome (d : Dev) (a : Fin 8) : Dev :=
  let n := (d.axisEntry a).counts
  let d' := d.onAxis a (fun x =>
    if x.known then { x with c := if n ≤ 2 * x.e then (x.c + 1) % 2 ^ 24 else x.c, e := 0, homed := true, armed := false }
    else { x with c := nearestCycle x.held, e := 0, known := true, last := none, period := none, homed := true, armed := false })
  ((d'.discont a).axisLevels a).cyclePulses d

/-- An accepted rising edge of AX_I, on an axis that has edges to count (R478). -/
def Dev.axisIndex (d : Dev) (a : Fin 8) : Dev :=
  let x := d.axes[a]
  let mode := d.fld (.axCtrl a) 16 2
  if mode = 0 ∨ (d.axisEntry a).source.edgeDriven = false ∨ d.almValid = false then d
  else if x.known = false then d.axisHome a
  else if x.e = 0 then d.onAxis a (fun x => { x with homed := true, armed := x.armed && decide (mode ≠ 1) })
  else if mode = 1 then (if x.armed then d.axisHome a else d.setBits (.axStatus a) (mkBit true 17))
  else if x.armed then d.axisHome a
  else (d.setBits (.axStatus a) (mkBit true 17)).axisHome a

/-! ### Starting, changing and setting axes (R480 to R484) -/

/-- The start time that makes an internal axis stand at `s` on the present edge. -/
def Dev.startFor (d : Dev) (s : W48) : Int := 4 * d.clk.tau - (s.toNat : Int) * 15625

/-- An axis without a known edge at position `s` (R475). -/
def Axis.unknown (x : Axis) (s : W48) : Axis := { x with known := false, held := s, last := none, period := none, c := 0, e := 0 }

/-- An almanac is activated: every axis starts at position 0 (R480). -/
def Dev.axesActivate (d : Dev) : Dev :=
  forEach (List.finRange 8) (fun a d =>
    (d.onAxis a (fun x => { x.unknown 0 with
      start := d.startFor 0, est := false, homed := false, forward := true, prev := 0 })).axisLevels a) d

/-- An apply changes the axes whose entries differ; `old` is the device before the trigger edge (R481). -/
def Dev.axesApply (d old : Dev) : Dev :=
  forEach (List.finRange 8) (fun a d =>
    if entryOf d.alm.axes a.val = entryOf old.alm.axes a.val then d
    else
      let s := old.axisPos a
      ((d.onAxis a (fun x => { x.unknown s with start := d.startFor s, est := false })).discont a).axisLevels a) d

/-- The axes on the resume edge (R482, R483): `d` has τ advanced, `old` has not; `est` when the low-power oscillator timed
the sleep. -/
def Dev.axesResume (d old : Dev) (est : Bool) : Dev :=
  forEach (List.finRange 8) (fun a d =>
    match (d.axisEntry a).source with
    | .internal => d.onAxis a (fun x => { x with est := x.est || est })
    | .ring => d.discont a
    | _ => ((d.onAxis a (fun x => x.unknown (old.axisPos a))).discont a).axisLevels a) d

/-- Every internal axis sets EST (R462). -/
def Dev.axesEstimated (d : Dev) : Dev :=
  forEach (List.finRange 8) (fun a d =>
    if (d.axisEntry a).source = .internal then d.onAxis a (fun x => { x with est := true }) else d) d

/-- The counts whose edge position is a stamp, if any (R484). -/
def countsOf (n : Nat) (s : W48) : Option (Nat × Nat) :=
  let c := s.toNat / 2 ^ 24
  let f := s.toNat % 2 ^ 24
  let e := f * n / 2 ^ 24
  [e, e + 1].find? (fun i => decide (i < n) && decide (edgePos n c i = s)) |>.map (fun i => (c, i))

/-- A committed AX_SET write (R484). -/
def Dev.writeAxSet (d : Dev) (a : Fin 8) (s : W48) : Result :=
  let en := d.axisEntry a
  checked d (lowest [
    (en.source.edgeDriven && (countsOf en.counts s).isNone, .range), (decide (en.source = .ring), .state)])
    (fun d =>
      let e := d.wr48 (.axSet a) s
      let e := match en.source, countsOf en.counts s with
        | .internal, _ => e.onAxis a (fun x => { x with start := d.startFor s, est := false })
        | _, some (c, i) => e.onAxis a (fun x => { x with
            c := c, e := i, known := true, est := false
            last := if x.known then x.last else none, period := if x.known then x.period else none })
        | _, none => e
      ((e.discont a).axisLevels a).cyclePulses d)

/-- An AX_CTRL write: INDEX 0x3 is reserved (R15), INDEX is written (R478), and STALL_TOL takes effect (R473). -/
def Dev.writeAxCtrl (d : Dev) (a : Fin 8) (w : Word) : Result :=
  checked d (lowest [(decide (Machine.fld w 16 2 = 3), .range)])
    (fun d => ((d.wr (.axCtrl a) w).onAxis a (fun x => { x with armed := true })).axisLevels a)

/-! ### The schedule table (R485 to R493) -/

/-- The entry of a schedule index in force. -/
def Dev.schedEntry (d : Dev) (i : Nat) : TableEntry := tableOf d.alm i

/-- An entry is active (R485). -/
def Dev.schedActive (d : Dev) (i : Nat) : Bool := decide ((d.schedEntry i).action ≠ 0)

/-- What the table holds for an index. -/
def Dev.sched? (d : Dev) (i : Nat) : Option SchedEntry := (d.sched.find? (·.1 = i)).map (·.2)

/-- An entry of the table replaced. -/
def Dev.setSched (d : Dev) (i : Nat) (e : SchedEntry) : Dev := { d with sched := tins i e (tdel d.sched i) }

/-- A periodic entry whose due position is not later than its axis moves on without firing (R489). -/
def Dev.alignEntry (i : Nat) (d : Dev) : Dev :=
  match d.sched? i with
  | none => d
  | some e =>
    let t := d.schedEntry i
    let x := d.axisPos t.axis
    if t.period ≠ 0 ∧ atOrLater x e.due = true then
      let k := (x - e.due).toNat / t.period + 1
      d.setSched i { e with due := e.due + BitVec.ofNat 48 (k * t.period) }
    else d

/-- The due position of an entry is loaded from POSITION, or the entry goes when it is not active (R485, R487). -/
def Dev.loadEntry (i : Nat) (d : Dev) : Dev :=
  if d.schedActive i then d.setSched i { due := (d.schedEntry i).position }
  else { d with sched := tdel d.sched i }

/-- The table is loaded when an almanac is activated (R487). -/
def Dev.schedActivate (d : Dev) : Dev :=
  forEach (d.alm.table.map (·.1)) Dev.loadEntry { d with sched := [], schedRun := false }

/-- The entries of an apply that its image lists are loaded on the trigger edge (R487, R489). -/
def Dev.schedApply (d : Dev) (listed : List Nat) : Dev :=
  let d := forEach listed Dev.loadEntry d
  if d.bit .ephCtrl 0 && decide (d.boot.phase = .run) then forEach listed Dev.alignEntry d else d

/-- The table starts or restarts: the present edge is the first (R488, R492). A due entry that has not fired keeps its DEFER
(R490). -/
def Dev.schedRestart (d : Dev) : Dev :=
  { d with schedRun := true, sched := d.sched.map (fun e => (e.1, { e.2 with fresh := true })) }

/-- RELEASE starts the table, and aligns it when ALIGN is 1 (R114, R488, R489). -/
def Dev.schedStart (d : Dev) : Dev :=
  let d := d.schedRestart
  if d.bit .ephCtrl 0 then forEach (d.sched.map (·.1)) Dev.alignEntry d else d

/-- The table stops (R488). -/
def Dev.schedStop (d : Dev) : Dev := { d with schedRun := false }

/-- The table runs (R488). A SLEEP entry stops it when it stops the outputs (R177). -/
def Dev.schedRuns (d : Dev) : Bool := d.schedRun && decide (d.boot.phase = .run) && !d.outputsStopped

/-- An entry is due (R490). -/
def Dev.schedDue (d : Dev) (i : Nat) : Bool :=
  d.schedRuns && match d.sched? i with
    | some e => !e.spent && atOrLater (d.axisPos (d.schedEntry i).axis) e.due
    | none => false

/-- The indexes of the entries due on the present edge, in ascending order. -/
def Dev.dueEntries (d : Dev) : List Nat := (d.sched.map (·.1)).filter (fun i => d.schedDue i)

/-- The entries that may still fire on the present edge: the lowest, up to 8 on one edge (R490). -/
def Dev.firing (d : Dev) : List Nat := d.dueEntries.take (8 - d.fired)

/-- An entry of a higher INDEX that fires on the same edge decides the shutter line on which entry i acts (R494). -/
def Dev.overruled (d : Dev) (i : Nat) (t : TableEntry) : Bool :=
  d.firing.any (fun j =>
    let u := d.schedEntry j
    decide (i < j) && (decide (u.action = 2) || decide (u.action = 3)) && decide (Machine.fld u.arg 0 3 = Machine.fld t.arg 0 3))

/-- A TRANSIT record (R495). -/
def Dev.transitRecord (d : Dev) (i : Nat) (t : TableEntry) (due : W48) (late defer_ : Bool) (k : Nat) : Dev :=
  d.handOver (d.mkRec .transit .ephemeris i (toFin 15 (Machine.fld t.arg 0 4)) 0
    (at_ (Machine.fld t.arg 16 16) 16 ||| mkBit late 15 ||| mkBit defer_ 14 ||| mkBit d.axes[t.axis].stall 13 ||| at_ (i % 512) 0)
    (lo48 due) (at_ (min k 0xFFFF) 16 ||| hi48 due))

/-- The shutter window that an entry of ACTION 2 or 3 opens or closes (R494). -/
def Dev.windowAct (d : Dev) (i : Nat) (t : TableEntry) : Dev :=
  if (t.action ≠ 2 ∧ t.action ≠ 3) ∨ d.overruled i t = true then d
  else d.shutWindow (Machine.fld t.arg 0 3) (decide (t.action = 2))

/-- The action of a firing (Tables 12.2 and 12.3). -/
def Dev.schedAct (d : Dev) (i : Nat) (t : TableEntry) (due : W48) (late defer_ : Bool) (k : Nat) : Dev :=
  match t.action with
  | 1 => d.issue (Machine.fld t.arg 0 8)
  | 2 => d.windowAct i t
  | 3 => d.windowAct i t
  | 4 => forEach (List.finRange 32) (fun n d =>
      let o := d.outEntry n
      if Machine.bit t.arg n.val ∧ o.clkSrc = 2 ∧ o.clkArg = i then d.sampleEvent n else d) d
  | 5 =>
    let n := toFin 63 (Machine.fld t.arg 0 6)
    if d.chrOff n then d else d.chrArmOne n
  | 6 => d.transitRecord i t due late defer_ k
  | 7 => d.post (.urgent (Machine.fld t.arg 8 2) (Machine.fld t.arg 0 8) (Machine.fld t.arg 16 8))
  | _ => d

/-- An entry fires (R491, R492). Its action sees the entries that fire on the same edge after it (R494). -/
def Dev.schedFire (d : Dev) (i : Nat) : Dev :=
  match d.sched? i with
  | none => d
  | some e =>
    let t := d.schedEntry i
    let x := d.axisPos t.axis
    let late := if e.fresh then laterThan x e.due else atOrLater d.axes[t.axis].prev e.due
    let k := if t.period = 0 then 0 else (x - e.due).toNat / t.period
    let d := d.setSched i { e with
      spent := decide (t.period = 0), due := if t.period = 0 then e.due else e.due + BitVec.ofNat 48 ((k + 1) * t.period)
      late := late, defer_ := e.deferred, deferred := false, skips := min (e.skips + k) 0xFFFF
      fires := min (e.fires + 1) 0xFFFFFFFF }
    let d := (d.count .ephFires 1).count .ephSkips k
    let d := d.setBits .ephStatus (mkBit late 16 ||| mkBit e.deferred 17)
    let d : Dev := { d with fired := d.fired + 1 }
    d.schedAct i t e.due late e.deferred k

/-- The entries that are due and have not fired when the edge ends carry DEFER when they fire (R490). -/
def Dev.deferEntries (d : Dev) : Dev :=
  let due := d.dueEntries
  { d with sched := d.sched.map (fun e => (e.1, { e.2 with deferred := e.2.deferred || decide (e.1 ∈ due) })) }

/-- What a CCLK edge leaves behind for the lateness test (R492). -/
def Dev.ephEdge (d : Dev) : Dev :=
  let d' := forEach (List.finRange 8) (fun a e => e.onAxis a (fun x => { x with prev := d.axisPos a })) d
  { d' with sched := d'.sched.map (fun e => (e.1, { e.2 with fresh := false })) }

/-! ### Register reads -/

/-- EPH_STATUS as it reads (Table 12.5). -/
def Dev.readEphStatus (d : Dev) : Word :=
  d.rd .ephStatus ||| mkBit d.schedRuns 31 ||| at_ (d.sched.filter (fun e => !e.2.spent)).length 0

/-- The SOURCE code of an axis (Table 12.1). -/
def AxisSource.code : AxisSource → Nat
  | .internal => 0
  | .encoder => 1
  | .line _ => 2
  | .ring => 3
  | .tach _ => 4

/-- AX_STATUS as it reads (Table 12.5). -/
def Dev.readAxStatus (d : Dev) (a : Fin 8) : Word :=
  let x := d.axes[a]
  d.rd (.axStatus a) ||| mkBit (d.axisEst a) 12 ||| mkBit x.homed 11 ||| mkBit (!x.forward) 10 ||| mkBit x.stall 9 |||
    mkBit x.hold 8 ||| at_ (d.axisEntry a).source.code 0

/-- AX_PERIOD as it reads (Table 12.5): P in ns. -/
def Dev.readAxPeriod (d : Dev) (a : Fin 8) : Word :=
  match d.axes[a].period with
  | some p =>
    let ns := roundDiv p 65536
    if ns ≤ 4294967294 then BitVec.ofInt 32 ns else 0xFFFFFFFF
  | none => 0xFFFFFFFF

/-- EPH_ESTATE as it reads (Table 12.5). -/
def Dev.readEState (d : Dev) (i : Nat) : Word :=
  match d.sched? i with
  | some e => mkBit e.spent 31 ||| mkBit true 30 ||| mkBit e.late 29 ||| mkBit e.defer_ 28 ||| at_ e.skips 0
  | none => 0

/-- EPH_EFIRES as it reads (Table 12.5). -/
def Dev.readEFires (d : Dev) (i : Nat) : Word := match d.sched? i with
  | some e => at_ e.fires 0
  | none => 0

/-- EPH_DUE (R487). -/
def Dev.schedDuePos (d : Dev) (i : Nat) : W48 := match d.sched? i with
  | some e => e.due
  | none => 0

end Sys2Proof.Machine
end

