-- ==== Sys2Proof/Machine/Wake.lean ====
section
/-! DEFINITION. System records and wake events (04_clocks_power_heat.md, R167, R182, R186, R188). -/
namespace Sys2Proof.Machine

/-- A CLOCK_CHANGE, WAKE or THERMAL record is written while SYS_LOG EN is 1 (R167). -/
def Dev.sysRecord (d : Dev) (ty : RecType) (cls : SrcClass) (idx : Nat) (spec w5 w6 w7 : Word) : Dev :=
  d.handOverIf (d.bit .sysLog 31) (d.mkRec ty cls idx (toFin 15 (d.fld .sysLog 0 4)) spec w5 w6 w7)

/-- A WAKE record with a ledger value (R186, R679). -/
def Dev.wakeRecord (d : Dev) (ledger : Nat) (aborted catchUp : Bool) : Dev :=
  d.sysRecord .wake .system 0
    (mkBit aborted 11 ||| mkBit catchUp 10 ||| mkBit (d.bit .wakeStatus 8) 9 ||| mkBit (d.bit .sleepCtrl 2) 8 |||
      at_ (d.fld .wakeStatus 0 6) 0)
    (at_ ledger 0) (at_ (ledger / 2 ^ 32 % 2 ^ 16) 0) (d.rd .lpoPeriod)

/-- The wake event's WAKE_EN bit is 1, and what else Table 4.5 asks of it holds (R182). -/
def Dev.wakeEnabled (d : Dev) (ev : Fin 6) : Bool :=
  (decide (ev.val = 0) || d.bit .sleepCtrl (8 + ev.val)) &&
    (decide (ev.val ≠ 3) || d.bit .sleepCtrl 3) && (decide (ev.val ≠ 1) || decide (d.rd48 .ledgerAlarm ≠ 0))

/-- A wake event: it starts the exit from SLEEP (R182), or ends an entry that has not taken its freeze edge (R188). -/
def Dev.wakeEvent (d : Dev) (ev : Fin 6) : Dev :=
  if d.wakeEnabled ev = false then d
  else if d.boot.phase = .sleep then
    (d.setBits .wakeStatus (mkBit true ev.val)).onClk (fun c => { c with waking := true })
  else if d.boot.sleeping then
    let d := (d.setBits .wakeStatus (mkBit true ev.val)).onBoot (fun b => { b with sleeping := false })
    (d.schedRestart).wakeRecord 0 true false
  else d

end Sys2Proof.Machine
end

