-- ==== Sys2Proof/Machine/Link.lean ====
section
/-! DEFINITION. The Floper link: ports, frames, forwarding and acceptance, urgent frames, ring time, node IDs, enumeration
and census, mailbox, and the sending side of remote access and link boot (18_floper_link.md). -/
namespace Sys2Proof.Machine

/-! ### Checks and frames (R696, R697, Tables 18.1 to 18.4) -/

/-- The bits of bytes in the order they are sent. -/
def bitsOf (bs : List Byte) : List Bool := bs.flatMap byteBits

/-- CRC-8 of the link (R697). -/
def crc8 (bs : List Byte) : Byte := BitVec.ofNat 8 (crcOver 8 0x07 0xFF (bitsOf bs))

/-- CRC-16 of the link (R697). -/
def crc16 (bs : List Byte) : BitVec 16 := BitVec.ofNat 16 (crcOver 16 0x1021 0xFFFF (bitsOf bs))

/-- Bytes 0 to 4 of an urgent frame (Table 18.2). -/
def UrgentFrame_head (f : UrgentFrame) : List Byte := [f.kind, f.code, f.origin, f.target, f.seq]

/-- The bytes after the lead symbol of an urgent frame. -/
def urgentBytes (f : UrgentFrame) : List Byte := UrgentFrame_head f ++ [f.crc, f.hops]

/-- The bytes of a beacon that its check covers: RHO, CORR and TK. -/
def beaconHead (rho : BitVec 64) (corr : Word) (tk : Byte) : List Byte :=
  leBytes 8 rho.toNat ++ leBytes 4 corr.toNat ++ [tk]

/-- The bytes after the lead symbol of a beacon. -/
def beaconBytes (rho : BitVec 64) (corr : Word) (tk hops : Byte) : List Byte :=
  let h := beaconHead rho corr tk
  h ++ [hops] ++ leBytes 2 (crc16 h).toNat

/-- The normal frame types (Table 18.4). -/
inductive FrameType where
  | rraReq | rraResp | mbox | mboxAck | bootData | bootAck | enum | census | censusDone | ringOpen
  deriving DecidableEq, Repr

/-- The code of a frame type (Table 18.4). -/
def FrameType.code : FrameType → Byte
  | .rraReq => 1
  | .rraResp => 2
  | .mbox => 3
  | .mboxAck => 4
  | .bootData => 5
  | .bootAck => 6
  | .enum => 7
  | .census => 8
  | .censusDone => 9
  | .ringOpen => 10

/-- Header and payload of a normal frame (Table 18.3). -/
def normalHead (ty : FrameType) (f : NormalFrame) : List Byte :=
  [ty.code, f.flags, f.origin, f.dest] ++ leBytes 2 f.seq.toNat ++ leBytes 2 f.payload.length ++ leBytes 4 f.arg.toNat ++
    f.payload

/-- The bytes of a normal frame between its lead symbol and its end symbol. -/
def normalBytes (ty : FrameType) (f : NormalFrame) : List Byte := normalHead ty f ++ leBytes 4 f.crc.toNat

/-- A normal frame passes its check and its length is legal (R696, Table 18.3). -/
def normalOk (ty : FrameType) (f : NormalFrame) : Bool :=
  decide (crc32 (normalHead ty f) = f.crc) && decide (f.payload.length ≤ 256) && decide (f.payload.length % 4 = 0)

/-! ### Symbols (Table 18.1) -/

/-- An urgent frame with its lead symbol. -/
def urgentSymbols (f : UrgentFrame) : List LinkSymbol := .k28_2 :: (urgentBytes f).map .data

/-- A beacon with its lead symbol. -/
def beaconSymbols (rho : BitVec 64) (corr : Word) (tk hops : Byte) : List LinkSymbol :=
  .k28_6 :: (beaconBytes rho corr tk hops).map .data

/-- A DELAY_REQ with its lead symbol. -/
def delayReqSymbols (seq : Byte) : List LinkSymbol := [.k28_3, .data seq, .data (crc8 [seq])]

/-- A DELAY_RESP with its lead symbol; `h` is what its check covers. -/
def delayRespSymbols (h : List Byte) : List LinkSymbol := .k28_4 :: (h ++ [crc8 h]).map .data

/-- A normal frame between its lead symbol and its end symbol. -/
def normalSymbols (ty : FrameType) (f : NormalFrame) : List LinkSymbol := .k27_7 :: (normalBytes ty f).map .data ++ [.k29_7]

/-! ### Ports (R690 to R694) -/

/-- The number of a port in the per-port registers (18_floper_link.md, Registers). -/
def portNo : LinkPort → Fin 2
  | .east => 0
  | .west => 1

/-- The other port. -/
def otherPort : LinkPort → LinkPort
  | .east => .west
  | .west => .east

/-- The side of a port. -/
def Link.side (l : Link) : LinkPort → LinkSide
  | .east => l.east
  | .west => l.west

/-- A side changed by a function. -/
def Link.onSide (l : Link) (e : LinkPort) (f : LinkSide → LinkSide) : Link :=
  match e with
  | .east => { l with east := f l.east }
  | .west => { l with west := f l.west }

/-- A port of the device changed by a function. -/
def Dev.onSide (d : Dev) (e : LinkPort) (f : LinkSide → LinkSide) : Dev := d.onLink (fun l => l.onSide e f)

/-- A port is enabled (R693). -/
def Dev.portEnabled (d : Dev) (e : LinkPort) : Bool :=
  !d.link.byAlmanac ||
    (!d.bit .pdCtrl 1 && match e with
      | .east => (linkOf d.alm).eastEn
      | .west => (linkOf d.alm).westEn)

/-- An enabled port runs in the present device state (R693). -/
def Dev.linkLive (d : Dev) (e : LinkPort) : Bool :=
  d.portEnabled e && match d.boot.phase with
    | .off => false
    | .inReset => false
    | .sleep => d.bit .sleepCtrl 3
    | _ => true

/-- The hop delay d of a port in 1/16 ns, when known (R710). -/
def LinkSide.delay (s : LinkSide) : Option Int :=
  if s.delays = [] then none else some (roundDiv (s.delays.foldl (· + ·) 0) (2 * s.delays.length))

/-- LK_PORT_DELAY as it reads (Table 18.9). -/
def LinkSide.delayWord (s : LinkSide) : Word := match s.delay with
  | some v => BitVec.ofInt 32 v
  | none => 0xFFFFFFFF

/-- A frame leaves on a port, or is discarded there when the port is not UP (R694). -/
def Dev.sendOn (d : Dev) (e : LinkPort) (l : List LinkSymbol) : Dev :=
  if (d.link.side e).up then d.emit (.linkFrame e l) else d

/-- A frame leaves on both ports (R699). -/
def Dev.sendBoth (d : Dev) (l : List LinkSymbol) : Dev := (d.sendOn .east l).sendOn .west l

/-! ### LINK records (R683, R735, Table 18.7) -/

/-- The events of LINK records (R683). -/
inductive LinkEvent where
  | portUp | portDown | ringClosed | ringOpen | nodeIdSet | mailbox | alignLost | alignOk
  deriving DecidableEq, Repr

/-- The code of a LINK event (R683). -/
def LinkEvent.code : LinkEvent → Nat
  | .portUp => 1
  | .portDown => 2
  | .ringClosed => 3
  | .ringOpen => 4
  | .nodeIdSet => 5
  | .mailbox => 6
  | .alignLost => 7
  | .alignOk => 8

/-- A LINK record while LOG_EN is 1 (R735). -/
def Dev.linkRecord (d : Dev) (ev : LinkEvent) (idx node : Nat) (w6 w7 : Word) : Dev :=
  d.handOverIf (d.bit .lkCtrl 27)
    (d.mkRec .link .link idx (toFin 15 (d.fld .lkCtrl 28 4)) 0 (at_ ev.code 24 ||| at_ (node % 65536) 0) w6 w7)

/-- A node number as records show it: 0xFFFF when there is none. -/
def nodeField (n : Option Nat) : Nat := n.getD 0xFFFF

/-- This node's own ID, when valid (R718). -/
def Dev.ownNode (d : Dev) : Option Nat := if d.link.idValid then some d.link.node else none

/-! ### Originating frames (R699, R704, R705, R719) -/

/-- One slot between urgent frames of this node: 128 ns in units of 2^-16 ns (R705). -/
def urgentGap : Int := 128 * 65536

/-- An urgent frame of this node leaves, with the next SEQ (R699, R704); the next one may start a slot later (R705). -/
def Dev.startUrgent (d : Dev) (kind code target : Nat) : Dev :=
  let f : UrgentFrame :=
    { kind := BitVec.ofNat 8 kind, code := BitVec.ofNat 8 code, origin := BitVec.ofNat 8 d.link.node
      target := BitVec.ofNat 8 target, seq := BitVec.ofNat 8 d.link.urgentSeq, crc := 0, hops := 0 }
  let f := { f with crc := crc8 (UrgentFrame_head f) }
  (d.onLink (fun l => { l with
    urgentSeq := (l.urgentSeq + 1) % 256, urgentSent := min (l.urgentSent + 1) 128
    urgentFree := d.clk.tau + urgentGap })).sendBoth (urgentSymbols f)

/-- An urgent frame of this node leaves, waits behind up to 127 others, or is dropped (R699, R705, R719). -/
def Dev.sendUrgent (d : Dev) (kind code target : Nat) : Dev :=
  if d.link.idValid = false then d
  else if d.link.urgentWait = [] ∧ d.link.urgentFree ≤ d.clk.tau then d.startUrgent kind code target
  else if d.link.urgentWait.length < 128 then
    d.onLink (fun l => { l with urgentWait := l.urgentWait ++ [(kind, code, target)] })
  else d.count .lkUrgDrop 1

/-- The first urgent frame that waits leaves once its slot has come (R705); a node that has lost its ID sends none (R719). -/
def Dev.urgentSlot (d : Dev) : Dev :=
  match d.link.urgentWait with
  | [] => d
  | (kind, code, target) :: t =>
    if d.clk.tau < d.link.urgentFree then d
    else
      let d := d.onLink (fun l => { l with urgentWait := t })
      if d.link.idValid then d.startUrgent kind code target else d

/-- The next normal frame of this node, completed with its SEQ and CRC-32 (R704). -/
def Dev.nextNormal (d : Dev) (ty : FrameType) (bcast last : Bool) (dest : Nat) (arg : Word) (payload : List Byte) :
    NormalFrame × Dev :=
  let f : NormalFrame :=
    { flags := (mkBit bcast 0 ||| mkBit last 1).setWidth 8, origin := BitVec.ofNat 8 d.link.node
      dest := if bcast then 0 else BitVec.ofNat 8 dest, seq := BitVec.ofNat 16 d.link.normalSeq, arg := arg
      payload := payload, crc := 0 }
  ({ f with crc := crc32 (normalHead ty f) },
    d.onLink (fun l => { l with normalSeq := (l.normalSeq + 1) % 65536, normalSent := min (l.normalSent + 1) 128 }))

/-- A normal frame of this node leaves on both ports (R699); a node without a valid ID sends none (R719). -/
def Dev.sendNormal (d : Dev) (ty : FrameType) (bcast last : Bool) (dest : Nat) (arg : Word) (payload : List Byte) : Dev :=
  if d.link.idValid = false then d
  else
    let (f, d) := d.nextNormal ty bcast last dest arg payload
    d.sendBoth (normalSymbols ty f)

/-- An ENUM or CENSUS of this node leaves on EAST only (R699). -/
def Dev.sendEast (d : Dev) (ty : FrameType) (arg : Word) : Dev :=
  if d.link.idValid = false then d
  else
    let (f, d) := d.nextNormal ty true false 0 arg []
    d.sendOn .east (normalSymbols ty f)

/-! ### Receiving (R700 to R703) -/

/-- A received frame fails its check: it is counted, and a remote access that is outstanding has met a failure (R700, R731). -/
def Dev.checkFails (d : Dev) (e : LinkPort) : Dev :=
  (d.countFld (.lkPortErr (portNo e)) 16 16 1).onLink (fun l => { l with
    access := l.access.map (fun a => { a with failed := true }) })

/-- A frame with this node's own ORIGIN sets DUP_ID when its SEQ is not among the last 128 sent in its class (R703). -/
def Dev.dupCheck (d : Dev) (modulus next sent seq : Nat) : Dev :=
  if (next + modulus - 1 - seq) % modulus < min sent 128 then d else d.setBits .lkStatus (mkBit true 19)

/-- The acceptance test of R702 against the last SEQ accepted from an origin. -/
def seqNew (seen : List (Nat × Nat)) (origin seq modulus : Nat) : Bool :=
  match seen.find? (·.1 = origin) with
  | none => true
  | some (_, l) =>
    let x := (seq + modulus - l) % modulus
    decide (1 ≤ x) && decide (x ≤ modulus / 2 - 1)

/-- The acceptance tables are cleared (R702). -/
def Dev.clearSeen (d : Dev) : Dev := d.onLink (fun l => { l with urgentSeen := [], normalSeen := [] })

/-- A frame names this node as its origin. -/
def Dev.isOwn (d : Dev) (origin : Byte) : Bool := d.link.idValid && decide (origin.toNat = d.link.node)

/-! ### Urgent frames (R701, R702, R707, R708) -/

/-- The kinds of urgent frame (Table 18.2). -/
inductive UrgentKind where
  | trigger | blank | clear | issue | trip | wake
  deriving DecidableEq, Repr

/-- The code of an urgent kind (Table 18.2). -/
def UrgentKind.code : UrgentKind → Nat
  | .trigger => 0
  | .blank => 1
  | .clear => 2
  | .issue => 3
  | .trip => 4
  | .wake => 5

/-- ALL of a WAKE frame (Table 18.2). -/
def urgentAll (f : UrgentFrame) : Bool := f.kind.getLsbD 7

/-- The frame is directed to one node, which does not forward it (R701). -/
def urgentDirected (k : UrgentKind) (f : UrgentFrame) : Bool :=
  decide (k = .issue) || (decide (k = .wake) && !urgentAll f)

/-- An accepted urgent frame acts (R708, Table 18.6). An ISSUE that comes in SLEEP is dropped and counted, as in any state but RUN
(R375; log entry 127). -/
def Dev.urgentAct (d : Dev) (k : UrgentKind) (f : UrgentFrame) : Dev :=
  let c := f.code.toNat
  let field := decide (d.boot.phase = .held) || decide (d.boot.phase = .run) || decide (d.boot.phase = .safe)
  let toMe := decide (f.target.toNat = d.link.node)
  match k with
  | .trigger => if d.boot.phase = .run then d.linkTriggers c else d
  | .blank => if field && decide (c < 8) && d.bit .lkRx c then d.shutLink c true else d
  | .clear => if field && decide (c < 8) && d.bit .lkRx c then d.shutLink c false else d
  | .issue => if toMe then d.peerIssue c else d
  | .trip => if field && decide (c < 8) then d.remoteTrip c else d
  | .wake => if urgentAll f || toMe then d.wakeEvent 3 else d

/-- The KIND of an urgent frame is a reserved one (Table 18.2): the frame is forwarded, and acted on by nobody (R701; log entry
100). -/
def urgentReserved (f : UrgentFrame) : Bool := decide (6 ≤ f.kind.toNat % 16)

/-- An urgent frame arrives on port `e` by the row of kind `k` (R700 to R703, R708, R719): one of that kind or of a reserved one. A
frame of another kind, which has a row of its own, changes nothing. -/
def Dev.takeUrgent (d : Dev) (e : LinkPort) (k : UrgentKind) (f : UrgentFrame) : Dev :=
  if d.linkLive e = false then d
  else if crc8 (UrgentFrame_head f) ≠ f.crc then d.checkFails e
  else if f.kind.toNat % 16 ≠ k.code ∧ urgentReserved f = false then d
  else
    let own := d.isOwn f.origin
    let stop := own || (d.link.idValid && !urgentReserved f && urgentDirected k f && decide (f.target.toNat = d.link.node)) ||
      decide (f.hops = 255)
    let new := seqNew d.link.urgentSeen f.origin.toNat f.seq.toNat 256
    let d := if own then d.dupCheck 256 d.link.urgentSeq d.link.urgentSent f.seq.toNat else d
    let d := if stop then d else d.sendOn (otherPort e) (urgentSymbols { f with hops := f.hops + 1 })
    if own || !new || !d.link.idValid then d
    else
      let d := d.onLink (fun l => { l with
        urgentSeen := tins f.origin.toNat f.seq.toNat (tdel l.urgentSeen f.origin.toNat) })
      if urgentReserved f then d else d.urgentAct k f

/-! ### Normal frames (R701 to R703) -/

/-- A normal frame is directed to one node. -/
def normalDirected (f : NormalFrame) : Bool := !f.flags.getLsbD 0

/-- A normal frame passes its check: it is counted, forwarded when `relay` says how, and noted as accepted. Answers
whether this node acts on it (R700 to R703, R719, R736). -/
def Dev.passNormal (d : Dev) (e : LinkPort) (f : NormalFrame) (relay : Option (List LinkSymbol)) : Bool × Dev :=
  let own := d.isOwn f.origin
  let mine := d.link.idValid && (!normalDirected f || decide (f.dest.toNat = d.link.node))
  let d := if own then d.dupCheck 65536 d.link.normalSeq d.link.normalSent f.seq.toNat else d
  let d := match relay with
    | some bs => if own || (mine && normalDirected f) then d else d.sendOn (otherPort e) bs
    | none => d
  let new := seqNew d.link.normalSeen f.origin.toNat f.seq.toNat 65536
  if own || !new then (false, d)
  else
    let d := d.onLink (fun l => { l with
      normalSeen := tins f.origin.toNat f.seq.toNat (tdel l.normalSeen f.origin.toNat) })
    (mine && decide (d.boot.phase ≠ .sleep), d)

/-- A normal frame of type `ty` arrives; `act` is what an accepting node does. -/
def Dev.takeNormal (d : Dev) (e : LinkPort) (ty : FrameType) (f : NormalFrame) (act : Dev → Dev) : Dev :=
  if d.linkLive e = false then d
  else if normalOk ty f = false then d.checkFails e
  else
    let (mine, d) := d.passNormal e f (some (normalSymbols ty f))
    if mine then act d else d

/-! ### Ring time (R710 to R717) -/

/-- This node is the timekeeper and sends beacons (R711, R717). -/
def Dev.isTimekeeper (d : Dev) : Bool := d.almValid && (linkOf d.alm).timekeeper && !d.link.yielded

/-- The axes that follow ring time set DISCONT (R714). -/
def Dev.ringDiscont (d : Dev) : Dev :=
  forEach (List.finRange 8) (fun a d => if (d.axisEntry a).source = .ring then d.discont a else d) d

/-- ALIGNED falls (R715), with a cause of Table 18.7; nothing happens while it is 0. -/
def Dev.alignLost (d : Dev) (cause : Nat) : Dev :=
  let d' := d.onLink (fun l => { l with aligned := false, good := 0 })
  if d.link.aligned then
    (d'.setBits .lkStatus (mkBit true 16)).linkRecord .alignLost 2 d.link.tkNode (at_ cause 0)
      (d.rd .lkCorr)
  else d'

/-- 1 ns and 10 µs in units of 2^-16 ns. -/
def ns (k : Int) : Int := k * 65536

/-- Ring time is corrected by the error `e`, in 2^-16 ns (R714). -/
def Dev.correctRho (d : Dev) (e : Int) : Dev :=
  if d.link.fresh ∨ e < -ns 1000000 then
    ((d.onLink (fun l => { l with rho := l.rho + e, mode := .running 0 0, fresh := false })).ringDiscont).alignLost 3
  else if ns 5 < e then
    ((d.onLink (fun l => { l with rho := l.rho + e, mode := .running 0 0 })).ringDiscont).alignLost 1
  else if e < -ns 5 then
    ((d.onLink (fun l => { l with mode := .holding (l.rho + e) })).ringDiscont).alignLost 2
  else d.onLink (fun l => { l with mode := .running e (ns 10000).toNat })

/-- The sixteenth good beacon in a row sets ALIGNED (R715). -/
def Dev.alignCount (d : Dev) (e : Int) (hops : Nat) : Dev :=
  if e.natAbs ≤ 65536 then
    let d := d.onLink (fun l => { l with good := min (l.good + 1) 16 })
    if d.link.good = 16 ∧ d.link.aligned = false then
      (d.onLink (fun l => { l with aligned := true })).linkRecord .alignOk 2 d.link.tkNode (at_ hops 0)
        (d.rd .lkCorr)
    else d
  else d.onLink (fun l => { l with good := 0 })

/-- A copy of a beacon, by HOPS and port, is no worse than another one of it (R713). -/
def noWorse (a b : Nat × LinkPort) : Bool :=
  decide (a.1 < b.1) || (decide (a.1 = b.1) && (decide (a.2 = .east) || decide (b.2 = .west)))

/-- The error of ring time that a copy shows at its arrival, in 2^-16 ns (R713). -/
def Dev.beaconErr (d : Dev) (e : LinkPort) (f : BeaconFrame) : Int :=
  let rhoB : Int := (f.rho.toNat : Int) + f.corr.toNat + (((d.link.side e).delay).getD 0)
  rhoB * 4096 - (d.link.rho - (f.age : Int) * 4096)

/-- A beacon copy is adopted (R713 to R715, R717); `err` is its error. -/
def Dev.adopt (d : Dev) (f : BeaconFrame) (err : Int) : Dev :=
  let old := d
  let d := if d.isTimekeeper then
      (d.setBits .lkStatus (mkBit true 18)).onLink (fun l => { l with yielded := true })
    else d
  let d := d.onLink (fun l => { l with tkNode := f.tk.toNat, tkHops := f.hops.toNat, adopted := true, spare := none })
  let d := (d.wr .lkCorr (BitVec.ofInt 32 (roundDiv err 4096))).correctRho err
  ((d.alignCount err f.hops.toNat).post (.pulse 0x78)).cyclePulses old

/-- A copy from another timekeeper than the one followed is to be adopted at once: this node follows none, or the copy is from a lower
TK, or the one followed has sent nothing for two beacon periods and so does not send any more (R711, R713, R717; log entry 101). -/
def Dev.newTimekeeper (d : Dev) (tk : Nat) : Bool :=
  let l := d.link
  if d.isTimekeeper then decide (tk < l.node)
  else !l.adopted || decide (tk < l.tkNode) || (decide (l.tkNode < tk) && decide (l.heardAt + ns 20000 < d.clk.tau))

/-- A copy from the timekeeper followed belongs to a newer beacon than the last one, or to a timekeeper that has started anew, whose
ring time lies more than 1 ms back (R713, R714). -/
def Dev.newBeacon (d : Dev) (e : LinkPort) (f : BeaconFrame) : Bool :=
  let x := (f.rho - BitVec.ofNat 64 d.link.lastRho).toNat
  (decide (0 < x) && decide (x < 2 ^ 63)) || decide (d.beaconErr e f < -ns 1000000)

/-- A beacon of which no copy has been adopted gives way to the next one: the copy at hand is adopted (R713). -/
def Dev.adoptSpare (d : Dev) : Dev :=
  match d.link.spare with
  | some (f, _, err) => d.adopt f err
  | none => d

/-- A copy is adopted when it is no worse than `want`; else it is kept until a better one or the next beacon comes. -/
def Dev.adoptOrKeep (d : Dev) (e : LinkPort) (f : BeaconFrame) (want : Nat × LinkPort) : Dev :=
  if noWorse (f.hops.toNat, e) want then d.adopt f (d.beaconErr e f)
  else d.onLink (fun l => { l with spare := some (f, e, d.beaconErr e f) })

/-- A copy that may be adopted arrives. One copy of each beacon is (R713): the best one, as the copies of the beacon before tell which
that is (log entry 101). A copy of a beacon older than the last one is a second copy, and is not. -/
def Dev.takeCopy (d : Dev) (e : LinkPort) (f : BeaconFrame) : Dev :=
  let rank := (f.hops.toNat, e)
  let newest (d : Dev) (want : Nat × LinkPort) : Dev :=
    d.onLink (fun l => { l with lastRho := f.rho.toNat, seen := rank, want := want, heardAt := d.clk.tau })
  if d.newTimekeeper f.tk.toNat then ((newest d rank).adopt f (d.beaconErr e f))
  else if d.isTimekeeper = true ∨ f.tk.toNat ≠ d.link.tkNode then d
  else if f.rho.toNat = d.link.lastRho then
    let d := d.onLink (fun l => { l with seen := if noWorse rank l.seen then rank else l.seen })
    match d.link.spare with
    | none => d
    | some (g, e', _) =>
      if noWorse rank d.link.want then d.adopt f (d.beaconErr e f)
      else if noWorse rank (g.hops.toNat, e') then d.onLink (fun l => { l with spare := some (f, e, d.beaconErr e f) })
      else d
  else if d.newBeacon e f then
    let want := d.link.seen
    (newest d.adoptSpare want).adoptOrKeep e f want
  else d

/-- A beacon copy arrives (R700, R701, R712, R713, R719, R736). -/
def Dev.takeBeacon (d : Dev) (e : LinkPort) (f : BeaconFrame) : Dev :=
  if d.linkLive e = false then d
  else if crc16 (beaconHead f.rho f.corr f.tk) ≠ f.crc then d.checkFails e
  else
    let own := d.isOwn f.tk
    let d := if own || decide (f.hops = 255) then d
      else d.sendOn (otherPort e) (beaconSymbols f.rho
        (f.corr + BitVec.ofInt 32 ((((d.link.side e).delay).getD 0) + f.residence)) f.tk (f.hops + 1))
    if own || !d.link.idValid || decide (d.boot.phase = .sleep) then d else d.takeCopy e f

/-- One CCLK edge of ring time (R711, R714). -/
def Dev.linkTick (d : Dev) (p : Nat) : Dev :=
  if d.isTimekeeper then d.onLink (fun l => { l with rho := d.clk.tau })
  else
    match d.link.mode with
    | .waiting => d
    | .running s left =>
      let δ := if left ≤ p then s else s * p / left
      d.onLink (fun l => { l with rho := max l.rho (l.rho + p + δ), mode := .running (s - δ) (left - p) })
    | .holding g =>
      if d.link.rho ≤ g + p then d.onLink (fun l => { l with rho := g + p, mode := .running 0 0 })
      else d.onLink (fun l => { l with mode := .holding (g + p) })

/-- This node sends beacons (R711, R719, R736). -/
def Dev.sendsBeacons (d : Dev) : Bool := d.isTimekeeper && d.link.idValid && decide (d.boot.phase ≠ .sleep)

/-- The timekeeper sends a beacon (R711). -/
def Dev.beaconOut (d : Dev) : Dev :=
  if d.sendsBeacons then
    d.sendBoth (beaconSymbols (BitVec.ofInt 64 (roundDiv d.link.rho 4096)) 0 (BitVec.ofNat 8 d.link.node) 0)
  else d

/-- No beacon has been adopted, or sent as timekeeper, for 100 µs (R715, R737). -/
def Dev.beaconLost (d : Dev) : Dev :=
  if d.isTimekeeper then d else (d.alignLost 0).onLink (fun l => { l with adopted := false, spare := none })

/-- Code violations that a port has met, at least `least` of them; how many more the line brings is a free value (R694, Table 18.9; log
entries 2 and 109). -/
def Dev.violations (d : Dev) (e : LinkPort) (least : Nat) : Dev :=
  let (w, d) := d.takeFree
  d.countFld (.lkPortErr (portNo e)) 0 16 (least + w.toNat % 65536)

/-- A port sends DELAY_REQ (R710). The code violations of the 100 µs before, too few to take the port DOWN, are counted with it. -/
def Dev.delayReqOut (d : Dev) (e : LinkPort) : Dev :=
  if d.linkLive e then
    let d := d.violations e 0
    let s := (d.link.side e).delaySeq
    (d.emit (.linkFrame e (delayReqSymbols (BitVec.ofNat 8 s)))).onSide e (fun x => { x with delaySeq := (s + 1) % 256, delayWaits := true })
  else d

/-- A DELAY_REQ is answered on the same hop (R710, R719). -/
def Dev.delayReqIn (d : Dev) (e : LinkPort) (seq crc : Byte) (turn : Word) : Dev :=
  if d.linkLive e = false then d
  else if crc8 [seq] ≠ crc then d.checkFails e
  else
    let h := [seq, BitVec.ofNat 8 d.link.node, (mkBit d.link.idValid 0).setWidth 8] ++ leBytes 4 turn.toNat
    d.emit (.linkFrame e (delayRespSymbols h))

/-- A DELAY_RESP to the outstanding DELAY_REQ gives a hop delay and the neighbour (R710). -/
def Dev.delayRespIn (d : Dev) (e : LinkPort) (f : DelayRespFrame) : Dev :=
  if d.linkLive e = false then d
  else if crc8 ([f.seq, f.node, f.flags] ++ leBytes 4 f.turn.toNat) ≠ f.crc then d.checkFails e
  else
    let s := d.link.side e
    if s.delayWaits = false ∨ (f.seq.toNat + 1) % 256 ≠ s.delaySeq then d
    else
      d.onSide e (fun x => { x with
        delays := (((f.roundTrip : Int) - f.turn.toNat) :: x.delays).take 16, delayWaits := false
        neighbour := if f.flags.getLsbD 0 then some f.node.toNat else none })

/-! ### Ports up and down (R694, R702, R723) -/

/-- A port becomes UP; it has received a valid DELAY_RESP since it was DOWN (R694, R702, R735). -/
def Dev.portUp (d : Dev) (e : LinkPort) : Dev :=
  if d.linkLive e = false ∨ (d.link.side e).up = true ∨ (d.link.side e).delays = [] then d
  else
    ((d.onSide e (fun x => { x with up := true })).clearSeen).linkRecord .portUp (portNo e).val
      (nodeField (d.link.side e).neighbour) (d.link.side e).delayWord 0

/-- RING_OPEN takes effect at this node (R723). -/
def Dev.openRing (d : Dev) (reporter : Nat) (port : Nat) : Dev :=
  (d.onLink (fun l => { l with ringClosed := false })).linkRecord .ringOpen 2 reporter (at_ port 0) 0

/-- A port goes DOWN (R694, R723, R735): by at least 16 violations with cause 0, and with cause 3 only when it is disabled. -/
def Dev.portDown (d : Dev) (e : LinkPort) (cause : Nat) : Dev :=
  if (d.link.side e).up = false ∨ (cause = 3 ∧ d.linkLive e = true) then d
  else
    let d := if cause = 0 then d.violations e 16 else d
    let p := (portNo e).val
    let d := (d.onSide e (fun x => { x with up := false, delays := [], delayWaits := false })).linkRecord .portDown p
      (nodeField (d.link.side e).neighbour) (at_ cause 0) 0
    (d.openRing (nodeField d.ownNode) p).sendNormal .ringOpen true false 0 (at_ p 0) []

/-- Ports that are UP and no longer run go DOWN (R693, R694). -/
def Dev.dropPorts (d : Dev) : Dev :=
  let gone (e : LinkPort) : Bool := !d.linkLive e && (d.link.side e).up
  let d := if gone .east then d.portDown .east 3 else d
  if gone .west then d.portDown .west 3 else d

/-! ### Node IDs, enumeration and census (R718 to R722) -/

/-- This node's ID becomes valid, or changes (R702, R721, R735). -/
def Dev.setNode (d : Dev) (n : Nat) (enumerated : Bool) : Dev :=
  if d.link.idValid = true ∧ d.link.node = n then d
  else
    ((d.onLink (fun l => { l with node := n, idValid := true })).clearSeen).linkRecord .nodeIdSet 2 n
      (mkBit enumerated 0) (at_ (nodeField d.ownNode) 0)

/-- This node's ID is no longer valid; that too is a change of its ID (R702, R721; log entry 104). -/
def Dev.dropNode (d : Dev) : Dev :=
  if d.link.idValid = false then d
  else
    ((d.onLink (fun l => { l with idValid := false })).clearSeen).linkRecord .nodeIdSet 2 (nodeField none) (mkBit true 0)
      (at_ (nodeField d.ownNode) 0)

/-- NODE_FUSED (R123). -/
def Dev.nodeFused (d : Dev) : Bool := decide (d.fuse 64 8 1 = 1)

/-- A census starts from this node (R722). -/
def Dev.startCensus (d : Dev) : Dev := (d.onLink (fun l => { l with censusRunning := true })).sendEast .census (at_ 1 0)

/-- An enumeration starts from this node (R720). -/
def Dev.startEnum (d : Dev) : Dev :=
  let d := if d.nodeFused then d else d.setNode 0 true
  let n := d.link.node
  (d.onLink (fun l => { l with enumRunning := true })).sendEast .enum (at_ ((n + 1) % 256) 0 ||| mkBit (decide (n = 255)) 8)

/-- The ring is closed with so many nodes (R722 step 4). -/
def Dev.closeRing (d : Dev) (starter nodes : Nat) : Dev :=
  let d := (d.onLink (fun l => { l with ringClosed := true, nodes := nodes })).linkRecord .ringClosed 2 starter
    (at_ nodes 0) 0
  let r := (linkOf d.alm).ringSize
  if r ≠ 0 ∧ r ≠ nodes then d.setBits .lkStatus (mkBit true 17) else d

/-- ENUM arrives (R719, R721, R722). -/
def Dev.enumIn (d : Dev) (e : LinkPort) (f : NormalFrame) : Dev :=
  if d.linkLive e = false then d
  else if normalOk .enum f = false then d.checkFails e
  else if d.isOwn f.origin then
    let d := d.dupCheck 65536 d.link.normalSeq d.link.normalSent f.seq.toNat
    if d.link.enumRunning ∧ d.boot.phase ≠ .sleep then
      (d.onLink (fun l => { l with enumRunning := false })).startCensus
    else d
  else
    let next := Machine.fld f.arg 0 8
    let none_ := Machine.bit f.arg 8
    let new := seqNew d.link.normalSeen f.origin.toNat f.seq.toNat 65536
    let d := d.onLink (fun l => { l with
      normalSeen := if new then tins f.origin.toNat f.seq.toNat (tdel l.normalSeen f.origin.toNat) else l.normalSeen })
    let take := new && !d.nodeFused && decide (d.boot.phase ≠ .sleep)
    let arg := if take && !none_ then at_ ((next + 1) % 256) 0 ||| mkBit (decide (next = 255)) 8 else f.arg
    let g : NormalFrame := { f with arg := arg }
    let g := { g with crc := crc32 (normalHead .enum g) }
    let d := d.sendOn (otherPort e) (normalSymbols .enum g)
    if take = false then d
    else if none_ then d.dropNode
    else d.setNode next true

/-- CENSUS arrives (R719, R722). -/
def Dev.censusIn (d : Dev) (e : LinkPort) (f : NormalFrame) : Dev :=
  if d.linkLive e = false then d
  else if normalOk .census f = false then d.checkFails e
  else
    let count := Machine.fld f.arg 0 9
    if d.isOwn f.origin then
      let d := d.dupCheck 65536 d.link.normalSeq d.link.normalSent f.seq.toNat
      if d.link.censusRunning ∧ d.boot.phase ≠ .sleep then
        ((d.onLink (fun l => { l with censusRunning := false })).sendNormal .censusDone true false 0 (at_ count 0) []).closeRing
          d.link.node count
      else d
    else
      let g : NormalFrame := { f with arg := at_ ((count + 1) % 512) 0 }
      let g := { g with crc := crc32 (normalHead .census g) }
      (d.passNormal e f (some (normalSymbols .census g))).2

/-- CENSUS_DONE arrives (R722). -/
def Dev.censusDoneIn (d : Dev) (e : LinkPort) (f : NormalFrame) : Dev :=
  d.takeNormal e .censusDone f (fun d => d.closeRing f.origin.toNat (Machine.fld f.arg 0 9))

/-- RING_OPEN arrives (R723). -/
def Dev.ringOpenIn (d : Dev) (e : LinkPort) (f : NormalFrame) : Dev :=
  d.takeNormal e .ringOpen f (fun d => d.openRing f.origin.toNat (Machine.fld f.arg 0 1))

/-- An ENUM or CENSUS of this node has not come back in time (R722). -/
def Dev.enumTimeout (d : Dev) : Dev :=
  if d.link.enumRunning ∨ d.link.censusRunning then
    (d.onLink (fun l => { l with enumRunning := false, censusRunning := false })).setBits .lkStatus (mkBit true 20)
  else d

/-- A census starts by itself after a port has come UP beside the other (R722). -/
def Dev.autoCensus (d : Dev) : Dev :=
  if d.link.east.up && d.link.west.up && d.link.idValid && !d.link.censusRunning && decide (d.boot.phase ≠ .sleep) then
    d.startCensus
  else d

/-- An enumeration or census of this node runs (LK_STATUS ENUM_BUSY). -/
def Dev.enumBusy (d : Dev) : Bool := d.link.enumRunning || d.link.censusRunning

/-- LK_CMD ENUMERATE (R720). -/
def Dev.cmdEnumerate (d : Dev) : Result :=
  checked d (lowest [(!(d.almValid && (linkOf d.alm).enumerate), .state), (d.enumBusy, .busy)]) (fun d => d.startEnum)

/-- LK_CMD CENSUS: of a node with a valid ID, while none runs (R722). -/
def Dev.cmdCensus (d : Dev) : Result :=
  checked d (lowest [(!d.link.idValid, .state), (d.enumBusy, .busy)]) (fun d => d.startCensus)

/-- LK_CMD WAKE (R708). -/
def Dev.cmdWake (d : Dev) (all : Bool) (node : Nat) : Result :=
  (.ok, d.sendUrgent (UrgentKind.wake.code + (if all then 128 else 0)) 0 (if all then 0 else node))

/-- An LK_CMD write: exactly one command bit (18_floper_link.md, Registers). -/
def Dev.writeLkCmd (d : Dev) (w : Word) : Result :=
  match Machine.fld w 16 3 with
  | 1 => d.cmdEnumerate
  | 2 => d.cmdWake (Machine.bit w 8) (Machine.fld w 0 8)
  | 4 => d.cmdCensus
  | _ => (.range, d)

/-! ### Mailbox (R724 to R726) -/

/-- The MBOX frame of an outstanding send. -/
def Dev.sendMbox (d : Dev) (m : MboxSend) (bcast : Bool) : Dev :=
  d.sendNormal .mbox bcast false m.node (at_ m.mid 0) (leBytes 4 m.lo.toNat ++ leBytes 4 m.hi.toNat)

/-- A mailbox send completes with a code (Table 18.9). -/
def Dev.mboxDone (d : Dev) (code : Nat) : Dev :=
  (d.onLink (fun l => { l with mbox := none, mboxCode := code })).setBits .lkMboxStatus (mkBit true 30)

/-- LK_MBOX_SEND GO (R724, R726). -/
def Dev.mboxSend (d : Dev) (bcast : Bool) (node : Nat) : Result :=
  checked d (lowest [(!d.link.idValid, .state), (d.link.mbox.isSome, .busy)]) (fun d =>
    let m : MboxSend := { node := node, mid := (d.link.mid + 1) % 256, lo := d.rd .lkMboxData, hi := d.rdHi .lkMboxData
                          sends := 1 }
    let d := (d.onLink (fun l => { l with mid := m.mid })).sendMbox m bcast
    if bcast then d.mboxDone 0 else d.onLink (fun l => { l with mbox := some m }))

/-- An LK_MBOX_SEND write: GO is its one command bit. -/
def Dev.writeMboxSend (d : Dev) (w : Word) : Result :=
  if Machine.bit w 31 then d.mboxSend (Machine.bit w 16) (Machine.fld w 0 8) else (.range, d)

/-- MBOX arrives (R725). -/
def Dev.mboxIn (d : Dev) (e : LinkPort) (f : NormalFrame) : Dev :=
  d.takeNormal e .mbox f (fun d =>
    let o := f.origin.toNat
    let mid := Machine.fld f.arg 0 8
    let known := decide (d.link.mboxSeen.find? (·.1 = o) = some (o, mid))
    let logs := d.bit .lkCtrl 27
    let d := if known || !logs then d
      else (d.onLink (fun l => { l with mboxSeen := tins o mid (tdel l.mboxSeen o) })).linkRecord .mailbox 2 o
        (wordAt f.payload 0) (wordAt f.payload 4)
    if normalDirected f then
      d.sendNormal .mboxAck false false o (at_ mid 0 ||| at_ (if known || logs then 0 else Code.state.num) 8) []
    else d)

/-- MBOX_ACK arrives (R726). -/
def Dev.mboxAckIn (d : Dev) (e : LinkPort) (f : NormalFrame) : Dev :=
  d.takeNormal e .mboxAck f (fun d =>
    match d.link.mbox with
    | some m => if m.node = f.origin.toNat ∧ m.mid = Machine.fld f.arg 0 8 then d.mboxDone (Machine.fld f.arg 8 8) else d
    | none => d)

/-- 20 µs without an acknowledgement (R726). -/
def Dev.mboxResend (d : Dev) : Dev :=
  match d.link.mbox with
  | none => d
  | some m =>
    if m.sends < 3 then
      (d.sendMbox m false).onLink (fun l => { l with mbox := some { m with sends := m.sends + 1 } })
    else d.mboxDone Code.notPresent.num

/-! ### Remote register access at the origin (R727, R731) -/

/-- The RRA_REQ frame of an outstanding access. -/
def Dev.sendAccess (d : Dev) (a : RemoteAccess) : Dev :=
  d.sendNormal .rraReq false false a.node
    (at_ a.rid 0 ||| mkBit a.write 8 ||| mkBit a.twoHalf 9 ||| mkBit a.bar2 10)
    (leBytes 4 a.offset ++ leBytes 4 a.lo.toNat ++ leBytes 4 a.hi.toNat ++ leBytes 4 a.key.toNat)

/-- An access as LR_CMD GO sets it up (R727). -/
def Dev.newAccess (d : Dev) (twoHalf write : Bool) (node : Nat) : RemoteAccess :=
  { node := node, rid := (d.link.rid + 1) % 256, twoHalf := twoHalf, write := write, bar2 := d.bit .lrOffset 31
    offset := d.fld .lrOffset 0 22, lo := d.rd .lrData, hi := d.rdHi .lrData, key := d.rd .lrKey, tries := 1 }

/-- An access completes with a code and, for a read that succeeded, data (Table 18.9). -/
def Dev.accessDone (d : Dev) (a : RemoteAccess) (code : Nat) (lo hi : Word) : Dev :=
  let d := (d.onLink (fun l => { l with access := none, accessCode := code, tries := a.tries })).setBits .lrStatus (mkBit true 30)
  if a.write = false ∧ code = 0 then (d.wr .lrData lo).wrHi .lrData hi else d

/-- A response to the outstanding access arrives (R731). -/
def Dev.rraRespIn (d : Dev) (e : LinkPort) (f : NormalFrame) : Dev :=
  d.takeNormal e .rraResp f (fun d =>
    match d.link.access with
    | some a =>
      if a.node = f.origin.toNat ∧ a.rid = Machine.fld f.arg 0 8 then
        d.accessDone a (Machine.fld f.arg 8 8) (wordAt f.payload 0) (wordAt f.payload 4)
      else d
    | none => d)

/-- 50 µs without a response (R731). -/
def Dev.rraRetry (d : Dev) : Dev :=
  match d.link.access with
  | none => d
  | some a =>
    if a.tries < 3 then
      let a := { a with tries := a.tries + 1 }
      (d.sendAccess a).onLink (fun l => { l with access := some a, tries := a.tries })
    else d.accessDone a (if a.failed then Code.crc.num else Code.notPresent.num) 0 0

/-! ### Link boot at the pusher (R734) -/

/-- The frame of image bytes at an offset. -/
def Dev.sendBoot (d : Dev) (node offset : Nat) (bs : List Byte) (last : Bool) : Dev :=
  d.sendNormal .bootData false last node (at_ offset 0) bs

/-- LK_BOOT_LEN (R734). -/
def Dev.writeBootLen (d : Dev) (w : Word) : Result :=
  let n := w.toNat
  checked d (lowest [(decide (n % 4 ≠ 0) || decide (n < 52) || decide (4194304 < n), .range)]) (fun d => d.wr .lkBootLen w)

/-- LK_BOOT_CTRL BEGIN (R734): a length must have been written, and no push be in progress. -/
def Dev.bootBegin (d : Dev) (node : Nat) : Result :=
  checked d (lowest [(decide (d.rd .lkBootLen = 0), .range), (!d.link.idValid, .state), (d.link.push.isSome, .busy)])
    (fun d => d.onLink (fun l => { l with
      push := some { node := node, length := (d.rd .lkBootLen).toNat, open_ := [], frames := [], sent := 0, acked := 0 }
      pushDone := false, pushCode := 0, pushAcked := 0 }))

/-- An LK_BOOT_CTRL write: BEGIN is its one command bit. -/
def Dev.writeBootCtrl (d : Dev) (w : Word) : Result :=
  if Machine.bit w 31 then d.bootBegin (Machine.fld w 0 8) else (.range, d)

/-- LK_BOOT_DATA (R734). -/
def Dev.writeBootData (d : Dev) (w : Word) : Result :=
  match d.link.push with
  | none => (.state, d)
  | some p =>
    checked d (lowest [
      (decide (p.length ≤ p.sent + p.open_.length), .state), (decide (8 ≤ p.frames.length), .busy)]) (fun d =>
      let bs := p.open_ ++ leBytes 4 w.toNat
      let last := decide (p.sent + bs.length = p.length)
      if bs.length = 256 ∨ last = true then
        (d.sendBoot p.node p.sent bs last).onLink (fun l => { l with push := some { p with
          open_ := [], frames := p.frames ++ [(p.sent, bs, last, 1)], sent := p.sent + bs.length } })
      else d.onLink (fun l => { l with push := some { p with open_ := bs } }))

/-- The push completes with a code (Table 18.9). -/
def Dev.pushDone (d : Dev) (code : Nat) : Dev :=
  d.onLink (fun l => { l with push := none, pushDone := true, pushCode := code })

/-- BOOT_ACK arrives (R733, R734). -/
def Dev.bootAckIn (d : Dev) (e : LinkPort) (f : NormalFrame) : Dev :=
  d.takeNormal e .bootAck f (fun d =>
    match d.link.push with
    | none => d
    | some p =>
      if p.node ≠ f.origin.toNat then d
      else
        let next := Machine.fld f.arg 0 24
        let code := Machine.fld f.arg 24 8
        if code ≠ 0 then d.pushDone code
        else
          let frames := p.frames.filter (fun x => decide (next < x.1 + x.2.1.length))
          let acked := max p.acked (min next p.sent)
          let d := d.onLink (fun l => { l with
            push := some { p with frames := frames, acked := acked }, pushAcked := acked / 4 })
          if p.sent = p.length ∧ frames = [] then d.pushDone 0 else d)

/-- 20 µs have passed since the last send of a frame without an acknowledgement (R734): it is sent again, and then is the frame sent
last. -/
def Dev.bootResend (d : Dev) : Dev :=
  match d.link.push with
  | none => d
  | some p =>
    match p.frames with
    | [] => d
    | (o, bs, last, n) :: t =>
      if n < 3 then
        (d.sendBoot p.node o bs last).onLink (fun l => { l with push := some { p with frames := t ++ [(o, bs, last, n + 1)] } })
      else d.pushDone Code.notPresent.num

/-! ### Activation and apply (R693, R711, R714, R720, R737) -/

/-- This node becomes timekeeper: ρ is τ, it follows no other one, and it keeps ALIGNED at 1 (R711, R717). A ρ that differed jumps (R714). -/
def Dev.becomeTimekeeper (d : Dev) : Dev :=
  let e := d.onLink (fun l => { l with rho := d.clk.tau, mode := .running 0 0, aligned := true, adopted := false, spare := none })
  if d.link.rho = d.clk.tau then e else e.ringDiscont

/-- An almanac is activated (R693, R714, R720). -/
def Dev.linkActivate (d : Dev) : Dev :=
  let d := d.onLink (fun l => { l with byAlmanac := true, yielded := false, fresh := true, adopted := false, spare := none })
  let d := if d.isTimekeeper then d.becomeTimekeeper else d
  let d := d.dropPorts
  if (linkOf d.alm).enumerate then d.startEnum else d

/-- The LINK entry changes on the trigger edge of an apply; `old` is the device before it (R737). -/
def Dev.linkApply (d old : Dev) : Dev :=
  if entryOf d.alm.link 0 = entryOf old.alm.link 0 then d
  else
    let d := if (linkOf d.alm).timekeeper ≠ (linkOf old.alm).timekeeper then d.onLink (fun l => { l with yielded := false, adopted := false, spare := none })
      else d
    let d := if d.isTimekeeper && !old.isTimekeeper then d.becomeTimekeeper else d
    d.dropPorts

/-! ### Register reads -/

/-- LK_STATUS as it reads (Table 18.9). -/
def Dev.readLkStatus (d : Dev) : Word :=
  let l := d.link
  d.rd .lkStatus ||| mkBit l.idValid 31 ||| mkBit d.nodeFused 30 ||| mkBit l.aligned 29 ||| mkBit l.ringClosed 28 |||
    mkBit l.west.up 27 ||| mkBit l.east.up 26 ||| mkBit d.sendsBeacons 25 ||| mkBit d.enumBusy 24 |||
    at_ (l.tkNode % 256) 8 ||| at_ (l.node % 256) 0

/-- LK_RING as it reads (Table 18.9). -/
def Dev.readLkRing (d : Dev) : Word := at_ (d.link.nodes % 512) 16 ||| at_ (d.link.tkHops % 256) 8

/-- LK_MBOX_STATUS as it reads (Table 18.9). -/
def Dev.readMboxStatus (d : Dev) : Word :=
  d.rd .lkMboxStatus ||| mkBit d.link.mbox.isSome 31 ||| at_ (d.link.mboxCode % 256) 8

/-- LR_STATUS as it reads (Table 18.9). -/
def Dev.readLrStatus (d : Dev) : Word :=
  d.rd .lrStatus ||| mkBit d.link.access.isSome 31 ||| at_ (d.link.accessCode % 256) 8 ||| at_ (d.link.tries % 16) 0

/-- LK_BOOT_STATUS as it reads (Table 18.9). -/
def Dev.readPushStatus (d : Dev) : Word :=
  mkBit d.link.push.isSome 31 ||| mkBit d.link.pushDone 30 ||| at_ (d.link.pushCode % 256) 21 |||
    at_ (d.link.pushAcked % 2 ^ 21) 0

/-- ρ in whole ns, rounded down, modulo 2^64 (LK_RTIME). -/
def Dev.ringNs (d : Dev) : Nat := ((d.link.rho / 65536) % ((2 ^ 64 : Nat) : Int)).toNat

end Sys2Proof.Machine
end

