-- ==== Sys2Proof/Machine/Image.lean ====
section
/-! DEFINITION. Almanac images: the sections, the checks of Table 3.6 in the sequence of R807, the content of every entry,
and the bank that an image gives (03_bring_up.md, 05_almanac.md). -/
namespace Sys2Proof.Machine

/-! ### Sections (R197 to R203) -/

/-- A section of an image: where it starts, and its frame header (Table 5.1). -/
structure Section where
  off : Nat
  kind : Nat
  flags : Nat
  inst : Nat
  len : Nat
  count : Nat
  size : Nat
  reserved : Nat
  deriving DecidableEq, Repr

/-- The section whose frame stands at an offset. -/
def sectionAt (bs : List Byte) (off : Nat) : Section :=
  { off := off, kind := field bs off 1, flags := field bs (off + 1) 1, inst := field bs (off + 2) 2
    len := field bs (off + 4) 4, count := field bs (off + 8) 2, size := field bs (off + 10) 2
    reserved := field bs (off + 12) 4 }

/-- LENGTH meets R199. -/
def Section.lengthOk (s : Section) : Bool :=
  let body := 20 + s.count * s.size
  decide (s.len % 4 = 0) && decide (body ≤ s.len) && decide (s.len ≤ body + 3)

/-- The CRC of a section is right (R200). -/
def Section.crcOk (s : Section) (bs : List Byte) : Bool :=
  decide (crc32 ((bs.drop s.off).take (s.len - 4)) = wordAt bs (s.off + s.len - 4))

/-- The padding of a section is zero (R198). -/
def Section.paddingOk (s : Section) (bs : List Byte) : Bool :=
  let body := 16 + s.count * s.size
  allZero ((bs.drop (s.off + body)).take (s.len - 4 - body))

/-- The entries of a section, from its body. -/
def splitEntries (size : Nat) : Nat → List Byte → List (List Byte)
  | 0, _ => []
  | n + 1, bs => bs.take size :: splitEntries size n (bs.drop size)

/-- The entries of a section. -/
def Section.entries (s : Section) (bs : List Byte) : List (List Byte) := splitEntries s.size s.count (bs.drop (s.off + 16))

/-! ### Checks 1 to 3 (R204, R807) -/

/-- What checks 1 to 3 have found on the bytes so far: more must come, a check has failed, or the whole image has passed
them with these sections. -/
inductive Scan where
  | more
  | fail (r : Reason)
  | whole (l : List Section)
  deriving DecidableEq, Repr

/-- Check 1: the header section's frame with MAGIC, FORMAT_VER and PART (R203, R204). -/
def headerOk (bs : List Byte) : Bool :=
  let s := sectionAt bs 0
  decide (s.kind = 1) && decide (s.flags = 0) && decide (s.inst = 0) && decide (s.len = 52) && decide (s.count = 1) &&
    decide (s.size = 32) && decide (s.reserved = 0) && decide ((bs.drop 16).take 4 = [0x5A, 0x4B, 0x41, 0x4C]) &&
    decide (field bs 0x14 2 = 1) && decide (field bs 0x16 2 = 0x2176)

/-- Check 2 on the header: TOTAL_LENGTH and SECTIONS (R807 step 1). A TOTAL_LENGTH below the header's own 52 bytes fails here, also
where no length is announced (log entry 118). -/
def totalOk (announced : Option Nat) (bs : List Byte) : Bool :=
  let total := field bs 0x20 4
  let n := field bs 0x1B 1
  decide (total % 4 = 0) && decide (52 ≤ total) && decide (2 ≤ n) && decide (n ≤ 14) &&
    match announced with
    | some a => decide (total = a)
    | none => true

/-- Checks 2 and 3 on the sections from an offset on (R807 steps 2 and 3): `acc` holds the sections so far, the last
first. -/
def scanFrom (m : Image) (total n : Nat) : Nat → Nat → List Section → Scan
  | 0, _, _ => .more
  | fuel + 1, off, acc =>
    let have_ := m.bytes.length
    if off = total ∧ have_ = total then
      if m.ended then (if acc.length = n then .whole acc.reverse else .fail .length) else .more
    else if have_ < off + 16 then (if m.ended then .fail .length else .more)
    else
      let s := sectionAt m.bytes off
      if s.lengthOk = false ∨ total < off + s.len then .fail .length
      else if have_ < off + s.len then (if m.ended then .fail .length else .more)
      else if s.crcOk m.bytes = false then .fail .crc
      else scanFrom m total n fuel (off + s.len) (s :: acc)

/-- Checks 1 to 3 on an image as far as it has arrived. An image that ends before its first 52 bytes fails with LENGTH, for which
R807 names no check (log entry 118). -/
def Image.scan (m : Image) : Scan :=
  if m.bytes.length < 52 then (if m.ended then .fail .length else .more)
  else if headerOk m.bytes = false then .fail .magic
  else if totalOk m.announced m.bytes = false then .fail .length
  else
    let s := sectionAt m.bytes 0
    if s.crcOk m.bytes = false then .fail .crc
    else scanFrom m (field m.bytes 0x20 4) (field m.bytes 0x1B 1) (m.bytes.length / 16 + 1) 52 [s]

/-- Bytes arrive; bytes past the announced length are not read. -/
def Image.take (m : Image) (bs : List Byte) : Image :=
  match m.announced with
  | some a =>
    let all := (m.bytes ++ bs).take a
    { m with bytes := all, ended := decide (all.length = a) }
  | none => { m with bytes := m.bytes ++ bs }

/-! ### The header entry (Table 5.3) -/

/-- TYPE of an image. -/
def Image.type (m : Image) : Nat := field m.bytes 0x18 1

/-- GENERATION of an image. -/
def Image.generation (m : Image) : Byte := BitVec.ofNat 8 (field m.bytes 0x19 1)

/-- BASE_GEN of an image. -/
def Image.baseGen (m : Image) : Byte := BitVec.ofNat 8 (field m.bytes 0x1A 1)

/-- VERSION of an image. -/
def Image.version (m : Image) : Nat := field m.bytes 0x1C 4

/-- NODE of an image. -/
def Image.node (m : Image) : Nat := field m.bytes 0x24 2

/-! ### Tables of a bank (Table 5.2) -/

/-- The (KIND, INSTANCE) pairs whose entries a bank holds. -/
inductive Tab where
  | fabric | filter | excite | reduce | output | axes | table | chrono | trip | link | logbook
  deriving DecidableEq, Repr

/-- The pairs in the order of R201. -/
def allTabs : List Tab :=
  [.fabric, .filter, .excite, .reduce, .output, .axes, .table, .chrono, .trip, .link, .logbook]

/-- KIND, INSTANCE, entry size, most entries, and the bytes of the key (Table 5.2, R206). -/
def Tab.shape : Tab → Nat × Nat × Nat × Nat × Nat
  | .fabric => (2, 0, 12, 2176, 2)
  | .filter => (3, 0, 16, 64, 2)
  | .excite => (4, 0, 16, 64, 1)
  | .reduce => (5, 0, 8, 8, 1)
  | .output => (6, 0, 32, 32, 1)
  | .axes => (7, 0, 8, 8, 1)
  | .table => (7, 1, 24, 512, 2)
  | .chrono => (8, 0, 8, 64, 1)
  | .trip => (9, 0, 24, 64, 1)
  | .link => (10, 0, 16, 1, 0)
  | .logbook => (11, 0, 4, 16, 1)

/-- The table of a section, when its KIND and INSTANCE name one. -/
def Section.tab (s : Section) : Option Tab := allTabs.find? (fun t => decide (t.shape.1 = s.kind ∧ t.shape.2.1 = s.inst))

/-- The bytes of a table's key. -/
def Tab.keyLen (t : Tab) : Nat := t.shape.2.2.2.2

/-- The key of an entry (R206). -/
def Tab.key (t : Tab) (e : List Byte) : Nat :=
  match t with
  | .filter => 16 * byteAt e 0 + byteAt e 1
  | _ => field e 0 t.keyLen

/-- The entries of a table of a bank. -/
def Bank.tab (k : Bank) : Tab → List (Nat × List Byte)
  | .fabric => k.fabric
  | .filter => k.filter
  | .excite => k.excite
  | .reduce => k.reduce
  | .output => k.output
  | .axes => k.axes
  | .table => k.table
  | .chrono => k.chrono
  | .trip => k.trip
  | .link => k.link
  | .logbook => k.logbook

/-- A bank with a table replaced. -/
def Bank.setTab (k : Bank) (t : Tab) (l : List (Nat × List Byte)) : Bank :=
  match t with
  | .fabric => { k with fabric := l }
  | .filter => { k with filter := l }
  | .excite => { k with excite := l }
  | .reduce => { k with reduce := l }
  | .output => { k with output := l }
  | .axes => { k with axes := l }
  | .table => { k with table := l }
  | .chrono => { k with chrono := l }
  | .trip => { k with trip := l }
  | .link => { k with link := l }
  | .logbook => { k with logbook := l }

/-- One entry replaces the entry with its key; an entry in its zero state is not listed (R207, R208). -/
def putEntry (t : Tab) (l : List (Nat × List Byte)) (e : List Byte) : List (Nat × List Byte) :=
  let rest := tdel l (t.key e)
  if allZero (e.drop t.keyLen) && decide (t ≠ .fabric) then rest else tins (t.key e) e rest

/-- A section's entries replace those of its table, which a CLEAR flag has emptied first (R208). -/
def mergeSection (bs : List Byte) (k : Bank) (s : Section) : Bank :=
  match s.tab with
  | none => k
  | some t => k.setTab t ((s.entries bs).foldl (putEntry t) (if s.flags % 2 = 1 then [] else k.tab t))

/-- The bank that an image gives over the active bank (R207, R208, R224). -/
def Image.bank (m : Image) (active : Bank) : Bank :=
  match m.scan with
  | .whole l => l.foldl (mergeSection m.bytes) (if m.type = 0 then { gen := m.generation } else { active with gen := m.generation })
  | _ => active

/-- The schedule indexes an image lists (R487). -/
def Image.listedTable (m : Image) : List Nat :=
  match m.scan with
  | .whole l => (l.filter (fun s => decide (s.tab = some .table))).flatMap (fun s => (s.entries m.bytes).map Tab.table.key)
  | _ => []

/-! ### Content of one entry (R209 and the chapters' own rules) -/

/-- A byte of an entry is one of a range. -/
def within (v lo hi : Nat) : Bool := decide (lo ≤ v) && decide (v ≤ hi)

/-- Bytes from an offset on are reserved. -/
def zeros (e : List Byte) (off k : Nat) : Bool := allZero ((e.drop off).take k)

/-- A FABRIC entry (Table 5.4, R24, R35, R211). -/
def fabricOk (e : List Byte) : Bool :=
  let b := field e 0 2
  let r := byteAt e 6
  let u := byteAt e 4
  decide (b < 2176) && decide (byteAt e 2 < 32) && decide (byteAt e 2 / 8 = (quadOfBridge b).val) && decide (byteAt e 3 < 4) &&
    !within u 0x15 0x7F && (decide (r < 8) || (decide (r = 255) && decide (u = 0) && decide (byteAt e 5 = 216))) &&
    decide (byteAt e 7 < 4) &&
    (if byteAt e 7 = 2 then decide (field e 8 2 < 2176) else decide (field e 8 2 = 0)) &&
    decide (1 ≤ byteAt e 10) && zeros e 11 1

/-- A FILTER entry (Table 5.5, R207, R347, R348). -/
def filterOk (e : List Byte) : Bool :=
  let dec := field e 4 4
  let set := byteAt e 2
  let axis := byteAt e 3
  decide (byteAt e 0 < 4) && decide (byteAt e 1 < 16) &&
    (if dec = 0 then zeros e 2 14
     else
      let ns := dec / firDec set
      decide (set < 5) && (decide (axis < 8) || decide (axis = 255)) && within dec 128 4096000 &&
        (if axis = 255 then decide (byteAt e 8 = 0) else decide (1 ≤ byteAt e 8)) && zeros e 9 1 &&
        decide (ns * firDec set = dec) && decide (ns % 16 = 0) && decide (16 ≤ ns) &&
        decide (settleSamples set ≤ field e 10 2) && zeros e 12 4)

/-- An EXCITE entry (Table 5.6). -/
def exciteOk (e : List Byte) : Bool :=
  let level := byteAt e 1
  decide (byteAt e 0 < 64) && decide (byteAt e 3 < 2) && zeros e 12 4 &&
    (decide (byteAt e 3 = 1) || decide (field e 10 2 = 0)) &&
    (if level = 0 then decide (byteAt e 2 = 0) && decide (field e 4 4 = 0) && decide (field e 8 2 = 0)
     else within level 2 20 && within (byteAt e 2) 1 30 && within (field e 4 4) 1 1000000 && within (field e 8 2) 1 1000)

/-- A REDUCE entry (Table 5.7). -/
def reduceOk (e : List Byte) : Bool :=
  decide (byteAt e 0 < 8) && decide (byteAt e 1 < 2) && decide (byteAt e 2 < 8) && decide (byteAt e 3 < 4) && zeros e 7 1

/-- A signed value lies within limits. -/
def intWithin (v : Int) (l : Int × Int) : Bool := decide (l.1 ≤ v) && decide (v ≤ l.2)

/-- REFGAIN is permitted for a RANGE (Table 14.1). -/
def refGainOk (range gain : Nat) : Bool :=
  if range ≤ 2 then decide (gain < 2) else if range ≤ 4 then decide (gain = 1) else decide (gain = 0)

/-- An OUTPUT entry (Table 5.8, R213, R544, R546, R74). -/
def outputOk (e : List Byte) : Bool :=
  let range := byteAt e 1
  let src := byteAt e 3
  let arg := field e 4 2
  let bind := field e 6 2
  decide (byteAt e 0 < 32) && decide (range < 8) &&
    (if range = 0 then zeros e 1 31
     else
      refGainOk range (byteAt e 2) &&
        (match src with
         | 0 => decide (64 ≤ arg)
         | 1 => decide (arg < 64)
         | 2 => decide (arg < 512)
         | _ => false) &&
        intWithin (signedOf 32 (field e 8 4)) (rangeLimits range) && intWithin (signedOf 32 (field e 12 4)) (rangeLimits range) &&
        (if bind = 0xFFFF then zeros e 16 6 && zeros e 24 4 else decide (bind < 2176)) &&
        decide (field e 17 5 ≠ 0x8000000000) && zeros e 22 2 && zeros e 28 4)

/-- An EPHEM instance 0 entry (Table 5.9, R465). -/
def axesOk (e : List Byte) : Bool :=
  let src := byteAt e 1
  let arg := byteAt e 2
  decide (byteAt e 0 < 8) && decide (src < 5) && decide (byteAt e 3 < 2) && (decide (byteAt e 3 = 0) || decide (src = 1)) &&
    (if src = 2 then decide (arg < 4) else if src = 4 then decide (arg < 64) else decide (arg = 0)) &&
    (if src = 1 ∨ src = 4 then within (field e 4 4) 1 16777216 else decide (field e 4 4 = 0))

/-- ARG of a schedule entry (Table 12.2). -/
def argOk (action arg : Nat) : Bool :=
  match action with
  | 1 => decide (arg < 256)
  | 2 => decide (arg < 8)
  | 3 => decide (arg < 8)
  | 4 => decide (arg ≠ 0)
  | 5 => decide (arg < 64)
  | 6 => decide (arg / 16 % 4096 = 0)
  | _ =>
    let kind := arg / 256 % 4
    decide (arg / 1024 % 64 = 0) && decide (arg < 2 ^ 24) && (decide (kind = 3) || decide (arg < 2 ^ 16)) &&
      (!(decide (kind = 1) || decide (kind = 2)) || decide (arg % 256 < 8))

/-- An EPHEM instance 1 entry (Table 5.9, R485). -/
def tableOk (e : List Byte) : Bool :=
  let action := byteAt e 3
  decide (field e 0 2 < 512) && decide (action < 8) && zeros e 20 4 &&
    (if action = 0 then zeros e 2 18
     else decide (byteAt e 2 < 8) && decide (field e 14 6 < 2 ^ 47) && argOk action (field e 4 4))

/-- A CHRONO entry (Table 5.10, R511). -/
def chronoOk (e : List Byte) : Bool :=
  let cap := byteAt e 6
  decide (byteAt e 0 < 64) && decide (byteAt e 1 < 3) && decide (byteAt e 2 < 16) && zeros e 7 1 &&
    (decide (cap ≤ 0x78) || decide (cap = 0xFF)) &&
    (if byteAt e 1 = 0 then zeros e 3 3 else within (byteAt e 3) 1 16 && within (field e 4 2) 1 256)

/-- A TRIP entry (Table 5.11). -/
def tripOk (e : List Byte) : Bool :=
  let void := 0x8000000000
  let f := tripFields e
  decide (byteAt e 0 < 64) && decide (byteAt e 1 < 4) && decide (field e 2 2 < 2176) && decide (field e 4 5 ≠ void) &&
    decide (field e 9 5 ≠ void) && decide (field e 14 5 ≠ void) && decide (f.low ≤ f.high) && decide (0 ≤ f.hyst) &&
    (if f.en then decide (1 ≤ f.persist) else decide (f.persist = 0)) && decide (byteAt e 20 < 16) &&
    decide (byteAt e 21 < 8) && zeros e 22 2

/-- The LINK entry (Table 5.12). -/
def linkOk (e : List Byte) : Bool := decide (byteAt e 0 < 16) && zeros e 1 1 && decide (field e 2 2 ≤ 256) && zeros e 4 12

/-- A LOGBOOK entry (Table 5.12). -/
def logbookOk (e : List Byte) : Bool := decide (byteAt e 0 < 16) && decide (byteAt e 1 < 8) && zeros e 2 2

/-- The content of one entry of a table. -/
def Tab.entryOk : Tab → List Byte → Bool
  | .fabric => fabricOk
  | .filter => filterOk
  | .excite => exciteOk
  | .reduce => reduceOk
  | .output => outputOk
  | .axes => axesOk
  | .table => tableOk
  | .chrono => chronoOk
  | .trip => tripOk
  | .link => linkOk
  | .logbook => logbookOk

/-! ### Content that relates entries to each other (R209) -/

/-- A chronograph whose MODE is not 0. -/
def chronoUsed (k : Bank) (n : Nat) : Bool := decide ((chronoOf k n).mode ≠ 0)

/-- R211, R212 and R420 for one FABRIC entry. -/
def fabricFits (k : Bank) (b : Nat) : Bool :=
  let f := fabricOf k b
  let c := fabricOf k f.companion
  (!f.inService || match f.reducer with
    | some r => (reduceOf k r.val).en
    | none => true) &&
    (decide (f.tempSrc ≠ 2) || (c.inService && decide (c.tempSrc ≠ 2) && decide (c.unit = 0x14)))

/-- R465 and R512 for one axis. -/
def axisFits (k : Bank) (a : Nat) : Bool :=
  match (axisOf k a).source with
  | .tach n => chronoUsed k n.val && decide ((chronoOf k n.val).capSrc ≠ 0x60 + a)
  | .ring => (linkOf k).eastEn || (linkOf k).westEn
  | _ => true

/-- A channel is clocked by a schedule index (Table 12.2). -/
def clockedBy (k : Bank) (n i : Nat) : Bool :=
  let o := outputOf k n
  decide (o.range ≠ 0) && decide (o.clkSrc = 2) && decide (o.clkArg = i)

/-- Table 12.2 for one schedule entry. -/
def tableFits (k : Bank) (i : Nat) : Bool :=
  let t := tableOf k i
  match t.action with
  | 4 => (List.range 32).all (fun n => !t.arg.getLsbD n || clockedBy k n i)
  | 5 => chronoUsed k (t.arg.toNat % 64)
  | 7 => (linkOf k).eastEn || (linkOf k).westEn
  | _ => true

/-- R486 and R546 for one channel. -/
def outputFits (k : Bank) (n : Nat) : Bool :=
  let o := outputOf k n
  decide (o.range = 0) ||
    match o.clkSrc with
    | 1 => chronoUsed k o.clkArg
    | 2 => decide ((tableOf k o.clkArg).action = 4) && (tableOf k o.clkArg).arg.getLsbD n
    | _ => true

/-- The bindings of a bank are consistent. -/
def bankFits (k : Bank) : Bool :=
  (List.range 2176).all (fabricFits k) && (List.range 8).all (axisFits k) && (List.range 512).all (tableFits k) &&
    (List.range 32).all (outputFits k)

/-! ### Checks 4 to 6 (R124, R125, R205, R214 to R219) -/

/-- What the checks of an image ask of the device. -/
structure ImageSite where
  /-- The rollback floor (R124). -/
  floor : Nat
  authRequired : Bool
  keyHash : List Byte
  /-- The device's node ID, when valid (R205). -/
  node : Option Nat
  /-- The image is staged while the device runs (R219). -/
  staged : Bool
  genInForce : Byte
  active : Bank
  deriving DecidableEq, Repr

/-- The signature section of an image, if it has one (R197, R214). -/
def signatureOf (l : List Section) : Option Section := l.getLast?.filter (fun s => decide (s.kind = 15))

/-- Check 5 (R125, R214, R216). -/
def authOk (c : ImageSite) (m : Image) (l : List Section) : Bool :=
  match signatureOf l with
  | none => !c.authRequired
  | some s =>
    let e := (m.bytes.drop (s.off + 16)).take 132
    decide (s.inst = 0) && decide (s.count = 1) && decide (s.size = 132) && decide (s.flags = 0) &&
      decide (s.reserved = 0) && decide (byteAt e 0 = 1) && zeros e 1 3 && signatureOk c.keyHash e (m.bytes.take s.off)

/-- A list of numbers rises strictly. -/
def rising : List Nat → Bool
  | [] => true
  | [_] => true
  | a :: b :: t => decide (a < b) && rising (b :: t)

/-- No number appears twice. -/
def distinct : List Nat → Bool
  | [] => true
  | a :: t => !t.contains a && distinct t

/-- The content of one section other than the header and the signature. -/
def sectionOk (m : Image) (s : Section) : Bool :=
  match s.tab with
  | none => false
  | some t =>
    let (_, _, size, most, _) := t.shape
    let es := s.entries m.bytes
    decide (s.reserved = 0) && s.paddingOk m.bytes && decide (s.size = size) && within s.count 1 most &&
      (decide (s.flags = 0) || (decide (s.flags = 1) && decide (m.type = 1) && decide (t ≠ .fabric))) &&
      es.all t.entryOk && distinct (es.map t.key)

/-- The sections of an image between its header and its signature. -/
def bodySections (l : List Section) : List Section :=
  let l := l.drop 1
  if (signatureOf l).isSome then l.dropLast else l

/-- The rules of R218 and R219. -/
def baseOk (c : ImageSite) (m : Image) : Bool :=
  if c.staged then
    (decide (m.type = 0) || decide (m.baseGen ≠ 0)) && (decide (m.baseGen = 0) || decide (m.baseGen = c.genInForce)) &&
      decide (m.generation ≠ m.baseGen)
  else decide (m.type = 0)

/-- Every bridge is listed once in FABRIC of a full image (R207). -/
def fabricWhole (m : Image) (l : List Section) : Bool :=
  decide (m.type ≠ 0) ||
    decide (((l.filter (fun s => decide (s.tab = some .fabric))).map (·.count)).sum = 2176)

/-- Check 6 (R201, R202, R205 to R209, R217 to R219). -/
def contentOk (c : ImageSite) (m : Image) (l : List Section) : Bool :=
  let body := bodySections l
  zeros m.bytes 0x26 10 && decide (m.type < 2) && decide (m.generation ≠ 0) &&
    (decide (m.node = 0xFFFF) || decide (some m.node = c.node)) && baseOk c m && body.all (sectionOk m) &&
    rising (body.map (fun s => 65536 * s.kind + s.inst)) && fabricWhole m body && bankFits (m.bank c.active)

/-- Checks 4, 5 and 6 on an image that has passed the others: none, or the reason of the first that fails (R807). -/
def Image.finish (c : ImageSite) (m : Image) : Option Reason :=
  match m.scan with
  | .whole l =>
    if m.version < c.floor then some .rollback
    else if authOk c m l = false then some .auth
    else if contentOk c m l = false then some .content
    else none
  | .fail r => some r
  | .more => some .length

/-- The site of the checks as the device stands (R124, R125, R205). -/
def Dev.imageSite (d : Dev) (staged : Bool) : ImageSite :=
  { floor := ((List.range 64).filter (fun i => d.boot.loaded.getLsbD (32 * 65 + i))).length
    authRequired := decide (d.fuse 64 9 1 = 1), keyHash := leBytes 32 (d.fuse 67 0 256), node := d.ownNode
    staged := staged, genInForce := d.genInForce, active := if d.almValid then d.alm else {} }

/-- The code of a reason (Table 3.9). -/
def Reason.code : Reason → Nat
  | .none => 0
  | .dir => 1
  | .magic => 2
  | .length => 3
  | .crc => 4
  | .auth => 5
  | .rollback => 6
  | .content => 7
  | .flashTimeout => 8
  | .linkTimeout => 9
  | .mode => 10
  | .stalled => 11

end Sys2Proof.Machine
end

