-- ==== Sys2Proof/Machine/Apply.lean ====
section
/-! DEFINITION. Staging, and the live apply of a staged almanac: arming, the trigger edge, lane switches and the close
edge (05_almanac.md). -/
namespace Sys2Proof.Machine

/-! ### Staging (R220 to R225) -/

/-- Staging changed by a function. -/
def Dev.onStage (d : Dev) (f : Staging → Staging) : Dev := { d with stage := f d.stage }

/-- An apply changed by a function. -/
def Dev.onApply (d : Dev) (f : Apply → Apply) : Dev := { d with apply := f d.apply }

/-- Staging is accepted in HELD and RUN (R220). -/
def Dev.mayStage (d : Dev) : Bool := decide (d.boot.phase = .held) || decide (d.boot.phase = .run)

/-- A STAGE_LEN write (R221, R244). -/
def Dev.writeStageLen (d : Dev) (w : Word) : Result :=
  let n := w.toNat
  checked d (lowest [(decide (n % 4 ≠ 0) || decide (n < 52) || decide (262144 < n), .range),
      (!d.mayStage || d.applying, .state)])
    (fun d => d.wr .stageLen w)

/-- STAGE_CTRL BEGIN (R220 to R222). With no STAGE_LEN written yet it is out of range. -/
def Dev.stageBegin (d : Dev) : Result :=
  checked d (lowest [(decide (d.rd .stageLen = 0), .range), (!d.mayStage, .state), (d.applying, .busy)]) (fun d =>
    { d with stage := { state := .loading, image := { announced := some (d.rd .stageLen).toNat } } })

/-- STAGE_CTRL DISCARD (R220, R225). An apply in progress goes on with the image that it was armed with (log entry 40). -/
def Dev.stageDiscard (d : Dev) : Result :=
  checked d (lowest [(!d.mayStage, .state)]) (fun d => { d with stage := {} })

/-- A STAGE_CTRL write: exactly one command bit (R244). -/
def Dev.writeStageCtrl (d : Dev) (w : Word) : Result :=
  match Machine.fld w 0 2 with
  | 1 => d.stageBegin
  | 2 => d.stageDiscard
  | _ => (.range, d)

/-- The staged image fails (R223). -/
def Dev.stageFail (d : Dev) (r : Reason) : Dev := d.onStage (fun s => { s with state := .failed, reason := r })

/-- Checks 1 to 3 on the staged image as far as it has arrived (R223, R807). -/
def Dev.stageScan (d : Dev) : Dev :=
  if d.stage.state = .loading then
    match d.stage.image.scan with
    | .more => d
    | .fail r => d.stageFail r
    | .whole _ => d.onStage (fun s => { s with state := .checking })
  else d

/-- A STAGE_DATA write (R221, R223, R244). -/
def Dev.writeStageData (d : Dev) (w : Word) : Result :=
  checked d (lowest [(!d.mayStage || decide (d.stage.state ≠ .loading), .state)]) (fun d =>
    (d.onStage (fun s => { s with image := s.image.take (leBytes 4 w.toNat) })).stageScan)

/-- Checks 4 to 6 of the staged image complete (R223). -/
def Dev.stageFinish (d : Dev) : Dev :=
  if d.stage.state = .checking then
    match d.stage.image.finish (d.imageSite true) with
    | some r => d.stageFail r
    | none => d.onStage (fun s => { s with state := .merging })
  else d

/-- The merge with the active bank completes (R224). -/
def Dev.stageReady (d : Dev) : Dev :=
  if d.stage.state = .merging then
    d.onStage (fun s => { s with state := .ready, merged := s.image.bank (if d.almValid then d.alm else {}) })
  else d

/-- STAGE_STATUS STATE (Table 5.15). -/
def StageState.code : StageState → Nat
  | .empty => 0
  | .ready => 2
  | .failed => 3
  | _ => 1

/-- STAGE_STATUS as it reads (Table 5.15); the header fields show once the header has arrived. -/
def Dev.readStageStatus (d : Dev) : Word :=
  let m := d.stage.image
  let seen := decide (52 ≤ m.bytes.length)
  at_ (if seen then m.baseGen.toNat else 0) 24 ||| at_ (if seen then m.generation.toNat else 0) 16 |||
    mkBit (seen && decide (m.type = 1)) 8 ||| at_ d.stage.reason.code 4 ||| at_ d.stage.state.code 0

/-! ### The tests of the trigger edge (R232) -/

/-- A generation binds a reducer (R172). -/
def Bank.bindsReducer (k : Bank) : Bool :=
  (List.range 2176).any (fun b => (fabricOf k b).inService && (fabricOf k b).reducer.isSome)

/-- The new generation withdraws a resource that a ticket names: its bridge, one of its profiles, or the reducer of its
override (R232). -/
def withdraws (old new : Bank) (k : Desc) : Bool :=
  let b := k.bridge.val
  let q := (quadOfBridge b).val
  let gone (p : Bank → Bool) : Bool := p old && !p new
  gone (fun k => (fabricOf k b).inService) ||
    gone (fun c => decide ((filterOf c q k.filter.val).totalDec ≠ 0)) ||
    gone (fun c => decide ((exciteOf c k.excite.val).level ≠ 0)) ||
    match k.reducer with
    | some r => gone (fun c => (reduceOf c r.val).en)
    | none => false

/-- The queued tickets that the new generation binds to another lane: the ticket, its order, its lane and its new one
(R237). -/
def Dev.movers (d : Dev) (new : Bank) : List (Nat × Nat × Fin 32 × Fin 32) :=
  d.pool.filterMap (fun e =>
    let k := e.2
    let n := (fabricOf new k.desc.bridge.val).lane
    if d.lanes[k.lane].queue.contains e.1 && decide (n ≠ k.lane) then some (e.1, k.order, k.lane, n) else none)

/-- A move would exceed a lane queue's limit (R232). -/
def Dev.moveOverfills (d : Dev) (new : Bank) : Bool :=
  let ms := d.movers new
  allLanes.any (fun n =>
    let arrive := (ms.filter (fun m => decide (m.2.2.2 = n))).length
    let leave := (ms.filter (fun m => decide (m.2.2.1 = n))).length
    decide (arrive ≠ 0) && decide (d.fld (.lqLimit n) 0 12 < d.lanes[n].queue.length - leave + arrive))

/-- The code of the tests of R232. -/
def Dev.applyCode (d : Dev) : Code :=
  let m := d.apply.image
  let new := d.apply.merged
  let old := if d.almValid then d.alm else {}
  lowest [
    ((decide (m.baseGen ≠ 0) && decide (m.baseGen ≠ d.genInForce)) || decide (m.generation = d.genInForce), .genMismatch),
    (d.pool.any (fun e => withdraws old new e.2.desc) || (d.bit .pdCtrl 0 && new.bindsReducer), .bound),
    (d.moveOverfills new, .busy)]

/-! ### The trigger edge (R233 to R239) -/

/-- An apply ends with a code: DONE is set (Table 5.16). -/
def Dev.endApply (d : Dev) (c : Code) : Dev :=
  ((d.wr .applyStatus (setFld (d.rd .applyStatus) 8 8 c.num)).setBits .applyStatus (mkBit true 25)).onApply
    (fun a => { a with phase := .idle })

/-- What a run-ahead ticket was started under changes (R238): any byte of the bridge's FABRIC entry counts as its binding (log entry
130). -/
def rebinds (old new : Bank) (k : Desc) : Bool :=
  let b := k.bridge.val
  let q := (quadOfBridge b).val
  decide (entryOf old.fabric b ≠ entryOf new.fabric b) ||
    decide (exciteOf old k.excite.val ≠ exciteOf new k.excite.val) ||
    decide (filterOf old q k.filter.val ≠ filterOf new q k.filter.val)

/-- Run-aheads that the new generation touches are withdrawn (R238). -/
def Dev.withdrawTouched (d : Dev) (old : Bank) : Dev :=
  forEach allLanes (fun n d =>
    match d.lanes[n].runAhead.bind d.ticket with
    | some k => if rebinds old d.alm k.desc then d.withdrawRunAhead n else d
    | none => d) d

/-- Puts a mover behind every mover that came to its queue earlier. -/
def insertMover (m : Nat × Nat × Fin 32 × Fin 32) : List (Nat × Nat × Fin 32 × Fin 32) → List (Nat × Nat × Fin 32 × Fin 32)
  | [] => [m]
  | a :: t => if a.2.1 ≤ m.2.1 then a :: insertMover m t else m :: a :: t

/-- One ticket moves to the tail of its new lane's queue (R237). -/
def Dev.moveTicket (m : Nat × Nat × Fin 32 × Fin 32) (d : Dev) : Dev :=
  let (t, _, src, dst) := m
  let d := (d.onLane src (fun l => { l with queue := l.queue.filter (· ≠ t) })).onLane dst (fun l =>
    { l with queue := l.queue ++ [t] })
  let d := d.onTicket t (fun k => { k with lane := dst, waitSince := none, order := d.queuings })
  ({ d with queuings := d.queuings + 1 }.onApply (fun a => { a with
    moved := tset 0 a.moved src.val (tget 0 a.moved src.val + 1) })).post (.freed dst)

/-- Every ticket that has not reached stage 4 and is bound to another lane moves (R237). -/
def Dev.moveTickets (d : Dev) : Dev := forEach ((d.movers d.alm).foldl (fun l m => insertMover m l) []) Dev.moveTicket d

/-- The keys that an image lists in a table. -/
def Image.listed (m : Image) (t : Tab) : List Nat :=
  match m.scan with
  | .whole l => (l.filter (fun s => decide (s.tab = some t))).flatMap (fun s => (s.entries m.bytes).map t.key)
  | _ => []

/-- The chronographs on the trigger edge: a listed entry whose contents differ restarts its channel, and one that the image
drops stops it (R499, R502; log entry 126). -/
def Dev.chrApply (d old : Dev) (listed : List Nat) : Dev :=
  forEach (List.finRange 64) (fun n d =>
    if entryOf d.alm.chrono n.val = entryOf old.alm.chrono n.val then d
    else if listed.contains n.val then d.chrRestart n (old.chrEntry n).prescale
    else d.chrDropped n (old.chrEntry n).prescale) d

/-- The device-scoped sections take effect (R233): axes, schedule entries, chronographs, the link, the non-binding fields
of outputs, and the initial host temperatures of listed reducers (R421, R481, R487, R502, R563, R737). A first almanac takes
effect as an activation brings it (log entry 40). -/
def Dev.applySections (d old : Dev) (m : Image) : Dev :=
  let d :=
    if old.almValid then
      let listed := m.listedTable
      let gone := (List.range 512).filter (fun i =>
        !listed.contains i && decide (entryOf d.alm.table i ≠ entryOf old.alm.table i))
      let d := (d.axesApply old).schedApply (listed ++ gone)
      ((d.chrApply old (m.listed .chrono)).linkApply old).loadHostTemps ((m.listed .reduce).map (toFin 7))
    else
      let d := (((d.axesActivate).schedActivate).chrActivate old).tripsNormal
      d.linkActivate.loadHostTemps (List.finRange 8)
  forEach (List.finRange 4) (fun q d => d.applyQuad q) d

/-- A plate of the generation that is now the old one (R236). -/
def Plate.grown (p : Plate) : Plate := { p with old := true }

/-- Plates on their way keep the generation they carry, and lanes theirs until they switch (R234, R236). -/
def Dev.keepOld (d : Dev) : Dev :=
  { d with
    lanes := d.lanes.map (fun l => { l with old := true, work := { l.work with plate := l.work.plate.map Plate.grown } })
    red := { d.red with
      direct := d.red.direct.map Plate.grown
      plates := d.red.plates.map Plate.grown
      reducers := d.red.reducers.map (fun r => { r with
        waiting := r.waiting.map Plate.grown, pipeline := r.pipeline.map Plate.grown }) } }

/-- GEN and SLOT of BOOT_STATUS go on describing the generation in force (R808). An image that software staged where none
was in force counts as one from the service port (log entry 119). -/
def Dev.noteGeneration (d : Dev) (gen : Byte) : Dev :=
  let w := setFld (d.rd .bootStatus) 24 8 gen.toNat
  d.wr .bootStatus (if Machine.fld w 14 2 = 0 then setFld w 14 2 3 else w)

/-- A plate of the old generation that `p` selects is still on its way to the logbook writer. -/
def Dev.oldPlate (d : Dev) (p : Plate → Bool) : Bool :=
  let q (x : Plate) : Bool := x.old && p x
  d.red.plates.any q || d.red.direct.any q || (List.finRange 8).any (fun r => d.red.reducers[r].waiting.any q || d.red.reducers[r].pipeline.any q)

/-- Lane n's CONFIG_APPLIED record may be handed over: no old plate of the lane is on its way, and of the records of lanes
that switched on the trigger edge none of a lower lane still waits (R241). -/
def Dev.laneRecordFree (d : Dev) (n : Fin 32) (r : Rec) : Bool :=
  !d.oldPlate (fun x => decide (x.lane = n)) &&
    !(decide (r.cycle = d.apply.edge) &&
      d.apply.owed.any (fun o => decide (o.1 < n) && decide (o.2.cycle = d.apply.edge)))

/-- A switched lane's CONFIG_APPLIED record is handed over, after its last old plate (R241, R243). -/
def Dev.configApplied (d : Dev) (n : Fin 32) : Dev :=
  match d.apply.owed.find? (fun o => decide (o.1 = n)) with
  | none => d
  | some (_, r) =>
    if d.apply.phase ≠ .mixed ∨ d.laneRecordFree n r = false then d
    else (d.handOver r).onApply (fun a => { a with owed := a.owed.filter (fun o => decide (o.1 ≠ n)) })

/-- The close edge, once every lane has switched, every old plate and every lane record has been handed over (R225,
R240, R242). -/
def Dev.applyClose (d : Dev) : Dev :=
  if d.apply.phase = .mixed ∧ d.apply.unswitched = [] ∧ d.apply.owed = [] ∧ d.oldPlate (fun _ => true) = false then
    let total := (d.apply.moved.map (·.2)).sum
    let d := d.handOver (d.appliedRecord .device 0 total (mkBit true 0) (d.clk.cycle - d.apply.edge))
    { d.onApply (fun a => { a with phase := .idle }) with stage := {}, oldAlm := {} }.setBits .applyStatus (mkBit true 25)
  else d

/-- An apply in which every lane has switched on the trigger edge, and no old plate is on its way, is atomic: the lanes'
records and the close come on that very edge (R240, R241). -/
def Dev.closeAtomic (d : Dev) : Dev :=
  if d.apply.unswitched = [] ∧ d.oldPlate (fun _ => true) = false then
    (forEach allLanes (fun n d => d.configApplied n) d).applyClose
  else d

/-- The accepted apply takes effect on its trigger edge (R233 to R240). -/
def Dev.applyAccept (d : Dev) : Dev :=
  let old := d
  let m := d.apply.image
  let d : Dev := { d with alm := d.apply.merged, oldAlm := if d.almValid then d.alm else {}, almValid := true }.keepOld
  let d := d.noteGeneration m.generation
  let d := (d.wr .applyStatus (setFld (d.rd .applyStatus) 8 8 0)).onApply (fun a => { a with
    phase := .mixed, edge := d.clk.cycle, oldGen := old.genInForce, newGen := m.generation, moved := []
    unswitched := allLanes, owed := [] })
  let d := (d.withdrawTouched old.alm).moveTickets
  let d := d.applySections old m
  (forEach allLanes (fun n d => if d.lanes[n].current = none then d.switchLane n else d) d).closeAtomic

/-- The trigger edge (R227, R232). -/
def Dev.applyTriggered (d : Dev) : Dev :=
  if d.apply.phase = .armed then
    let c := d.applyCode
    if c = .ok then d.applyAccept else d.endApply c
  else d

/-- A TRANSIT trigger stands at or past its position (Table 5.13). -/
def Dev.applyDue (d : Dev) : Bool :=
  decide (d.apply.phase = .armed) && match d.apply.trigger with
    | .transit a => atOrLater (d.axisPos a) (d.rd48 .applyAt)
    | _ => false

/-- A MARK of queue k is processed on this edge (Table 5.13). -/
def Dev.applyMark (d : Dev) (k : Fin 8) : Dev := if d.apply.trigger = .mark k then d.applyTriggered else d

/-! ### Arming, aborting and ending (R226 to R231, R240 to R243) -/

/-- The trigger that an APPLY_CTRL word selects (Table 5.13). -/
def triggerField (w : Word) : Option ApplyTrigger :=
  match Machine.fld w 2 2 with
  | 0 => some .immediate
  | 1 => some (.transit (toFin 7 (Machine.fld w 4 3)))
  | 2 => some (.mark (toFin 7 (Machine.fld w 8 3)))
  | _ => none

/-- APPLY_CTRL ARM (R226 to R228). The edge that accepts an IMMEDIATE arm, or a TRANSIT arm whose position has passed, is
the trigger edge. -/
def Dev.applyArm (d : Dev) (w : Word) : Result :=
  match triggerField w with
  | none => (.range, d)
  | some t =>
    checked d (lowest [(decide (d.stage.state ≠ .ready) || d.applying, .state)]) (fun d =>
      let d := d.onApply (fun a => { a with
        phase := .armed, trigger := t, log := toFin 15 (Machine.fld w 12 4), image := d.stage.image, merged := d.stage.merged })
      match t with
      | .immediate => d.applyTriggered
      | .transit a =>
        let d := if laterThan (d.axisPos a) (d.rd48 .applyAt) then d.setBits .applyStatus (mkBit true 24) else d
        if d.applyDue then d.applyTriggered else d
      | .mark _ => d)

/-- APPLY_CTRL ABORT (R230): from the trigger edge on it changes nothing, also where the edge of a TRANSIT trigger is the present
one. -/
def Dev.applyAbort (d : Dev) : Result :=
  match d.apply.phase with
  | .idle => (.state, d)
  | .armed =>
    if d.applyDue then (.ok, d.wr .applyStatus (setFld (d.rd .applyStatus) 16 8 Code.alreadyDone.num))
    else (.ok, (d.wr .applyStatus (setFld (d.rd .applyStatus) 16 8 Code.ok.num)).onApply (fun a => { a with phase := .idle }))
  | .mixed => (.ok, d.wr .applyStatus (setFld (d.rd .applyStatus) 16 8 Code.alreadyDone.num))

/-- An APPLY_CTRL write: exactly one command bit (R244), and no reserved TRIGGER (R15, Table 5.13). -/
def Dev.writeApplyCtrl (d : Dev) (w : Word) : Result :=
  if Machine.fld w 2 2 = 3 then (.range, d)
  else
  match Machine.fld w 0 2 with
  | 1 => d.applyArm w
  | 2 => d.applyAbort
  | _ => (.range, d)

/-- A write of APPLY_AT is refused while an apply is in progress (R244). -/
def Dev.writeApplyAt (d : Dev) (s : W48) : Result :=
  checked d (lowest [(d.applying, .state)]) (fun d => d.wr48 .applyAt s)

/-- The device enters SAFE with an apply armed (R231): the apply ends, and with it the staging (R225). -/
def Dev.applySafe (d : Dev) : Dev := if d.apply.phase = .armed then { d.endApply .state with stage := {} } else d

/-- The lane records and the close that the present edge makes due, in the order in which they are taken (R240 to R242). -/
def Dev.applyRows (d : Dev) : List Instr :=
  if d.apply.phase ≠ .mixed then []
  else
    let free := allLanes.filter (fun n => d.apply.owed.any (fun o => decide (o.1 = n) && d.laneRecordFree n o.2))
    let closes := decide (d.apply.unswitched = []) && decide (d.apply.owed = []) && !d.oldPlate (fun _ => true)
    free.map Instr.configAppliedLane ++ (if closes then [Instr.applyClose] else [])

/-! ### Register reads -/

/-- ALM_GEN as it reads (Table 5.15). -/
def Dev.readAlmGen (d : Dev) : Word :=
  let mixed := decide (d.apply.phase = .mixed)
  mkBit mixed 16 ||| at_ (if mixed then d.apply.oldGen.toNat else d.genInForce.toNat) 8 ||| at_ d.genInForce.toNat 0

/-- The generation of a lane. -/
def Dev.laneGen (d : Dev) (n : Fin 32) : Byte := if d.lanes[n].old then d.apply.oldGen else d.genInForce

/-- LANE_GEN as it reads (Table 5.16). -/
def Dev.readLaneGen (d : Dev) (w : Fin 8) : Word :=
  let g (j : Nat) : Word := at_ (d.laneGen (toFin 31 (4 * w.val + j))).toNat (8 * j)
  g 0 ||| g 1 ||| g 2 ||| g 3

/-- APPLY_STATUS as it reads (Table 5.16). -/
def Dev.readApplyStatus (d : Dev) : Word :=
  d.rd .applyStatus ||| at_ (match d.apply.phase with
    | .idle => 0
    | .armed => 1
    | .mixed => 2) 0

end Sys2Proof.Machine
end

