-- ==== Sys2Proof/Machine/Power.lean ====
section
/-! DEFINITION. Quadrants and their field power, CCLK and the PLLs, power domains, SAFE, sleep and heat
(01_architecture.md, 03_bring_up.md, 04_clocks_power_heat.md). -/
namespace Sys2Proof.Machine

/-! ### Quadrants (R52 to R54, R94 to R103, R174, R192, R193) -/

/-- The field side of a quadrant stops: drives, turrets, collimation and made slots (R102, R179, R192, R329, R445). -/
def Dev.quadStop (d : Dev) (q : Fin 4) : Dev :=
  forEach (xportsOf q) (fun x d => d.forceBreak x) ((d.collStop q).quadDrivesOff q)

/-- A quadrant takes the actions of R102. -/
def Dev.quadSafe (d : Dev) (q : Fin 4) : Dev := (d.quadStop q).quadClearCodes q

/-- The tickets queued or converting in a quadrant are cancelled (R52, R174, R192, R400). -/
def Dev.cancelQuad (d : Dev) (q : Fin 4) (cause : CancelCause) : Dev :=
  d.cancelWhere (fun k => k.onLaneQueue && decide (k.quad = q)) cause

/-- The turret buses of a quadrant lose their quadrant: what they held is forgotten. A card whose probe is cut short goes on
reading PROBING until BARRIER_UP rises again, since R323 ends no probe so (log entry 52). -/
def Dev.busLost (d : Dev) (q : Fin 4) : Dev :=
  forEach (xportsOf q) (fun x d =>
    ((d.dropWanted x false).onX x (fun p => { seq := p.seq, lastSeq := p.lastSeq, lastSent := p.lastSent, lastReply := p.lastReply })).onPort
      (xPort x) (fun p => { p with collimated := false })) d

/-- The rails of a quadrant are gone, or its barrier channel is (R52, R174): its tickets end with cause FIELD, its lanes
stop, and its outputs are at high impedance (R145). -/
def Dev.quadLost (d : Dev) (q : Fin 4) : Dev :=
  let d := d.cancelQuad q .field
  let d := ((d.collStop q).quadDrivesOff q).busLost q
  let d := d.onQuad q (fun k => { k with trained := false, barrierUp := false, configured := false, cfg := [] })
  let d := forEach (lanesOf q) (fun n d => d.onLane n (fun l => { l with resets := [] })) d
  (d.quadOutputsOff q).wr (.thermTemp (toFin 4 (q.val + 1))) (tempWord noTemp)

/-- The filtered PGOOD of a quadrant falls (R52, R96). -/
def Dev.pgoodFall (d : Dev) (q : Fin 4) : Dev :=
  if d.quads[q].fieldPg then ((d.onQuad q (fun k => { k with fieldPg := false })).quadLost q).wakeEvent 4 else d

/-- The filtered PGOOD of a quadrant rises (R54, R96). -/
def Dev.pgoodRise (d : Dev) (q : Fin 4) : Dev :=
  if d.quads[q].fieldPg then d else (d.onQuad q (fun k => { k with fieldPg := true })).wakeEvent 4

/-- A quadrant that is UP receives its configuration, when there is one (R98, R145, R146). -/
def Dev.sendConfig (d : Dev) (q : Fin 4) : Dev :=
  if d.quads[q].barrierUp && d.almValid then d.configureQuad q else d

/-- The barrier channel of a quadrant may train (R97, R174). FUSING has ended on the edge on which its fuses are loaded, also
while DEV_STATE still reads FUSING and waits for journal recovery (log entry 37). -/
def Dev.mayTrain (d : Dev) (q : Fin 4) : Bool := d.quads[q].fieldPg && !d.qOff q && d.boot.fused && !d.quads[q].trained

/-- The barrier channel of a quadrant is trained (R54, R97, R98, R323). In LOADING its configuration waits for the
activation. In SAFE, which R98 does not name, it is sent as in HELD and RUN (log entry 37). -/
def Dev.barrierTrained (d : Dev) (q : Fin 4) : Dev :=
  if d.mayTrain q = false then d
  else
    let d := d.onQuad q (fun k => { k with trained := true, barrierUp := true })
    let d := if d.boot.phase = .loading ∨ d.boot.phase = .fusing then d else d.sendConfig q
    forEach (xportsOf q) (fun x d => d.probeAll x) d

/-- QUAD_STATUS as it reads (Table 1.10). -/
def Dev.readQuadStatus (d : Dev) : Word :=
  (List.finRange 4).foldl (fun w q => w ||| mkBit d.quads[q].hotOff (12 + q.val) ||| mkBit d.quads[q].barrierUp (8 + q.val) |||
    mkBit d.quads[q].fieldPg (4 + q.val)) (at_ 15 0)

/-! ### SAFE (R111, R231, R401) -/

/-- BOOT_TIME takes the end of a LOADING in µs (R9, Table 3.11). -/
def Dev.noteBootTime (d : Dev) : Dev := d.wr .bootTime (BitVec.ofInt 32 (roundDiv d.clk.tau (65536 * 1000)))

/-- The device enters SAFE: its tickets end, its field side goes to safe levels, and its tables stop. -/
def Dev.enterSafe (d : Dev) (hot : Bool) : Dev :=
  let d := d.applySafe
  let d := d.cancelWhere (fun _ => true) .safe
  let d := forEach (List.finRange 4) (fun q d =>
    if hot then d.quadSafe q
    else ((forEach (portsOf q) (fun p d => d.cutPort p) (d.collStop q))).quadClearCodes q) d
  let d := if d.boot.phase = .loading then d.noteBootTime else d
  let d := d.onBoot (fun b => { b with phase := .safe, holding := false, sleeping := false, load := none, heldWaits := false })
  ((d.chrStopAll.schedStop).onClk (fun c => { c with ledgerRun := false, waking := false })).reduceSafe

/-! ### CCLK and the PLLs (R159 to R170) -/

/-- Switch-out: CCLK runs from REFCLK and every count is latched (Table 4.3 steps 1 to 4). -/
def Dev.switchOut (d : Dev) (unlock : Bool) : Dev :=
  let d := d.clkBreak true
  { d with
    clk := { d.clk with switch := some { unlock := unlock, old := d.clk.now }, now := .refclk }
    chronos := d.chronos.map (fun c => { c with countOut := some c.count }) }

/-- A CLK_CTRL write (R159, R161, R164). -/
def Dev.writeClkCtrl (d : Dev) (w : Word) : Result :=
  let sel := Machine.fld w 0 2
  checked d (lowest [(decide (sel = 3), .range), (d.clk.switch.isSome, .busy)]) (fun d =>
    if sel = d.fld .clkCtrl 0 2 then d else (d.wr .clkCtrl w).switchOut false)

/-- The CLOCK_CHANGE record of one running chronograph (R166, R678). -/
def Dev.clockChange (d : Dev) (s : ClkSwitch) (n : Fin 64) : Dev :=
  let c := d.chronos[n]
  let out := c.countOut.getD c.count
  if c.running then
    d.sysRecord .clockChange .chrono n.val (mkBit s.unlock 11 ||| at_ d.clk.now.code 8 ||| at_ s.old.code 4) (lo48 out)
      (hi48 out ||| at_ (hi48 c.count).toNat 16) (lo48 c.count)
  else d

/-- The core PLL locks: the first lock since reset takes CCLK to the selection, and a later one ends a switch (Table 3.5
step 2, Table 4.3 steps 5 to 7). -/
def Dev.corePllLock (d : Dev) : Dev :=
  if d.clk.now = .lpo then d
  else
    let now := cclkOf (d.fld .clkCtrl 0 2)
    match d.clk.switch with
    | some s =>
      let d := (d.clkBreak true).onClk (fun c => { c with now := now, switch := none, corePll := true })
      let d := forEach (List.finRange 64) (fun n d => d.clockChange s n) d
      { d with chronos := d.chronos.map (fun c => { c with countOut := none }) }
    | none => if d.clk.corePll then d else (d.clkBreak false).onClk (fun c => { c with now := now, corePll := true })

/-- The core PLL loses lock while CCLK runs from it (R168); a loss during a switch changes nothing. -/
def Dev.corePllUnlock (d : Dev) : Dev :=
  if d.clk.switch.isSome ∨ d.clk.corePll = false ∨ d.clk.now = .lpo ∨ d.boot.phase = .sleep then d
  else (d.setBits .clkStatus (mkBit true 9)).switchOut true

/-- The measurement PLL loses lock (R169, R279, R346). -/
def Dev.measPllUnlock (d : Dev) : Dev :=
  if d.clk.measPll = false then d
  else
    forEach allLanes (fun n d => d.voidBurst n false)
      ((d.setBits .clkStatus (mkBit true 10)).onClk (fun c => { c with measPll := false }))

/-- The measurement PLL locks, at a phase of its own (R169, R806). -/
def Dev.measPllLock (d : Dev) : Dev :=
  if d.clk.now = .lpo ∨ d.clk.measPll = true then d
  else d.onClk (fun c => { c with measPll := true, modLock := c.modLock + 1 })

/-- No REFCLK edge has come for 2 µs (R170, R462). -/
def Dev.refclkLoss (d : Dev) : Dev :=
  let d := (d.enterSafe false).clkBreak false
  let d := (d.setBits .clkStatus (mkBit true 11)).onClk (fun c => { c with now := .lpo, switch := none, measPll := false })
  d.axesEstimated

/-- CLK_STATUS as it reads (Table 4.7). -/
def Dev.readClkStatus (d : Dev) : Word :=
  (d.rd .clkStatus &&& at_ 0b1110 8) ||| mkBit d.clk.switch.isSome 8 ||| at_ d.clk.now.code 0

/-! ### Power domains (R171 to R175) -/

/-- The almanac in force, or either generation of a mixed window, binds a reducer (R172). -/
def Dev.reducerBound (d : Dev) : Bool :=
  (d.almValid && d.alm.bindsReducer) || (decide (d.apply.phase = .mixed) && d.oldAlm.bindsReducer)

/-- The almanac in force enables a link port (R173). -/
def Dev.linkBound (d : Dev) : Bool := d.almValid && ((linkOf d.alm).eastEn || (linkOf d.alm).westEn)

/-- A PD_CTRL write (R172 to R174). -/
def Dev.writePdCtrl (d : Dev) (w : Word) : Result :=
  let old := d.rd .pdCtrl
  let sets (i : Nat) : Bool := Machine.bit w i && !Machine.bit old i
  checked d (lowest [((sets 0 && d.reducerBound) || (sets 1 && d.linkBound), .bound)]) (fun d =>
    let d := d.wr .pdCtrl w
    let d := if sets 0 then d.cacheOff else if Machine.bit old 0 && !Machine.bit w 0 then d.cacheOn else d
    let d := forEach (List.finRange 4) (fun q d => if sets (2 + q.val) then d.quadLost q else d) d
    d.dropPorts)

/-- PD5 is on: until journal recovery has ended or a hot control die has stopped it, and while the vault may be read (R195,
R743, Table 4.4). -/
def Dev.vaultOn (d : Dev) : Bool := (d.vault.ready || (!d.boot.journalDone && !d.vault.stopping)) && decide (d.boot.phase ≠ .sleep)

/-- PD3 follows PERST_N and the power state of the PCIe link, which is low in D3hot and in SLEEP (R171, Table 4.4; log entry
117). -/
def Dev.hostPhyOn (d : Dev) : Bool := d.boot.perstHigh && !d.boot.d3hot && decide (d.boot.phase ≠ .sleep)

/-- REFCLK runs the PLLs of the link and of the measurement clocks; without it they stand (R170, R175, Table 4.1). -/
def Dev.refclkRuns (d : Dev) : Bool := decide (d.clk.now ≠ .lpo)

/-- PD4 is on: software leaves it on, its clock runs, and in SLEEP KEEP_LINK keeps it (R171, R175, Table 4.4). -/
def Dev.linkPhyOn (d : Dev) : Bool :=
  !d.bit .pdCtrl 1 && d.refclkRuns && (decide (d.boot.phase ≠ .sleep) || d.bit .sleepCtrl 3)

/-- PD_STATUS as it reads (R171, R175, Table 4.7): 0 on the edge of the reset itself, on which no clock has run yet (log
entry 117). -/
def Dev.readPdStatus (d : Dev) : Word :=
  let q (i : Fin 4) : Word := mkBit (d.quads[i].fieldPg && !d.qOff i && d.refclkRuns && d.clk.measPll) (8 + i.val)
  if d.clk.cycle = 0 then 0
  else
    at_ 0b11000011 0 ||| mkBit (d.reduceOn || (decide (d.boot.phase = .safe) && !d.reducersIdle)) 2 |||
      mkBit d.hostPhyOn 3 ||| mkBit d.linkPhyOn 4 ||| mkBit d.vaultOn 5 ||| q 0 ||| q 1 ||| q 2 ||| q 3

/-! ### Sleep (R176 to R188) -/

/-- A SLEEP_CTRL write: WAKE_EN bit 8 is always 1, and ENTER starts the entry (R176, R177, Table 4.8). A HOLD in progress
rejects ENTER with STATE, as HELD will (log entry 115). -/
def Dev.writeSleepCtrl (d : Dev) (w : Word) : Result :=
  let enter := Machine.bit w 0
  let open_ := decide (d.vault.phase ≠ .idle)
  checked d (lowest [
    (!Machine.bit w 8, .range), (enter && (decide (d.boot.phase ≠ .run) || d.boot.holding), .state),
    (enter && (open_ || d.applying || d.clk.switch.isSome), .busy)]) (fun d =>
    let d := d.wr .sleepCtrl (w &&& ~~~(mkBit true 0))
    if enter then
      (d.onBoot (fun b => { b with sleeping := true })).cancelWhere (fun k =>
        k.onLaneQueue && (decide (k.stage = .queued) || decide (k.stage = .runAhead))) .sleep
    else d)

/-- Nothing is left that the freeze edge waits for: no ticket converts, no pre-warm pulse runs (R267), no plate or CANCELLED
record is on its way, and every record has been admitted (R177 steps 3 and 6). -/
def Dev.mayFreeze (d : Dev) : Bool :=
  d.boot.sleeping && decide (d.boot.phase = .run) && !allLanes.any (fun n => d.lanes[n].current.isSome) && d.reducersIdle && decide (d.red.plates = []) &&
    decide (d.tripJobs = []) && decide (d.handed = []) && d.pool.all (fun e => e.2.cancelled.isNone) &&
    (List.finRange 136).all (fun p => decide (d.ports[p].pulse = none))

/-- The freeze edge (R178, R179, Table 4.4). -/
def Dev.freeze (d : Dev) : Dev :=
  if d.mayFreeze = false then d
  else
    let d := forEach (List.finRange 4) (fun q d => d.quadStop q) d
    let d := if d.bit .sleepCtrl 4 then forEach (List.finRange 4) (fun q d => d.quadClearCodes q) d else d
    let d := (d.schedStop.cacheOff).onVault (fun v => { v with ready := false })
    let d := d.onClk (fun c => { c with ledgerRun := true, ledger := 0, waking := false })
    (d.onBoot (fun b => { b with phase := .sleep, sleeping := false })).dropPorts

/-- The largest value of the ledger (R180). -/
def ledgerMax : Nat := 2 ^ 48 - 1

/-- One ledger tick in SLEEP (R178, R180). -/
def Dev.ledgerTick (d : Dev) : Dev :=
  if d.clk.ledgerRun && decide (d.clk.ledger < ledgerMax) then d.onClk (fun c => { c with ledger := c.ledger + 1 }) else d

/-- The ledger stands at LEDGER_ALARM, which is not 0 (Table 4.5). -/
def Dev.alarmDue (d : Dev) : Bool :=
  d.clk.ledgerRun && decide (d.rd48 .ledgerAlarm ≠ 0) && decide (d.clk.ledger = (d.rd48 .ledgerAlarm).toNat)

/-- The ledger reaches LEDGER_ALARM (R182). -/
def Dev.ledgerAlarm (d : Dev) : Dev := if d.alarmDue then d.wakeEvent 1 else d

/-- The ledger reaches full scale (R180). -/
def Dev.ledgerOverflow (d : Dev) : Dev :=
  if d.clk.ledgerRun ∧ d.clk.ledger = ledgerMax then
    (d.setBits .wakeStatus (mkBit true 8)).onClk (fun c => { c with ledgerRun := false })
  else d

/-- CCLK ticks of a ledger value, before the prescaler's residue (R184). -/
def Dev.catchTicks (d : Dev) (l : Nat) : Nat :=
  if d.bit .sleepCtrl 2 then (roundDiv ((l * d.hertz : Nat) : Int) 25000000).toNat
  else (roundDiv ((l * (d.rd .lpoPeriod).toNat * d.hertz : Nat) : Int) (65536 * 1000000000)).toNat

/-- A running chronograph advances by the ledger's span (R184, R185). -/
def Dev.catchUp (d : Dev) (l : Nat) (n : Fin 64) : Dev :=
  let c := d.chronos[n]
  if c.running = false then d
  else
    let e := d.chrEntry n
    let ticks := d.catchTicks l + c.residue
    let adv := ticks / 2 ^ e.prescale
    let toTerm := (d.rd48 (.chrTerm n) - c.count).toNat
    let stops := decide (e.mode = 2) && decide (toTerm ≠ 0) && decide (toTerm ≤ adv)
    let span := if stops then toTerm else adv
    let toCmp := (d.chrCompareAt n - c.count).toNat
    let passed := c.armed && decide (toCmp ≠ 0) && decide (toCmp ≤ span)
    let d := d.onChrono n (fun c => { c with
      count := c.count + BitVec.ofNat 48 span, residue := if stops then 0 else ticks % 2 ^ e.prescale, moved := false })
    let d := d.chrFlag n 15
    let d := if passed then
        let d := d.chrFlag n 8
        if d.bit (.chrCtrl n) 23 then d.chrFire n true else d.onChrono n (fun c => { c with armed := false })
      else d
    if stops then (d.chrTerminalEvent n).chrFlag n 9 else d

/-- τ on the resume edge (R482). -/
def Dev.resumeTau (d : Dev) : Int :=
  let l := d.clk.ledger
  if d.bit .sleepCtrl 2 then d.clk.tau + (l * 40 * 65536 : Nat)
  else
    let p : Int := d.period
    let span := roundDiv ((l * (d.rd .lpoPeriod).toNat : Nat) : Int) 65536 * 65536
    d.clk.tau + span / p * p

/-- Armed transit tickets whose position has been passed trigger on the resume edge (R380, R384). -/
def Dev.resumeTransits (d : Dev) : Dev :=
  forEach ((d.pool.filter (fun e => decide (e.2.stage = .armed) && d.transitDue e.2)).map (·.1)) (fun t d => d.trigger t true) d

/-- The resume edge (R183 to R186, R482, R483, R535, R711). Ring time of a node that is no timekeeper stands until the link delivers it
again (R483; log entry 136). What it brings to the chronographs comes first, channel by channel (R386,
R530, R536), then transits passed, and then expiries (log entry 124). -/
def Dev.resume (d : Dev) : Dev :=
  if d.boot.phase ≠ .sleep ∨ d.clk.waking = false then d
  else
    let d := ((d.chrBreakAll.clkBreak false).onClk (fun c => { c with
      cycle := c.cycle + 1, ledgerRun := false, waking := false, now := cclkOf (d.fld .clkCtrl 0 2) })).onBoot
      (fun b => { b with phase := .run })
    let d : Dev := { d with fired := 0 }
    let old := d
    let l := d.clk.ledger
    let d := d.onClk (fun c => { c with tau := d.resumeTau })
    let d := if d.isTimekeeper then d.onLink (fun k => { k with rho := d.clk.tau })
      else d.onLink (fun k => { k with mode := .waiting, spare := none })
    let d := (d.axesResume old (!d.bit .sleepCtrl 2)).chrResample
    let d : Dev := { d with caps := d.capsDue old }
    let catches := d.bit .sleepCtrl 1
    let d := forEach (List.finRange 64) (fun n d =>
      (if catches then d.catchUp l n else d).capsTake (fun m => decide (m = n))) d
    let d := d.onVault (fun v => { v with ready := true })
    let d := if d.reduceOn then d.cacheOn else d
    (d.resumeTransits.resumeExpiries.schedRestart).wakeRecord l false catches

/-- The low-power oscillator has been measured (R181). -/
def Dev.lpoMeasured (d : Dev) (p : Word) : Dev := if d.boot.phase = .run then d.wr .lpoPeriod p else d

/-! ### Heat (R189 to R195) -/

/-- A THERMAL record (R680). -/
def Dev.thermRecord (d : Dev) (die : Fin 5) (event : Nat) : Dev :=
  d.sysRecord .thermal .system die.val 0 (at_ event 24) (d.rd (.thermTemp die)) (d.rd (.thermWarn die))

/-- A die's temperature, when it has one. -/
def Dev.dieTemp (d : Dev) (die : Fin 5) : Option Int :=
  let t : BitVec 24 := (d.rd (.thermTemp die)).setWidth 24
  if t = noTemp then none else some t.toInt

/-- A die is compared with its WARN threshold (R190). -/
def Dev.thermCompare (d : Dev) (die : Fin 5) : Dev :=
  match d.dieTemp die with
  | none => d
  | some t =>
    let w := (d.rd (.thermWarn die)).toInt
    let on := d.bit .thermStatus die.val
    if !on && decide (w ≤ t) then
      ((d.setBits .thermStatus (mkBit true die.val)).thermRecord die 1).wakeEvent 5
    else if on && decide (t ≤ w - 5 * 65536) then
      (d.clrBits .thermStatus (mkBit true die.val)).thermRecord die 2
    else d

/-- A THERM_WARN write (R85, R86, R190). -/
def Dev.writeThermWarn (d : Dev) (die : Fin 5) (w : Word) : Result :=
  checked d (lowest [(!tempWordOk w || decide (w.toInt < 0) || decide (125 * 65536 < w.toInt), .range)]) (fun d =>
    (d.wr (.thermWarn die) w).thermCompare die)

/-- A quadrant reaches shutdown (R192). -/
def Dev.quadHot (d : Dev) (q : Fin 4) : Dev :=
  if d.quads[q].hotOff then d
  else
    let d := (d.cancelQuad q .thermal).onQuad q (fun k => { k with hotOff := true })
    ((d.quadStop q).quadOutputsOff q).thermRecord (toFin 4 (q.val + 1)) 3

/-- The control die reaches shutdown (R194, R195). -/
def Dev.controlHot (d : Dev) : Dev :=
  if d.bit .thermStatus 12 then d else ((d.setBits .thermStatus (mkBit true 12)).enterSafe true).vaultHot

/-- The die has reached its shutdown threshold (R191): no die does below the 127 °C of the rule, and between it and 133 °C
the part decides, which `shutdown` tells. A temperature word ends below 128 °C (R85). -/
def reachesShutdown (t : BitVec 24) (shutdown : Bool) : Bool := shutdown && decide (127 * 65536 ≤ t.toInt)

/-- A die's sensor is sampled (R189): a quadrant's only while its BARRIER_UP is 1. -/
def Dev.thermSample (d : Dev) (die : Fin 5) (t : BitVec 24) (shutdown : Bool) : Dev :=
  let q : Fin 4 := toFin 3 (die.val - 1)
  if die.val ≠ 0 ∧ d.quads[q].barrierUp = false then d
  else
    let d := (d.wr (.thermTemp die) (tempWord t)).thermCompare die
    if reachesShutdown t shutdown = false then d else if die.val = 0 then d.controlHot else d.quadHot q

/-- The conditions of QRESUME for one quadrant (R193). -/
def Dev.mayResume (d : Dev) (q : Fin 4) : Bool :=
  d.quads[q].hotOff && d.quads[q].barrierUp && match d.dieTemp (toFin 4 (q.val + 1)) with
    | some t => decide (t < 110 * 65536)
    | none => false

/-- A quadrant returns from thermal shutdown (R193). -/
def Dev.quadResume (d : Dev) (q : Fin 4) : Dev :=
  let d := d.onQuad q (fun k => { k with hotOff := false, cfg := d.alm.output })
  (d.quadClearCodes q).thermRecord (toFin 4 (q.val + 1)) 4

/-- A THERM_CTRL write (R193). -/
def Dev.writeThermCtrl (d : Dev) (w : Word) : Result :=
  let named := (List.finRange 4).filter (fun q => Machine.bit w q.val)
  checked d (lowest [(!named.all d.mayResume, .state)]) (fun d => forEach named (fun q d => d.quadResume q) d)

end Sys2Proof.Machine
end

