-- ==== Sys2Proof/Machine/Boot.lean ====
section
/-! DEFINITION. Reset, fuses, the boot sources, activation of an almanac, and the commands of BOOT_CTRL and FUSE_PROG_CTRL
(03_bring_up.md). -/
namespace Sys2Proof.Machine

/-! ### Reset (R90, R91, R99 to R104, R149 to R154) -/

/-- The fields of BOOT_STATUS that AON keeps: RST_CAUSE and APPLY_LOST (R101). -/
def aonBits : Word := at_ 0b11 8

/-- A device in its reset state (R101, R799). What lies outside the control die stays: the fitted cards, the level of
PERST_N, of CLR_N and of PGOOD, and the configurations that powered quadrants hold (R145). `aon`: the AON block keeps its
fields. The output stages stay as their quadrants drive them (R102). -/
def Dev.wiped (d : Dev) (aon : Bool) : Dev :=
  let fresh : Dev := {
    boot := { perstHigh := d.boot.perstHigh }
    clk := { modLock := d.clk.modLock + 1 }
    quads := d.quads.map (fun q =>
      { fieldPg := q.fieldPg, configured := q.configured, cfg := q.cfg, clrLow := q.clrLow })
    outs := d.outs, cards := d.cards, outputs := d.outputs, free := d.free }
  if aon then
    let fresh := (fresh.wr .bootStatus (d.rd .bootStatus &&& aonBits)).wr .wakeStatus (d.rd .wakeStatus)
    (fresh.wr48 .ledgerAlarm (d.rd48 .ledgerAlarm)).onClk (fun c => { c with ledger := d.clk.ledger })
  else fresh

/-- A quadrant without its control die breaks the slots its turret buses have made (R102). The control die's counter is gone, so
the frame carries SEQ 0, which R320 leaves open (log entry 51). -/
def Dev.breakMade (d : Dev) (x : Fin 8) : Dev :=
  match d.xports[x].made.or d.xports[x].closing with
  | some (c, s) =>
    let w := cmdFrame .brk { cmd := .brk, card := c, slot := s, all := true, why := .safety } 0
    ((d.emit (.busFrame x w)).cardsTake x w).onX x (fun p => { p with made := none, closing := none })
  | none => d

/-- A channel as its quadrant alone drives it: at the clear code of the stored configuration, held there by CLR_N while that
is low, or at high impedance when none is stored (R102, R145, R567). -/
def Dev.storedClear (d : Dev) (n : Fin 32) : Out :=
  let k := d.quads[quadOf8 n.val]
  let e := d.fieldEntry n
  if k.configured = false ∨ e.range = 0 then {}
  else { state := if k.clrLow then .clear else .drive, target := e.clear, range := e.range, refGain := e.refGain, alone := true }

/-- A quadrant acts by itself when its control die is in reset or silent (R102, R103): drivers at 0 V, turrets open, made
slots broken, and every output with a stored configuration at its clear code. Its channels carry no state of the control
die any more. -/
def Dev.quadAlone (d : Dev) (q : Fin 4) : Dev :=
  let d := forEach (xportsOf q) (fun x d => d.breakMade x) (d.quadDrivesOff q)
  forEach (outsOf q) (fun n d => d.onOut n (fun _ => d.storedClear n)) d

/-- The fuse bit that is being programmed is left reading 0 or 1, and a bit that is 1 stays 1 (R122, R154): a free value
decides (log entry 2). -/
def Dev.cutFuse (d : Dev) (v : NonVolatile) : Dev × NonVolatile :=
  match d.boot.programming with
  | none => (d, v)
  | some b =>
    let (f, d) := d.takeFree
    (d, { v with fuses := v.fuses ||| (f.setWidth 1).setWidth 4096 <<< b.toNat })

/-- RST_N low resets the control die (R99, R101, R102, R153, R154). In OFF there is nothing to reset. -/
def Dev.resetLow (d : Dev) (v : NonVolatile) : Dev × NonVolatile :=
  if d.boot.phase = .off then (d, v)
  else
    let (d, v) := d.cutFuse v
    let d := forEach (List.finRange 4) (fun q d => d.quadAlone q) d
    let lost := d.applying
    let d := (d.wiped true).setBits .bootStatus (mkBit true 9 ||| mkBit lost 8)
    (d.onBoot (fun b => { b with phase := .inReset }), v)

/-- What a channel's quadrant keeps of it when the control die is gone. -/
def Out.fieldSide (o : Out) : Out := { state := o.state, target := o.target, range := o.range, refGain := o.refGain }

/-- VAON or VCORE falls (R91, R154): everything goes but the nonvolatile cells; APPLY_LOST goes too when VCORE alone falls (log
entry 116). The field side keeps what it drives until it finds its downstream channel silent (R103). -/
def Dev.supplyLost (d : Dev) (v : NonVolatile) : Dev × NonVolatile :=
  let (d, v) := d.cutFuse v
  let w := d.wiped false
  let lanes := d.lanes.map (fun l => ({ closed := l.closed } : Lane))
  let xports := d.xports.map (fun x => ({ made := x.made, closing := x.closing } : XPort))
  ({ w with ports := d.ports, outs := d.outs.map Out.fieldSide, lanes := lanes, xports := xports, boot := { w.boot with phase := .off } }, v)

/-- MODE of BOOT_STATUS shows the sampled BOOT_MODE (Table 3.8). -/
def Dev.showMode (d : Dev) : Dev := d.wr .bootStatus (setFld (d.rd .bootStatus) 12 2 d.boot.mode.toNat)

/-- FUSING starts (R104, Table 3.5 step 1): BOOT_MODE is sampled and shows in BOOT_STATUS. -/
def Dev.startFusing (d : Dev) (mode : BitVec 2) : Dev :=
  (d.onBoot (fun b => { b with phase := .fusing, mode := mode, trainAfterFusing := b.perstHigh })).showMode

/-- The internal power-on reset releases (R90, R104, Table 3.3). By then a quadrant has found its channel silent (R103). -/
def Dev.porRelease (d : Dev) (mode : BitVec 2) (rstHigh : Bool) : Dev :=
  if d.boot.phase ≠ .off then d
  else
  let d := (forEach (List.finRange 4) (fun q d => d.quadAlone q) d).wiped true
  if rstHigh then d.startFusing mode else d.onBoot (fun b => { b with phase := .inReset })

/-- RST_N rises (R104, R109). -/
def Dev.rstRise (d : Dev) (mode : BitVec 2) : Dev := if d.boot.phase = .inReset then d.startFusing mode else d

/-- A quadrant finds its downstream channel silent (R103). With the control die running, the device knows that the
quadrant has stopped. What then becomes of a ticket at stage 4 or 5 the spec leaves open: it stays, and its lane drives the port
no more, since its connection is open (log entry 132). -/
def Dev.silent (d : Dev) (q : Fin 4) : Dev :=
  if d.boot.phase = .off ∨ d.boot.phase = .inReset then d.quadAlone q else d.quadSafe q

/-! ### HELD, and failing sources (R109, R128, R131, R136a, R141, R808) -/

/-- READY (R108). -/
def Dev.ready (d : Dev) : Bool :=
  match d.boot.phase with
  | .held => d.almValid && !d.bit .bootStatus 7
  | .run => true
  | .sleep => true
  | _ => false

/-- The device goes to HELD, once journal recovery has ended (R136a, R141). -/
def Dev.enterHeld (d : Dev) : Dev :=
  if d.boot.journalDone then
    let d := if d.boot.phase = .loading then d.noteBootTime else d
    d.onBoot (fun b => { b with phase := .held, load := none, heldWaits := false })
  else d.onBoot (fun b => { b with load := none, heldWaits := true })

/-- FAIL_PRI or FAIL_FB of BOOT_STATUS (Table 3.8). -/
def Dev.noteFail (d : Dev) (fallback : Bool) (r : Reason) : Dev :=
  d.wr .bootStatus (setFld (d.rd .bootStatus) (if fallback then 16 else 20) 4 r.code)

/-- Every permitted source has failed (Table 3.3). -/
def Dev.bootFailed (d : Dev) : Dev := (d.setBits .bootStatus (mkBit true 7)).enterHeld

/-- The read command that a source begins with, if the device reads it from flash: a directory copy by command 0x03 on one
line (R126), a slot in one continuous read as its directory says (R129). -/
def Load.readCommand (l : Load) : LoadSource → Option Output
  | .directoryA => some (.flashRead 0x03 0x0000 3 0 false)
  | .directoryB => some (.flashRead 0x03 0x1000 3 0 false)
  | .primary => some (.flashRead l.dir.readCmd l.dir.primary l.dir.addrBytes l.dir.dummy true)
  | .fallback => some (.flashRead l.dir.readCmd l.dir.fallback l.dir.addrBytes l.dir.dummy true)
  | .service => none
  | .link => none

/-- The load goes on with another source. -/
def Dev.loadFrom (d : Dev) (l : Load) (s : LoadSource) (announced : Option Nat) : Dev :=
  let d := match l.readCommand s with
    | some c => d.emit c
    | none => d
  d.onBoot (fun b => { b with load := some { l with source := s, image := { announced := announced }, passed := false } })

/-- A link boot is answered: the next expected offset and a code (R732, R733, Table 18.4). -/
def Dev.bootAck (d : Dev) (l : Load) (origin code : Nat) : Dev :=
  d.sendNormal .bootAck false false origin (at_ l.image.bytes.length 0 ||| at_ code 24) []

/-- The answer to the origin of a link boot (R733). -/
def Dev.answerOrigin (d : Dev) (l : Load) (code : Nat) : Dev :=
  match d.link.bootOrigin with
  | some o => if l.source = .link then d.bootAck l o code else d
  | none => d

/-- The code that a failing check of a link boot is answered with (R733). -/
def Reason.ack : Reason → Code
  | .crc => .crc
  | .auth => .auth
  | _ => .range

/-- The present source of a load fails (R131, R136, R139, R733). The timeout of a link boot is answered to nobody. -/
def Dev.sourceFails (d : Dev) (l : Load) (r : Reason) : Dev :=
  let d := if r = .linkTimeout then d else d.answerOrigin l r.ack.num
  match l.source with
  | .primary =>
    let d := d.noteFail false r
    if l.fallback.1 = 0 ∨ d.fuse 64 10 1 = 1 then d.bootFailed
    else if l.fallback.2 = false then (d.noteFail true .length).bootFailed
    else d.loadFrom l .fallback (some l.fallback.1)
  | .fallback => (d.noteFail true r).bootFailed
  | _ => (d.noteFail false r).bootFailed

/-- A LOADING begins (R109). -/
def Dev.startLoad (d : Dev) (boot : Bool) (s : LoadSource) (announced : Option Nat) : Dev :=
  (d.onBoot (fun b => { b with phase := .loading })).loadFrom { source := s, boot := boot } s announced

/-! ### FUSING (R117, R118, R123, R136a, R137, R141) -/

/-- The factory zone's CRC is right (R118). -/
def fusesOk (f : BitVec 4096) : Bool := decide (crc32 (leBytes 252 f.toNat) = BitVec.ofNat 32 (f.toNat / 2 ^ (32 * 63)))

/-- Journal recovery ends (R141, R743, R759). A hot control die has stopped it: it starts no further page, and the next boot
recovers (R195). -/
def Dev.journalEnds (d : Dev) (v : NonVolatile) : Dev × NonVolatile :=
  if d.boot.journalDone ∨ d.boot.phase = .off ∨ d.boot.phase = .inReset ∨ d.vault.stopping = true then (d, v)
  else
    let (code, v) := v.recover
    let d := d.wr .bootStatus (setFld (d.rd .bootStatus) 10 2 code)
    let d := ((d.onVault (fun x => { x with ready := true })).onBoot (fun b => { b with journalDone := true })).showSeq v
    (if d.boot.heldWaits then d.enterHeld else d, v)

/-- The fuses are loaded, a fused node ID is valid (R123, R718), and the device leaves FUSING as the CRC, BOOT_MODE and
LINK_BOOT_DISABLE require (Table 3.3). -/
def Dev.fused (d : Dev) (v : NonVolatile) : Dev :=
  if d.boot.phase ≠ .fusing ∨ d.boot.fused then d
  else
    let d := d.showMode.onBoot (fun b => { b with
      shadow := v.fuses, loaded := v.fuses, fused := true, training := b.training || b.trainAfterFusing
      trainAfterFusing := false })
    let d := if d.nodeFused then d.setNode (d.fuse 64 0 8) false else d
    if fusesOk v.fuses = false then (d.setBits .bootStatus (mkBit true 5)).enterSafe false
    else
      if d.boot.mode = 0 then d.startLoad true .directoryA none
      else if d.boot.mode = 1 then d.enterHeld
      else if d.boot.mode = 2 ∧ d.fuse 64 11 1 = 0 then d.startLoad true .link none
      else (d.noteFail false .mode).bootFailed

/-! ### The flash directory (R126 to R132) -/

/-- A directory copy has its magic and its CRC (R126, R127). -/
def dirSound (bs : List Byte) : Bool :=
  decide (bs.take 4 = [0x5A, 0x4B, 0x42, 0x44]) && decide (crc32 (bs.take 0x3C) = wordAt bs 0x3C)

/-- The fields of a directory are legal (R128). -/
def dirLegal (bs : List Byte) : Bool :=
  decide (field bs 4 2 = 1) && decide (field bs 6 2 = 0) && decide (field bs 0x19 1 < 16) &&
    (decide (field bs 0x1A 1 = 3) || decide (field bs 0x1A 1 = 4)) && allZero ((bs.drop 0x1B).take 33)

/-- A slot (offset, length) keeps the rules of Table 3.4, and does not overlap the directory copies or the other slot
(R128). -/
def slotLegal (a b : Nat × Nat) : Bool :=
  decide (a.1 % 0x10000 = 0) && decide (a.1 ≠ 0) && decide (a.2 % 4 = 0) && decide (0 < a.2) && decide (a.2 ≤ 4194304) &&
    (decide (b.2 = 0) || decide (a.1 + a.2 ≤ b.1) || decide (b.1 + b.2 ≤ a.1))

/-- The read of a directory copy completes (R126, R128, R131). -/
def Dev.dirRead (d : Dev) (bs : List Byte) : Dev :=
  match d.boot.load with
  | none => d
  | some l =>
    if l.source ≠ .directoryA ∧ l.source ≠ .directoryB then d
    else if dirSound bs = false then
      if l.source = .directoryA then d.loadFrom l .directoryB none else d.sourceFails l .dir
    else if dirLegal bs = false then d.sourceFails l .dir
    else
      let p := (field bs 8 4, field bs 0xC 4)
      let f := (field bs 0x10 4, field bs 0x14 4)
      let dir : FlashDir := {
        readCmd := BitVec.ofNat 8 (field bs 0x18 1), dummy := field bs 0x19 1, addrBytes := field bs 0x1A 1
        primary := p.1, fallback := f.1 }
      let l := { l with source := .primary, dir := dir, fallback := (f.2, slotLegal f p) }
      if slotLegal p f then d.loadFrom l .primary (some p.2) else d.sourceFails l .length

/-- The flash returns no data within 10 ms of a read command (R132). -/
def Dev.flashTimeout (d : Dev) : Dev :=
  match d.boot.load with
  | none => d
  | some l =>
    match l.source with
    | .service => d
    | .link => d
    | _ => if l.image.bytes = [] then d.sourceFails l .flashTimeout else d

/-! ### Checks of a boot image (R133, R807) -/

/-- The load's image changed by a function. -/
def Dev.onImage (d : Dev) (f : Image → Image) : Dev :=
  d.onBoot (fun b => { b with load := b.load.map (fun l => { l with image := f l.image }) })

/-- Checks 1 to 3 on the boot image as far as it has arrived. -/
def Dev.bootScan (d : Dev) : Dev :=
  match d.boot.load with
  | none => d
  | some l =>
    match l.image.scan with
    | .fail r => d.sourceFails l r
    | _ => d

/-- A source that the device reads by itself. -/
def LoadSource.isSlot : LoadSource → Bool
  | .primary => true
  | .fallback => true
  | _ => false

/-- A source whose image is an almanac image, and not a directory. -/
def LoadSource.isImage : LoadSource → Bool
  | .directoryA => false
  | .directoryB => false
  | _ => true

/-- Image bytes arrive from a flash slot, or the bytes that another source has brought are decided on (R807). -/
def Dev.bootSection (d : Dev) (bs : List Byte) : Dev :=
  match d.boot.load with
  | none => d
  | some l =>
    if l.passed || !l.source.isImage then d
    else if l.source.isSlot then (d.onImage (fun m => m.take bs)).bootScan
    else d.bootScan

/-- Checks 4 to 6 of a fully received boot image complete (R133, R807). -/
def Dev.bootChecks (d : Dev) : Dev :=
  match d.boot.load with
  | none => d
  | some l =>
    if l.passed || !l.image.ended || !l.source.isImage then d
    else
      match l.image.finish (d.imageSite false) with
      | some r => d.sourceFails l r
      | none => d.onBoot (fun b => { b with load := some { l with passed := true } })

/-- SLOT of a source (Table 3.8). -/
def LoadSource.slot : LoadSource → Nat
  | .primary => 1
  | .fallback => 2
  | _ => 3

/-- The inactive bank is activated (R134, R135, R141, R808, Table 3.5 step 10). It ends an apply that is armed or in its mixed
window, and empties staging (log entry 44). -/
def Dev.activate (d : Dev) (m : Image) (slot : Nat) : Dev :=
  let old := d
  let d : Dev := { d with
    alm := m.bank {}, almValid := true, oldAlm := {}, apply := {}, stage := {}
    lanes := d.lanes.map (fun l => { l with old := false }) }
  let d := d.wr .bootStatus (setFld (setFld (d.rd .bootStatus) 24 8 m.generation.toNat) 14 2 slot)
  let d := if d.bit .pdCtrl 0 && d.alm.bindsReducer then (d.clrBits .pdCtrl (mkBit true 0)).cacheOn else d
  let d := d.loadHostTemps (List.finRange 8)
  let d := (((d.axesActivate).schedActivate).chrActivate old).tripsNormal
  let d := d.linkActivate
  (forEach (List.finRange 4) (fun q d => d.sendConfig q) d).enterHeld

/-- IMAGE_ACTIVATION: the image has passed every check and journal recovery has ended (R134, R141). -/
def Dev.activation (d : Dev) : Dev :=
  match d.boot.load with
  | some l =>
    if l.passed && d.boot.journalDone then (d.activate l.image l.source.slot).answerOrigin l Code.ok.num else d
  | none => d

/-- A BOOT_DATA frame is accepted by this node (R732). In another state it changes nothing. -/
def Dev.takeBoot (d : Dev) (f : NormalFrame) : Dev :=
  match d.boot.load with
  | none => d
  | some l =>
    let o := f.origin.toNat
    let at0 := decide (f.arg.toNat = 0)
    if l.source ≠ .link then d
    else if d.link.bootOrigin ≠ some o ∧ (d.link.bootOrigin.isSome = true ∨ at0 = false) then
      d.bootAck l o (if d.link.bootOrigin.isSome then Code.busy.num else Code.ok.num)
    else if l.image.ended ∨ f.arg.toNat ≠ l.image.bytes.length then d.bootAck l o Code.ok.num
    else
      let last := f.flags.getLsbD 1
      let m := { l.image with bytes := l.image.bytes ++ f.payload, ended := last }
      let l := { l with image := m }
      let d := (d.onLink (fun k => { k with bootOrigin := some o })).onBoot (fun b => { b with load := some l })
      match m.scan with
      | .fail r => d.sourceFails l r
      | _ => if last then d else d.bootAck l o Code.ok.num

/-- BOOT_DATA arrives (R732, R733). -/
def Dev.bootDataIn (d : Dev) (e : LinkPort) (f : NormalFrame) : Dev :=
  d.takeNormal e .bootData f (fun d => if normalDirected f then d.takeBoot f else d)

/-- No link-boot image has fully arrived in 10 s (R136). -/
def Dev.linkBootTimeout (d : Dev) : Dev :=
  match d.boot.load with
  | some l => if l.source = .link ∧ l.image.ended = false then d.sourceFails l .linkTimeout else d
  | none => d

/-! ### Service loads and BOOT_CTRL (R114, R115, R138, R139, R808, Table 3.10) -/

/-- A service load is in progress, up to its activation edge. -/
def Dev.serviceLoad (d : Dev) : Option Load := d.boot.load.filter (fun l => decide (l.source = .service))

/-- R808: the failure fields of BOOT_STATUS are cleared. -/
def Dev.clearFails (d : Dev) : Dev := d.clrBits .bootStatus (at_ 0xFF 16 ||| mkBit true 7)

/-- An ALM_LOAD_LEN write (Table 3.11). -/
def Dev.writeLoadLen (d : Dev) (w : Word) : Result :=
  checked d (lowest [(decide (w.toNat % 4 ≠ 0) || decide (4194304 < w.toNat), .range)]) (fun d => d.wr .almLoadLen w)

/-- BOOT_CTRL LOAD (R138, Table 3.10). -/
def Dev.bootLoad (d : Dev) : Result :=
  let n := (d.rd .almLoadLen).toNat
  checked d (lowest [(decide (n = 0), .range), (decide (d.boot.phase ≠ .held), .state)]) (fun d =>
    d.clearFails.startLoad false .service (some n))

/-- BOOT_CTRL RELOAD_FLASH (R109, R116). -/
def Dev.reloadFlash (d : Dev) : Result :=
  checked d (lowest [(decide (d.boot.phase ≠ .held), .state)]) (fun d => d.clearFails.startLoad false .directoryA none)

/-- Every output drives its clear code (R114, R115, R572). -/
def Dev.allClearCodes (d : Dev) : Dev := forEach (List.finRange 4) (fun q d => d.quadClearCodes q) d

/-- BOOT_CTRL RELEASE (R114): every channel is at its clear code then (R572). -/
def Dev.bootRelease (d : Dev) : Result :=
  checked d (lowest [(decide (d.boot.phase ≠ .held) || !d.almValid, .state)]) (fun d =>
    (d.allClearCodes.onBoot (fun b => { b with phase := .run })).schedStart)

/-- BOOT_CTRL HOLD (R115, R445, R488). A second HOLD while one is in progress is rejected with STATE, though DEV_STATE still
reads RUN, and a SLEEP entry in progress is given up (log entry 115). -/
def Dev.bootHold (d : Dev) : Result :=
  checked d (lowest [(decide (d.boot.phase ≠ .run) || d.boot.holding, .state)]) (fun d =>
    let d := d.onBoot (fun b => { b with holding := true, sleeping := false })
    let d := d.cancelWhere (fun _ => true) .hold
    (forEach (List.finRange 4) (fun q d => d.collStop q) d).allClearCodes.schedStop)

/-- The last CANCELLED record of a HOLD has been handed over (R115), and every driver is at 0 V, as HELD has it (R148). -/
def Dev.holdComplete (d : Dev) : Dev :=
  if d.boot.phase = .run ∧ d.boot.holding = true ∧ d.pool.all (fun e => e.2.cancelled.isNone) = true ∧
      (List.finRange 136).all (fun p => decide (d.ports[p].drive = .off)) = true then
    d.allClearCodes.onBoot (fun b => { b with phase := .held, holding := false })
  else d

/-- BOOT_CTRL ABORT_LOAD (R139). -/
def Dev.abortLoad (d : Dev) : Result :=
  match d.serviceLoad with
  | some l => (.ok, d.sourceFails l .stalled)
  | none => (.state, d)

/-- A BOOT_CTRL write: exactly one command bit (Table 3.10). -/
def Dev.writeBoot (d : Dev) (w : Word) : Result :=
  match Machine.fld w 0 5 with
  | 1 => d.bootRelease
  | 2 => d.bootHold
  | 4 => d.bootLoad
  | 8 => d.reloadFlash
  | 16 => d.abortLoad
  | _ => (.range, d)

/-- An ALM_LOAD_DATA write (R138): exactly ALM_LOAD_LEN bytes of a service load are taken. A word after the last one, while
checks 4 to 6 run, is rejected with STATE (log entry 118). -/
def Dev.writeLoadData (d : Dev) (w : Word) : Result :=
  match d.serviceLoad with
  | some l => checked d (lowest [(l.image.ended, .state)]) (fun d => (d.onImage (fun m => m.take (leBytes 4 w.toNat))).bootScan)
  | none => (.state, d)

/-- No ALM_LOAD_DATA write has come for 1 s (R139). -/
def Dev.loadStalls (d : Dev) : Dev :=
  match d.serviceLoad with
  | some l => if l.image.ended then d else d.sourceFails l .stalled
  | none => d

/-! ### Fuse programming (R119 to R122, Table 3.12) -/

/-- A FUSE_PROG_CTRL write: GO programs one bit. -/
def Dev.writeFuseProg (d : Dev) (w : Word) : Result :=
  let b : BitVec 12 := w.setWidth 12
  if Machine.bit w 31 = false then (.ok, d)
  else
    checked d (lowest [
      (decide (d.boot.phase ≠ .held), .state),
      (decide (b.toNat < 2048) || d.boot.shadow.getLsbD (32 * 64 + 31), .locked),
      (d.boot.programming.isSome, .busy)]) (fun d => d.onBoot (fun x => { x with programming := some b }))

/-- The bit a fuse address names, alone. -/
def fuseBit (b : BitVec 12) : BitVec 4096 := 1#4096 <<< b.toNat

/-- Fuse programming ends, and the bit reads as `readBack` tells; one that reads 1 stays 1 (R121, R122). -/
def Dev.fuseDone (d : Dev) (v : NonVolatile) (readBack : Bool) : Dev × NonVolatile :=
  match d.boot.programming with
  | none => (d, v)
  | some b =>
    let m : BitVec 4096 := if readBack then fuseBit b else 0
    let v := { v with fuses := v.fuses ||| m }
    let d := d.onBoot (fun x => { x with programming := none, shadow := x.shadow ||| m })
    (d.setBits .fuseProgStatus (mkBit true 1 ||| mkBit (v.fuses &&& fuseBit b = 0) 2), v)

/-- FUSE_PROG_STATUS as it reads (Table 3.12). -/
def Dev.readFuseStatus (d : Dev) : Word := d.rd .fuseProgStatus ||| mkBit d.boot.programming.isSome 0

/-- BOOT_STATUS as it reads (Table 3.8). -/
def Dev.readBootStatus (d : Dev) : Word := d.rd .bootStatus ||| mkBit d.almValid 6

end Sys2Proof.Machine
end

