-- ==== Sys2Proof/Machine/Events.lean ====
section
/-! DEFINITION. The wires between engines: what one engine tells the others is worked off within the command (log entry
15), and the outcome of a command after that. -/
namespace Sys2Proof.Machine

/-- One wire reaches the engines at its other end. -/
def Dev.hear (d : Dev) : Ev → Dev
  | .pulse src => d.capPulse src
  | .level src high => d.capLevel src high
  | .captured n time => d.tachEdges n time
  | .blanked => d.voidShuttered
  | .urgent kind code target => d.sendUrgent kind code target
  | .freed _ => d.updateWaits.collWatch

/-- Works off wires in the order in which they were raised, at most `fuel` of them. -/
def Dev.settleN (d : Dev) : Nat → Dev
  | 0 => { d with events := [] }
  | fuel + 1 =>
    match d.events with
    | [] => d
    | e :: t => ({ d with events := t }.hear e).settleN fuel

/-- More wires than the engines of one command can raise. -/
def maxWires : Nat := 100000

/-- Every wire is worked off. -/
def Dev.settle (d : Dev) : Dev := d.settleN maxWires

/-- A command's effect on the device, wires included. -/
def settled (s : State) (d : Dev) : Host.Outcome State Fault Refusal := toDev s d.settle

/-- The same, for a command that reaches the nonvolatile cells. -/
def settledNv (s : State) (r : Dev × NonVolatile) : Host.Outcome State Fault Refusal := toDevNv s r.1.settle r.2

/-- An event that only a live control die takes. -/
def ifAlive (s : State) (f : Dev → Dev) : Host.Outcome State Fault Refusal :=
  settled s (if s.dev.alive then f s.dev else s.dev)

/-- An event that only a clocked control die takes. -/
def ifClocked (s : State) (f : Dev → Dev) : Host.Outcome State Fault Refusal :=
  settled s (if s.dev.clocked then f s.dev else s.dev)

end Sys2Proof.Machine
end

