-- ==== Sys2Proof/Machine/RegRead.lean ====
section
/-! DEFINITION. What a register reads as, and reads along the access paths, with RL latches and the side effects of reads
(00_scope.md Table 0.4, 16_host_interface.md, 21_register_index.md). -/
namespace Sys2Proof.Machine

/-! ### Registers (R26, R55, Tables 21.3 to 21.19) -/

/-- DEV_STATE (Table 1.11); before FUSING nothing can read it. -/
def Phase.code : Phase → Nat
  | .loading => 2
  | .held => 3
  | .run => 4
  | .sleep => 5
  | .safe => 6
  | _ => 1

/-- The bits of a FUSE_SHADOW word that Table 3.13 lists, or leaves to the board maker (words 97 to 127); the others are
reserved. -/
def shadowMask (w : Nat) : Word :=
  if w = 64 then 0x80001FFF
  else if w = 62 ∨ (75 ≤ w ∧ w ≤ 95) then 0
  else 0xFFFFFFFF

/-- Word w of FUSE_SHADOW (Table 3.13); a reserved bit reads 0 (R13). -/
def Dev.shadowWord (d : Dev) (w : Nat) : Word := BitVec.ofNat 32 (d.boot.shadow.toNat / 2 ^ (32 * w)) &&& shadowMask w

/-- Q_STATUS as it reads (Table 16.9). -/
def Dev.readQStatus (d : Dev) (k : Fin 8) : Word :=
  d.rd (.qStatus k) ||| mkBit (d.bit (.qCtrl k) 31 || d.queues[k].fetching) 31 ||| at_ d.queues[k].tail 16 |||
    at_ d.queues[k].head 0

/-- LB_STATUS as it reads (Table 17.9). -/
def Dev.readLbStatus (d : Dev) (b : Fin 16) : Word :=
  d.rd (.lbStatus b) ||| mkBit (decide (0 < d.buffered b)) 31 ||| mkBit d.logs[b].loss.isSome 30 ||| at_ (d.buffered b) 0

/-- The register's (low) word as a read returns it. Registers that are not named here read as they were stored. -/
def Dev.readLo (d : Dev) (r : Reg) : Word :=
  if r.access = .wo then 0
  else
    match r with
    | .id => d.rd .id ||| at_ (d.fuse 0 0 8) 0
    | .quadStatus => d.readQuadStatus
    | .devState => at_ d.boot.phase.code 0
    | .bootStatus => d.readBootStatus
    | .fuseProgStatus => d.readFuseStatus
    | .fuseShadow w => d.shadowWord w.val
    | .almGen => d.readAlmGen
    | .stageStatus => d.readStageStatus
    | .applyStatus => d.readApplyStatus
    | .laneGen w => d.readLaneGen w
    | .lbBuf => d.rd .lbBuf ||| at_ d.bufUsed 0
    | .poolStatus => d.readPoolStatus
    | .shutState => d.readShutState
    | .cacheStatus => d.readCacheStatus
    | .outQclrState => d.readQclrState
    | .tripPins => d.readTripPins
    | .ephStatus => d.readEphStatus
    | .lkStatus => d.readLkStatus
    | .lkRing => d.readLkRing
    | .lkRtime => BitVec.ofNat 32 d.ringNs
    | .lkPortDelay w => (d.link.side (if w = 0 then .east else .west)).delayWord
    | .lkMboxStatus => d.readMboxStatus
    | .lrStatus => d.readLrStatus
    | .lkBootStatus => d.readPushStatus
    | .clkStatus => d.readClkStatus
    | .pdStatus => d.readPdStatus
    | .ledger => BitVec.ofNat 32 d.clk.ledger
    | .vltStatus => d.readVltStatus
    | .qStatus k => d.readQStatus k
    | .lbTail b => at_ d.logs[b].tail 0
    | .lbStatus b => d.readLbStatus b
    | .lbSeq b => d.logs[b].seq
    | .lqStatus n => d.readLqStatus n
    | .raHandle n => d.readRaHandle n
    | .laneStatus n => d.readLaneStatus n
    | .turStatus n => d.readTurStatus n
    | .portStatus n => d.readPortStatus (toFin 135 n.val)
    | .xportStatus x => d.readPortStatus (xPort x)
    | .collStatus q => d.readCollStatus q
    | .tbStatus x => d.readTbStatus x
    | .outStatus n => d.readOutStatus n
    | .outTarget n => d.readOutTarget n
    | .outCode n => d.readOutCode n
    | .outCfg n => d.readOutCfg n
    | .chrStatus n => d.readChrStatus n
    | .chrCount n => lo48 d.chronos[n].count
    | .chrCfg n => d.readChrCfg n
    | .cmpStatus i => d.readCmpStatus i
    | .axStatus a => d.readAxStatus a
    | .axPos a => lo48 (d.axisPos a)
    | .axPeriod a => d.readAxPeriod a
    | .axEdge a => BitVec.ofNat 32 d.axes[a].e
    | .ephDue i => lo48 (d.schedDuePos i.val)
    | .ephEstate i => d.readEState i.val
    | .ephEfires i => d.readEFires i.val
    | r => d.rd r

/-- The high word of a two-half register as it stands (R620, Table 2.3). -/
def Dev.readHi (d : Dev) (r : Reg) : Word :=
  if r.access = .wo then 0
  else
    match r with
    | .lkRtime => BitVec.ofNat 32 (d.ringNs / 2 ^ 32)
    | .ledger => BitVec.ofNat 32 (d.clk.ledger / 2 ^ 32)
    | .chrCount n => hi48 d.chronos[n].count
    | .axPos a => d.stampHi a (d.axisPos a)
    | .ephDue i => hi48 (d.schedDuePos i.val)
    | r => d.rdHi r

/-- What a read of the (low) word does besides returning it: CHR_CAPTURE clears CAP_NEW (R532). -/
def Dev.readEffect (d : Dev) (r : Reg) : Dev :=
  match r with
  | .chrCapture n => d.onChrono n (fun c => { c with capNew := false })
  | _ => d

/-! ### Access paths (R26, R27, R612, R615, R617, R797) -/

/-- The number of an access path among latches and staging words; a request queue has none (R637, R638). -/
def pathSlot : Path → Option Nat
  | .pcie => some 0
  | .spi => some 1
  | .link => some 2
  | .queue _ => none

/-- The key of a register's latch or staging word of a path. -/
def halfKey (r : Reg) (slot : Nat) : Nat := 4 * r.offset + slot

/-- A word of the MSI-X table or of the Pending Bit Array, which stand outside the register list (R625, R801). -/
def Dev.msixWord (d : Dev) (off : Nat) : Option Word :=
  if 0x8000 ≤ off ∧ off < 0x8400 then
    let i := (off - 0x8000) / 4
    some (tget (if i % 4 = 3 then 1 else 0) d.boot.msixTable i)
  else if off = 0x9000 then some (d.boot.msixPending.setWidth 32)
  else if off = 0x9004 then some ((d.boot.msixPending >>> 32).setWidth 32)
  else none

/-- A read of one aligned word of BAR0 along a path: the word, and the device after it. -/
def Dev.busRead (d : Dev) (p : Path) (off : Nat) : Word × Dev :=
  match d.msixWord off with
  | some w => (w, d)
  | none =>
    match Reg.ofOffset off with
    | none => (0, d)
    | some (r, false) =>
      let w := d.readLo r
      let d := match pathSlot p with
        | some s => if r.isRL then { d with latches := tset r.resetHi d.latches (halfKey r s) (d.readHi r) } else d
        | none => d
      (w, d.readEffect r)
    | some (r, true) =>
      match pathSlot p with
      | some s => (if r.isRL then tget r.resetHi d.latches (halfKey r s) else d.readHi r, d)
      | none => (d.readHi r, d)

/-- A read of both halves on one edge, without a latch (R638, R728). -/
def Dev.busReadBoth (d : Dev) (off : Nat) : Word × Word × Dev :=
  match Reg.ofOffset off with
  | some (r, false) => (d.readLo r, d.readHi r, d.readEffect r)
  | _ => (0, 0, d)

end Sys2Proof.Machine
end

