-- ==== Sys2Proof/Machine/RegWrite.lean ====
section
/-! DEFINITION. Register writes: what a committed write of each register does, the rules of the device states and locks,
staging words, and the rejection log (00_scope.md, 03_bring_up.md R111 to R113, 16_host_interface.md). -/
namespace Sys2Proof.Machine

/-! ### Request queues (R627 to R630, R633) -/

/-- Q_CTRL EN. -/
def Dev.queueOn (d : Dev) (k : Fin 8) : Bool := d.bit (.qCtrl k) 31

/-- The number of entries of a queue. -/
def Dev.queueSize (d : Dev) (k : Fin 8) : Nat := 2 ^ d.fld (.qCtrl k) 0 4

/-- Pending entries (R630). -/
def Dev.queuePending (d : Dev) (k : Fin 8) : Nat :=
  (d.queues[k].tail + d.queueSize k - d.queues[k].head) % d.queueSize k

/-- The host address of entry i of a queue (R627). -/
def Dev.entryAddr (d : Dev) (k : Fin 8) (i : Nat) : Nat := d.rd64 (.qBase k) + 64 * i

/-- The next pending entry is fetched: its 64 bytes are asked for (R607, R609, R627, R629, R631). -/
def Dev.startFetch (d : Dev) (k : Fin 8) : Dev :=
  let q := d.queues[k]
  if d.queueOn k && d.canMaster && !q.fetching && !q.failed && decide (q.fetched.length < d.queuePending k) then
    (d.onQueue k (fun q => { q with fetching := true })).emit
      (.hostRead (d.entryAddr k ((q.head + q.fetched.length) % d.queueSize k)) 64)
  else d

/-- A queue stops: entries fetched and not processed are discarded (R633 to R635). -/
def Queue.stopped (q : Queue) : Queue := { q with fetched := [], stale := q.fetching, failed := false }

/-- The fetch of an entry has failed: FETCH_ERR is set, and the error source is signalled each time (R626, R634). -/
def Dev.fetchError (d : Dev) (k : Fin 8) : Dev :=
  let d := d.setBits (.qStatus k) (mkBit true 30)
  if d.bit (.qCtrl k) 7 then d.signal (d.vecOf (.qCtrl k)) else d

/-- A queue is disabled (R633 to R635). A failed fetch that waited behind fetched entries is told now (log entry 27). -/
def Dev.stopQueue (d : Dev) (k : Fin 8) : Dev :=
  let e := d.onQueue k Queue.stopped
  if d.queues[k].failed then e.fetchError k else e

/-- The enable bit 31 of a queue or logbook, which PERST_N low holds at 0 (R105; log entry 129). -/
def Dev.heldEnable (d : Dev) (w : Word) : Word := if d.boot.perstHigh then w else w &&& ~~~(mkBit true 31)

/-- A Q_CTRL write (R105, R627, R628, R633). -/
def Dev.writeQCtrl (d : Dev) (k : Fin 8) (w : Word) : Result :=
  let w := d.heldEnable w
  let old := d.rd (.qCtrl k)
  let size := Machine.fld w 0 4
  let changes := decide (size ≠ Machine.fld old 0 4) || decide (Machine.fld w 16 4 ≠ Machine.fld old 16 4)
  checked d (lowest [(decide (size < 4) || decide (12 < size), .range), (Machine.bit old 31 && changes, .state)]) (fun d =>
    let d := d.wr (.qCtrl k) w
    if !Machine.bit old 31 && Machine.bit w 31 then d.onQueue k (fun q => { q.stopped with head := 0, tail := 0 })
    else if Machine.bit old 31 && !Machine.bit w 31 then d.stopQueue k
    else d)

/-- A Q_DOORBELL write (R629). -/
def Dev.writeDoorbell (d : Dev) (k : Fin 8) (w : Word) : Result :=
  let t := Machine.fld w 0 12
  checked d (lowest [(decide (d.queueSize k ≤ t), .range), (!d.queueOn k, .state)]) (fun d =>
    (d.onQueue k (fun q => { q with tail := t })).startFetch k)

/-- A write of a two-half host address: aligned, and unchanged while its queue or logbook is enabled (R627, R628, R632,
R651, R652, R656). -/
def Dev.writeAddr (d : Dev) (r : Reg) (lo hi mask : Word) (enabled : Bool) : Result :=
  checked d (lowest [
    (decide (lo &&& mask ≠ 0), .align), (enabled && decide ((lo, hi) ≠ (d.rd r, d.rdHi r)), .state)]) (fun d =>
    (d.wr r lo).wrHi r hi)

/-! ### Logbooks (R651 to R654) -/

/-- An LB_CTRL write (R105, R651, R652, R664). -/
def Dev.writeLbCtrl (d : Dev) (b : Fin 16) (w : Word) : Result :=
  let w := d.heldEnable w
  let old := d.rd (.lbCtrl b)
  let size := Machine.fld w 0 5
  let changes := decide (size ≠ Machine.fld old 0 5) || decide (Machine.fld w 16 6 ≠ Machine.fld old 16 6)
  checked d (lowest [(decide (size < 6) || decide (16 < size), .range), (Machine.bit old 31 && changes, .state)]) (fun d =>
    let d := d.wr (.lbCtrl b) w
    if !Machine.bit old 31 && Machine.bit w 31 then
      ((d.wr (.lbHead b) 0).onLog b (fun l => { l with tail := 0 })).drain b
    else d)

/-- An LB_HEAD write (R654, R664). -/
def Dev.writeLbHead (d : Dev) (b : Fin 16) (w : Word) : Result :=
  let n := d.ringSize b
  let h := Machine.fld w 0 16
  let ahead (x : Nat) : Nat := (x + n - d.ringHead b) % n
  checked d (lowest [
    (decide (n ≤ h) || decide (ahead d.logs[b].tail < ahead h), .range), (!d.logOn b, .state)]) (fun d =>
    (d.wr (.lbHead b) w).drain b)

/-! ### A committed write of each register -/

/-- A register whose fields are stored as written, under a range check. -/
def Dev.store (d : Dev) (r : Reg) (w : Word) (bad : Bool) : Result := checked d (lowest [(bad, .range)]) (fun d => d.wr r w)

/-- A two-half register that is stored as written. -/
def Dev.store2 (d : Dev) (r : Reg) (lo hi : Word) : Result := (.ok, (d.wr r lo).wrHi r hi)

/-- A PORT_CTRL or XPORT_CTRL write; a burst under a line that the new mask names is voided (R276). -/
def Dev.writePortCtrl (d : Dev) (r : Reg) (w : Word) : Result := (.ok, (d.wr r w).post .blanked)

/-- REJECT_LOG VALID is cleared (R622). -/
def Dev.clearRejects (d : Dev) (w : Word) : Dev :=
  if Machine.bit w 31 then (((d.wr .rejectLog 0).wr .rejectOffset 0).wr .rejectValue 0).wr .rejectValueHi 0 else d

/-- Writing 1 to LK_SHUT_LINK bits (R709). -/
def Dev.clearShutLink (d : Dev) (w : Word) : Dev := d.changeShutter (fun d => d.clrBits .lkShutLink (w &&& 0xFF))

/-- A write of a register of W1C fields (Table 0.4). -/
def Dev.writeW1c (d : Dev) (r : Reg) (w : Word) : Result :=
  match r with
  | .rejectLog => (.ok, d.clearRejects w)
  | .shutTrip => d.clearShutTrip w
  | .outStatus n => checked d (lowest [(d.unconfigured n, .notPresent)]) (fun d => d.clrBits r (w &&& r.w1c))
  | .outQclrTrip => (.ok, d.setClearSource .outQclrTrip (d.rd .outQclrTrip &&& ~~~w))
  | .tripHeld => d.clearTripHeld w
  | .lkShutLink => (.ok, d.clearShutLink w)
  | r => (.ok, d.clrBits r (w &&& r.w1c))

/-- An LR_CMD write whose access cannot run, since one is outstanding (R727). -/
def Dev.lrBusy (d : Dev) (w : Word) : Result := (if Machine.bit w 31 then .busy else .range, d)

/-- What a committed write of a register does, with the code its own rules give. `lo` is the word written, `hi` the high
word of a two-half register; `lr` is what an LR_CMD write does. -/
def Dev.commitReg (lr : Dev → Word → Result) (d : Dev) (p : Path) (r : Reg) (lo hi : Word) : Result :=
  if r.w1c ≠ 0 then d.writeW1c r lo
  else
    match r with
    | .bootCtrl => d.writeBoot lo
    | .almLoadLen => d.writeLoadLen lo
    | .almLoadData => d.writeLoadData lo
    | .fuseProgCtrl => d.writeFuseProg lo
    | .stageCtrl => d.writeStageCtrl lo
    | .stageLen => d.writeStageLen lo
    | .stageData => d.writeStageData lo
    | .applyCtrl => d.writeApplyCtrl lo
    | .applyAt => d.writeApplyAt (of48 lo hi)
    | .poolReserve => d.store r lo (decide (2047 < Machine.fld lo 0 12))
    | .poolHwm => checked d (lowest [(decide (lo ≠ 0), .range)]) (fun d => d.wr .poolHwm (at_ d.pool.length 0))
    | .lqLimit _ => d.store r lo (decide (Machine.fld lo 0 12 = 0) || decide (2048 < Machine.fld lo 0 12))
    | .collCmd => d.writeCollCmd lo
    | .collPeriod q => d.writeCollPeriod q lo
    | .shutCfg => d.writeShutCfg lo
    | .shutForce => d.writeShutForce lo
    | .outQclrForce => (.ok, d.setClearSource .outQclrForce lo)
    | .chrArm => d.writeChrArm lo hi
    | .tripCfg => d.writeTripCfg lo
    | .lkCmd => d.writeLkCmd lo
    | .lkMboxData => d.store2 r lo hi
    | .lkMboxSend => d.writeMboxSend lo
    | .lrData => d.store2 r lo hi
    | .lrCmd => lr d lo
    | .lkRkey => (.ok, d.onLink (fun l => { l with rkey := lo }))
    | .lkBootLen => d.writeBootLen lo
    | .lkBootCtrl => d.writeBootCtrl lo
    | .lkBootData => d.writeBootData lo
    | .clkCtrl => d.writeClkCtrl lo
    | .pdCtrl => d.writePdCtrl lo
    | .sleepCtrl => d.writeSleepCtrl lo
    | .ledgerAlarm => d.store2 r lo hi
    | .thermCtrl => d.writeThermCtrl lo
    | .thermWarn w => d.writeThermWarn w lo
    | .vltCmd => d.writeVltCmd p lo
    | .vltBuf i => d.writeVltBuf p i lo
    | .qCtrl k => d.writeQCtrl k lo
    | .qBase k => d.writeAddr r lo hi 0x3F (d.queueOn k)
    | .qHeadWb k => d.writeAddr r lo hi 0x3 (d.queueOn k)
    | .qDoorbell k => d.writeDoorbell k lo
    | .lbCtrl b => d.writeLbCtrl b lo
    | .lbBase b => d.writeAddr r lo hi 0x3F (d.logOn b)
    | .lbTailWb b => d.writeAddr r lo hi 0x7 (d.logOn b)
    | .lbHead b => d.writeLbHead b lo
    | .laneOvrCnt _ => d.store r lo (decide (lo ≠ 0))
    | .portCtrl _ => d.writePortCtrl r lo
    | .xportCtrl _ => d.writePortCtrl r lo
    | .tbCtrl x => d.writeTbCtrl x lo
    | .tbTimeout _ => d.store r lo (decide (Machine.fld lo 0 16 < 16))
    | .tbCmd x => d.writeTbCmd x lo
    | .redHostTemp k => d.writeHostTemp k lo
    | .outCtrl n => d.writeOutCtrl n lo
    | .outValue n => d.writeOutValue n lo
    | .outQpush n => d.writeOutQpush n lo
    | .outCmd n => d.writeOutCmd n lo
    | .chrCtrl n => d.writeChrCtrl n lo
    | .chrCount n => d.writeChrCount n (of48 lo hi)
    | .chrCompare n => d.writeChrCompare n (of48 lo hi)
    | .chrCmpPeriod n => d.writeChrCmpPeriod n (of48 lo hi)
    | .chrTerm n => d.writeChrTerm n (of48 lo hi)
    | .chrCmd n => d.writeChrCmd n lo
    | .axCtrl a => d.writeAxCtrl a lo
    | .axSet a => d.writeAxSet a (of48 lo hi)
    | r => d.store r lo false

/-! ### Device states, locks and paths (R111 to R113, R613, R615, R648) -/

/-- The offsets whose writes HELD accepts (R112, Table 21.1). -/
def heldRegion (off : Nat) : Bool :=
  decide (off < 0x100000) || (decide (0x340000 ≤ off) && decide (off < 0x380000)) || decide (0x3C0000 ≤ off)

/-- The device state refuses a register write at an offset; `w1c` and `load` tell whether the register holds W1C fields,
is LB_HEAD, or belongs to a service load. -/
def Dev.stateRefuses (d : Dev) (off : Nat) (w1c head load : Bool) : Bool :=
  match d.boot.phase with
  | .safe => !w1c && !head
  | .fusing => !w1c
  | .loading => !w1c && !load
  | .held => !heldRegion off
  | _ => false

/-- The service port is read-only (R648). -/
def Dev.spiLocked (d : Dev) (p : Path) : Bool :=
  decide (p = .spi) && decide (d.boot.phase = .run) && decide (d.fuse 64 12 1 = 1)

/-- The rules of the device state and of the locks for a register at an offset (R111 to R113, R648, R729). -/
def Dev.gate (d : Dev) (p : Path) (r : Reg) (off : Nat) : Code :=
  lowest [
    (d.stateRefuses off (decide (r.w1c ≠ 0)) (match r with
      | .lbHead _ => true
      | _ => false) (decide (r = .almLoadData) || decide (r = .bootCtrl)), .state),
    (d.spiLocked p || (decide (p = .link) && decide (r = .lkRkey)), .locked)]

/-- The high word that a path has staged for a register (R618). -/
def Dev.stagedHi (d : Dev) (p : Path) (r : Reg) : Word :=
  match pathSlot p with
  | some s => tget (if r.access = .wo then 0 else r.resetHi) d.staging (halfKey r s)
  | none => 0

/-- The commit of a register write: every rule that applies is tried, and the lowest code decides (R16, R18, R619).
`extra` is what the caller's rules give. -/
def Dev.commitAt (lr : Dev → Word → Result) (d : Dev) (p : Path) (r : Reg) (lo hi : Word) (extra : Code) : Result :=
  let (own, d') := d.commitReg lr p r lo hi
  let c := Code.lower own (lowest [(true, extra), (true, d.gate p r r.offset),
    (decide (lo &&& r.reservedLo ≠ 0) || (r.wide && decide (hi &&& r.reservedHi ≠ 0)), .reservedSet)])
  if c = .ok then (.ok, d') else (c, d)

/-- A write of one word of BAR0 along a path, by its offset: what it does, its code, and the high word that a two-half
commit took (R14, R28, R613, R615, R619, R622, R624, R805). A whole word written to REJECT_LOG is never rejected, on the link not
for its key either. -/
def Dev.writeAt (lr : Dev → Word → Result) (d : Dev) (p : Path) (off : Nat) (w : Word) (extra : Code) : Code × Word × Dev :=
  match Reg.ofOffset off with
  | none =>
    (Code.lower extra (lowest [(true, if off % 4 = 0 then .notPresent else .align), (d.stateRefuses off false false false, .state),
      (d.spiLocked p, .locked)]), 0, d)
  | some (r, high) =>
    if r.access = .ro then (.ok, 0, d)
    else if r = .rejectLog then
      if extra = .ok ∨ extra = .auth then (.ok, 0, d.clearRejects w) else (extra, 0, d)
    else if r.wide = false then
      let (c, d) := d.commitAt lr p r w 0 extra
      (c, 0, d)
    else if r.access = .rl then (Code.lower extra (Code.lower (d.gate p r off) .state), 0, d)
    else if high then
      let c := Code.lower extra (lowest [(true, d.gate p r off), (decide (w &&& r.reservedHi ≠ 0), .reservedSet)])
      match pathSlot p with
      | some s =>
        if c = .ok then
          (.ok, 0, { d with staging := tset (if r.access = .wo then 0 else r.resetHi) d.staging (halfKey r s) w })
        else (c, 0, d)
      | none => (Code.lower .range c, 0, d)
    else
      let hi := d.stagedHi p r
      let (c, d) := d.commitAt lr p r w hi extra
      (c, hi, d)

/-! ### REJECT_LOG (R621 to R623, R626) -/

/-- The PATH code of a rejected write: BAR2 stands for the PCIe path's other BAR. -/
def pathReject : Path → Bool → Nat
  | .pcie, false => 0
  | .pcie, true => 1
  | .spi, _ => 2
  | .link, _ => 3
  | .queue _, _ => 0

/-- A rejected write is logged (R621), with the high word of a two-half commit and 0 for any other write; a rise of VALID signals
its vector (R626). -/
def Dev.logReject (d : Dev) (path : Nat) (off : Word) (lo hi : Word) (c : Code) : Dev :=
  if d.bit .rejectLog 31 then d.countFld .rejectLog 16 8 1
  else
    let d := (((d.wr .rejectLog (mkBit true 31 ||| at_ path 28 ||| at_ 1 16 ||| at_ c.num 0)).wr .rejectOffset off).wr
      .rejectValue lo).wr .rejectValueHi hi
    if d.bit .hostIntCtrl 0 then d.signal (d.vecOf .hostIntCtrl) else d

/-- A word of the MSI-X table or of the Pending Bit Array is written (R625, R648, R801): the PBA is read-only, and of a
vector control word only the mask bit is kept. PERST_N low holds MSI-X in reset (R105; log entry 129). -/
def Dev.writeMsix (d : Dev) (p : Path) (off : Nat) (w : Word) (extra : Code) : Code × Dev :=
  let c := Code.lower extra (if d.spiLocked p then .locked else .ok)
  if c ≠ .ok ∨ 0x8400 ≤ off then (c, d)
  else if d.boot.perstHigh = false then (.ok, d)
  else
    let i := (off - 0x8000) / 4
    let w := if i % 4 = 3 then w &&& 1 else if i % 4 = 0 then w &&& ~~~3 else w
    (.ok, d.onBoot (fun b => { b with msixTable := tset (if i % 4 = 3 then 1 else 0) b.msixTable i w }))

/-! ### LR_CMD (R727, R728) -/

/-- A remote access as it runs at its target, on the link path: its code, and the words it returns (R637, R728, R729).
`keyOk` tells whether the key that came with a write is the right one. -/
def Dev.accessRun (lr : Dev → Word → Result) (d : Dev) (v : NonVolatile) (a : RemoteAccess) (keyOk : Bool) :
    Code × Word × Word × Dev :=
  let unit := if a.twoHalf then 8 else 4
  let size := if a.bar2 then 0x100000 else 0x400000
  let reg := if a.bar2 then none else Reg.ofOffset a.offset
  let lowHalf := decide ((reg.map (fun r => r.1.wide && !r.2)) = some true)
  let form := lowest [(decide (a.offset % unit ≠ 0), .align), (decide (size ≤ a.offset), .range),
    (a.twoHalf && !lowHalf, .range)]
  let offset : Word := at_ a.offset 0 ||| mkBit a.bar2 31
  if a.write then
    let extra := Code.lower form (if keyOk then .ok else .auth)
    let (c, hi, d) :=
      if a.bar2 then (Code.lower extra .state, 0, d)
      else if a.twoHalf then
        match reg with
        | some (r, false) =>
          if r.access = .rl ∨ r.access = .ro then
            (Code.lower extra (Code.lower (d.gate .link r a.offset) .state), 0, d)
          else
            let (c, d) := d.commitAt lr .link r a.lo a.hi extra
            (c, if r.wide then a.hi else 0, d)
        | _ => (Code.lower extra .range, 0, d)
      else if (d.msixWord a.offset).isSome then
        let (c, d) := d.writeMsix .link a.offset a.lo extra
        (c, 0, d)
      else d.writeAt lr .link a.offset a.lo extra
    if c = .ok then (.ok, 0, 0, d) else (c, 0, 0, d.logReject 3 offset a.lo hi c)
  else if form ≠ .ok then (form, 0, 0, d)
  else if a.bar2 then (.ok, d.bar2Word v a.offset, 0, d)
  else if a.twoHalf then
    let (lo, hi, d) := d.busReadBoth a.offset
    (.ok, lo, hi, d)
  else
    let (w, d) := d.busRead .link a.offset
    (.ok, w, 0, d)

/-- The key of a write is right: LK_RKEY is 0 or equals it (R729). -/
def Dev.keyOk (d : Dev) (key : Word) : Bool := decide (d.link.rkey = 0) || decide (d.link.rkey = key)

/-- An LR_CMD write: GO is its one command bit. Without a valid ID of its own the node has no target to name (R719,
R727). -/
def Dev.writeLrCmd (v : NonVolatile) (d : Dev) (w : Word) : Result :=
  let node := Machine.fld w 0 8
  let a := d.newAccess (Machine.bit w 17) (Machine.bit w 16) node
  if Machine.bit w 31 = false then (.range, d)
  else
    checked d (lowest [(d.link.access.isSome, .busy), (!d.link.idValid, .state)]) (fun d =>
      let d := d.onLink (fun l => { l with rid := a.rid, access := some a, tries := 1 })
      if d.ownNode = some node then
        let (c, lo, hi, d) := d.accessRun Dev.lrBusy v { a with tries := 0 } (d.keyOk a.key)
        d.accessDone { a with tries := 0 } c.num lo hi
      else d.sendAccess a)

/-! ### One register write (R616 to R622) -/

/-- The device takes register accesses along a path now: PCIe memory requests reach an assigned BAR0 while Memory Space
Enable is 1 (R144), the service port serves frames outside reset (R642), and remote accesses run while the control die is
clocked (R731). -/
def Dev.portOpen (d : Dev) : Path → Bool
  | .pcie => d.alive && d.boot.perstHigh && d.boot.memSpace && d.boot.bar0.isSome
  | .spi => d.alive
  | .link => d.clocked
  | .queue _ => false

/-- An accepted word at a BAR0 offset is committed: it is neither ignored (R14, R801) nor the high half of a two-half register,
which is only staged (R28). -/
def commits (off : Nat) : Bool :=
  (decide (0x8000 ≤ off) && decide (off < 0x8400)) || (match Reg.ofOffset off with
    | some (r, high) => decide (r.access ≠ .ro) && !high
    | none => false)

/-- SPI_STATUS takes a word of the frame, which committed so many words if it was accepted (Table 16.8). -/
def Dev.spiWord (d : Dev) (p : Path) (c : Code) (n : Nat) : Dev :=
  if p ≠ .spi then d
  else if c = .ok then d.countFld .spiStatus 0 16 n
  else if d.bit .spiStatus 31 then d
  else d.wr .spiStatus (setFld (d.rd .spiStatus) 16 8 c.num ||| mkBit true 31)

/-- A PCIe request is the HOST wake event (Table 4.5): in SLEEP it wakes the device and completes after the resume edge
(R182, R187), and before the freeze edge it ends the entry (R188). -/
def Dev.hostWakes (d : Dev) (p : Path) : Dev :=
  if p ≠ .pcie ∨ d.boot.perstHigh = false then d
  else if d.boot.phase = .sleep then (d.wakeEvent 0).resume
  else if d.boot.sleeping then d.wakeEvent 0
  else d

/-- A memory request that reaches the endpoint while its BAR takes none completes with Unsupported Request (R144). -/
def Dev.turnedAway (d : Dev) (p : Path) : Dev :=
  if p = .pcie ∧ d.alive = true ∧ d.boot.perstHigh = true then d.emit .unsupported else d

/-- A register write along an access path: it commits, is ignored, or is rejected and logged (R16, R17, R616 to R622).
`logged` is the offset as REJECT_OFFSET shows it. -/
def Dev.putWord (d : Dev) (v : NonVolatile) (p : Path) (off : Nat) (logged : Word) (w : Word) (extra : Code) : Code × Dev :=
  if (d.msixWord off).isSome then
    let (c, d) := d.writeMsix p off w extra
    (c, if c = .ok then d else d.logReject (pathReject p false) logged w 0 c)
  else
    let (c, hi, d) := d.writeAt (Dev.writeLrCmd v) p off w extra
    (c, if c = .ok then d else d.logReject (pathReject p false) logged w hi c)

/-- A register write along an access path, as SPI_STATUS counts it (Table 16.8). -/
def Dev.busWriteAs (d : Dev) (v : NonVolatile) (p : Path) (off : Nat) (logged : Word) (w : Word) (extra : Code) : Dev :=
  let (c, d) := d.putWord v p off logged w extra
  d.spiWord p c (if commits off then 1 else 0)

/-- A register write at its BAR0 offset, when the path is open. -/
def Dev.busWrite (d : Dev) (v : NonVolatile) (p : Path) (off : Nat) (w : Word) : Dev :=
  let d := d.hostWakes p
  if d.portOpen p then d.busWriteAs v p off (at_ off 0) w .ok else d.turnedAway p

/-- A write of the (low) word of a register. -/
def Dev.writeReg (d : Dev) (v : NonVolatile) (p : Path) (r : Reg) (w : Word) : Dev := d.busWrite v p r.offset w

/-- The effect of a register write that has a row of its own. -/
def writeRow (s : State) (p : Path) (r : Reg) (w : Word) : Host.Outcome State Fault Refusal :=
  settled s (s.dev.writeReg s.nv p r w)

end Sys2Proof.Machine
end

