-- ==== Sys2Proof/Machine/Host.lean ====
section
/-! DEFINITION. The PCIe endpoint, the request queues, the service port, and the target of remote register accesses
(03_bring_up.md R105, R142 to R144; 16_host_interface.md; 18_floper_link.md R728 to R730). -/
namespace Sys2Proof.Machine

/-! ### The endpoint (R105 to R107, R142 to R144, R606 to R610, R625, R626, R635, R650) -/

/-- PERST_N low, on what R105 and R635 name: configuration space, MSI-X, and the enables of queues and logbooks. -/
def Dev.endpointReset (d : Dev) : Dev :=
  let d := d.onBoot (fun b => { b with
    training := false, trainAfterFusing := false, linkUp := false, crsLimit := false, bar0 := none, bar2 := none
    memSpace := false, busMaster := false, d3hot := false, payload256 := false
    msixEnable := false, msixMask := false, msixTable := [], msixPending := 0 })
  let d := forEach (List.finRange 8) (fun k d =>
    ((d.clrBits (.qCtrl k) (mkBit true 31)).stopQueue k).onQueue k (fun q => { q with head := 0, tail := 0, owed := false })) d
  let d := forEach (List.finRange 16) (fun b d =>
    ((d.clrBits (.lbCtrl b) (mkBit true 31)).wr (.lbHead b) 0).onLog b (fun l => { l with tail := 0, owed := false })) d
  d.hostAbort

/-- PERST_N falls (R105, R107, R763). -/
def Dev.perstFall (d : Dev) : Dev :=
  let d := d.onBoot (fun b => { b with perstHigh := false })
  if d.alive then d.endpointReset else d

/-- PERST_N rises (R106). -/
def Dev.perstRise (d : Dev) : Dev :=
  if d.boot.perstHigh then d
  else d.onBoot (fun b => { b with
    perstHigh := true, training := b.fused, trainAfterFusing := decide (b.phase = .fusing) && !b.fused })

/-- A Function Level Reset (R608). -/
def Dev.functionReset (d : Dev) : Dev := if d.boot.perstHigh && d.alive then d.perstFall.perstRise else d

/-- Link training completes (R142). -/
def Dev.trained (d : Dev) : Dev :=
  if d.boot.training then d.onBoot (fun b => { b with training := false, linkUp := true, crsLimit := false }) else d

/-- 900 ms have passed since link training completed (R143). -/
def Dev.crsEnds (d : Dev) : Dev := if d.boot.linkUp then d.onBoot (fun b => { b with crsLimit := true }) else d

/-- Configuration requests are answered with CRS (R116, R142, R143). -/
def Dev.answersCrs (d : Dev) : Bool :=
  decide (d.boot.phase = .loading) && !d.boot.crsLimit && match d.boot.load with
    | some l => l.boot
    | none => true

/-- Memory requests of the device are possible again: buffered records leave, and fetches start (R609, R664). -/
def Dev.masters (d : Dev) : Dev := forEach (List.finRange 8) (fun k d => d.startFetch k) d.drainAll

/-- A dword of the configuration header as Table 16.1 and R610 give it, at the place that the PCI Express header has for it (log
entry 3), and the mask of the bits that are given: identification, command and status, class, the two 64-bit BARs, no other BAR, the
subsystem, and no interrupt pin. -/
def Dev.cfgDword (d : Dev) (n : Nat) : Word × Word :=
  let sub := d.fuse 96 0 32
  match n with
  | 0 => (0x21761F8A, 0xFFFFFFFF)
  | 1 => (mkBit d.boot.memSpace 1 ||| mkBit d.boot.busMaster 2 ||| mkBit true 20, 0x00180007)
  | 2 => (0x11800000 ||| at_ (d.fuse 0 0 4) 0, 0xFFFFFFFF)
  | 4 => (at_ (d.boot.bar0.getD 0 % 2 ^ 32) 0 ||| at_ 4 0, 0xFFFFFFFF)
  | 5 => (at_ (d.boot.bar0.getD 0 / 2 ^ 32) 0, 0xFFFFFFFF)
  | 6 => (at_ (d.boot.bar2.getD 0 % 2 ^ 32) 0 ||| at_ 12 0, 0xFFFFFFFF)
  | 7 => (at_ (d.boot.bar2.getD 0 / 2 ^ 32) 0, 0xFFFFFFFF)
  | 8 => (0, 0xFFFFFFFF)
  | 9 => (0, 0xFFFFFFFF)
  | 11 => (if sub = 0 then 0x21761F8A else at_ sub 0, 0xFFFFFFFF)
  | 15 => (0, 0x0000FF00)
  | _ => (0, 0)

/-- A dword of a capability as Table 16.1, R609 and R625 give it, at its place in the PCI Express structure (log entry 3), and the
mask of the bits that are given. -/
def Dev.cfgCapDword (d : Dev) (c : CfgCap) (n : Nat) : Word × Word :=
  match c, n with
  | .power, 0 => (0x01, 0xFE0000FF)
  | .power, 1 => ((if d.boot.d3hot then 3 else 0) ||| mkBit true 3, 0x0000010B)
  | .msix, 0 => (0x11 ||| at_ 63 16 ||| mkBit d.boot.msixMask 30 ||| mkBit d.boot.msixEnable 31, 0xC7FF00FF)
  | .msix, 1 => (0x8000, 0xFFFFFFFF)
  | .msix, 2 => (0x9000, 0xFFFFFFFF)
  | .express, 0 => (0x10, 0x00F000FF)
  | .express, 1 => (1 ||| mkBit true 5 ||| mkBit true 28, 0x10000027)
  | .express, 2 => (at_ (if d.boot.payload256 then 1 else 0) 5, 0x000000E0)
  | .express, 3 => (at_ 4 0 ||| at_ 4 4 ||| at_ 2 10, 0x00000FFF)
  | .express, 11 => (at_ 0xF 1, 0x000000FE)
  | .aer, 0 => (0x0001, 0x0000FFFF)
  | .serial, 0 => (0x0003, 0x0000FFFF)
  | .serial, 1 => (at_ (d.fuse 1 0 32) 0, 0xFFFFFFFF)
  | .serial, 2 => (at_ (d.fuse 0 8 24) 0, 0xFFFFFFFF)
  | _, _ => (0, 0)

/-- A read of configuration space completes: the bits that are given, and free values for the rest (log entry 2). -/
def Dev.cfgAnswer (d : Dev) (w : Word × Word) : Dev :=
  if w.2 = 0xFFFFFFFF then d.emit (.cfgData w.1)
  else
    let (f, d) := d.takeFree
    d.emit (.cfgData (w.1 ||| (f.setWidth 32 &&& ~~~w.2)))

/-- A configuration request completes (R106, R144, R606, R609, R610, R655). -/
def Dev.cfgDone (d : Dev) : CfgRequest → Dev
  | .read n => d.cfgAnswer (d.cfgDword n)
  | .readCap c n => d.cfgAnswer (d.cfgCapDword c n)
  | .writeBar0 a => d.onBoot (fun b => { b with bar0 := some (a.toNat / 0x400000 * 0x400000) })
  | .writeBar2 a => d.onBoot (fun b => { b with bar2 := some (a.toNat / 0x100000 * 0x100000) })
  | .writeCommand m b => (d.onBoot (fun x => { x with memSpace := m, busMaster := b })).masters
  | .writePower h => (d.onBoot (fun b => { b with d3hot := h })).masters
  | .writeMsix e m => d.onBoot (fun b => { b with msixEnable := e, msixMask := m })
  | .writeMaxPayload p => d.onBoot (fun b => { b with payload256 := p })
  | .initiateFlr => d.functionReset

/-- A configuration request arrives (R142 to R144, R187). -/
def Dev.cfgRequest (d : Dev) (r : CfgRequest) : Dev :=
  if d.alive && d.boot.perstHigh && d.boot.linkUp then
    let d := d.hostWakes .pcie
    if d.answersCrs then d.emit .cfgCrs else d.cfgDone r
  else d

/-- Tail write-backs that logbooks signalling on vector v still owe go ahead of its message (R659). -/
def Dev.tailsOf (d : Dev) (v : Fin 64) : Dev :=
  forEach (List.finRange 16) (fun b d => if d.vecOf (.lbCtrl b) = v then d.writeTail b else d) d

/-- A pending MSI-X message is sent, behind the tail write-backs that it covers (R625, R626, R659). -/
def Dev.sendMsix (d : Dev) (v : Fin 64) : Dev :=
  if d.boot.msixPending.getLsbD v.val && d.canMaster && d.vectorOpen v then
    ((d.tailsOf v).onBoot (fun b => { b with msixPending := b.msixPending &&& ~~~(1#64 <<< v.val) })).emit (.msix v)
  else d

/-! ### Fetching entries (R629 to R635) -/

/-- The failing entry is reached: the queue stops there, and signals its error source each time (R626, R634). -/
def Dev.failQueue (d : Dev) (k : Fin 8) : Dev :=
  if d.queues[k].failed && decide (d.queues[k].fetched = []) then
    (d.clrBits (.qCtrl k) (mkBit true 31)).stopQueue k
  else d

/-- The outstanding fetch of a queue completes (R631, R633). -/
def Dev.fetched (d : Dev) (k : Fin 8) (bs : List Byte) : Dev :=
  let q := d.queues[k]
  if q.fetching = false then d
  else if q.stale then (d.onQueue k (fun q => { q with fetching := false, stale := false })).startFetch k
  else (d.onQueue k (fun q => { q with fetching := false, fetched := q.fetched ++ [bs] })).startFetch k

/-- The outstanding fetch of a queue fails (R634). One that outlived a disabling of its queue disables it as well, and is told at
once (log entry 27). -/
def Dev.fetchFails (d : Dev) (k : Fin 8) : Dev :=
  let q := d.queues[k]
  if q.fetching = false then d
  else if q.stale then
    (((d.onQueue k (fun q => { q with fetching := false, stale := false })).clrBits (.qCtrl k) (mkBit true 31)).stopQueue k).fetchError k
  else (d.onQueue k (fun q => { q with fetching := false, failed := true })).failQueue k

/-- The entry at HEAD has been processed (R631, R632, Table 16.9). -/
def Dev.consume (d : Dev) (k : Fin 8) : Dev :=
  let wb := decide (d.rd64 (.qHeadWb k) ≠ 0)
  let size := d.queueSize k
  (((d.onQueue k (fun q => { q with
    fetched := q.fetched.drop 1, head := (q.head + 1) % size, owed := q.owed || wb })).count (.qCount k) 1).failQueue k).startFetch k

/-- HEAD is written back, unless Q_HEAD_WB is 0 by now (R632). -/
def Dev.writeHead (d : Dev) (k : Fin 8) : Dev :=
  if d.rd64 (.qHeadWb k) = 0 then d.onQueue k (fun q => { q with owed := false })
  else if d.queues[k].owed && d.canMaster then
    (d.emit (.hostWrite (d.rd64 (.qHeadWb k)) [at_ d.queues[k].head 0])).onQueue k (fun q => { q with owed := false })
  else d

/-! ### Processing entries (R636 to R641) -/

/-- The opcodes (Table 16.3). -/
def opcodes : List Nat := [0x01, 0x10, 0x11, 0x12, 0x20, 0x21]

/-- The fetched entry at HEAD is processed, when its opcode is one of those `p` selects and CCLK runs. -/
def Dev.process (d : Dev) (k : Fin 8) (p : Nat → Bool) (f : List Byte → Dev → Dev) : Dev :=
  if d.clocked = false then d
  else
    match d.queues[k].fetched with
    | bs :: _ => if p (byteAt bs 0) then (f bs d).consume k else d
    | [] => d

/-- The bytes of an entry outside the ranges (offset, length) are not all 0. -/
def entryReserved (bs : List Byte) (used : List (Nat × Nat)) : Bool :=
  (List.range 64).any (fun i => decide (byteAt bs i ≠ 0) && !used.any (fun u => decide (u.1 ≤ i) && decide (i < u.1 + u.2)))

/-- NOP (Table 16.4). -/
def Dev.nopEntry (d : Dev) (k : Fin 8) (bs : List Byte) : Dev :=
  d.complete k (lowest [(entryReserved bs [(0, 1), (4, 4)], .reservedSet)]) 0x01 0 (wordAt bs 4)

/-- The MARK record of one logbook (R676). -/
def Dev.markRecord (d : Dev) (k : Fin 8) (bs : List Byte) (b : Fin 16) : Rec :=
  d.mkRec .mark .queue k.val b 0 (wordAt bs 4) (at_ (field bs 2 2) 16 ||| at_ d.queues[k].head 0) 0

/-- MARK (R639, R640, R685 to R688, Table 5.13). -/
def Dev.markEntry (d : Dev) (k : Fin 8) (bs : List Byte) : Dev :=
  let c := lowest [
    (decide (field bs 2 2 = 0), .range),
    (entryReserved bs [(0, 8)] || decide (2 ≤ byteAt bs 1), .reservedSet),
    (decide (d.boot.phase = .safe), .state)]
  if c ≠ .ok then d.complete k c 0x12 0 (wordAt bs 4)
  else
    let m := d.marks
    let named := (List.finRange 16).filter (fun b => decide (field bs 2 2 / 2 ^ b.val % 2 = 1))
    let d := forEach named (fun b d => d.waitMark m k (d.markRecord k bs b)) d
    let d := { d with marks := m + 1 }.applyMark k
    if byteAt bs 1 % 2 = 1 then d.complete k .ok 0x12 0 (wordAt bs 4) else d

/-- The checks of R637 that REG_WRITE and REG_READ share. -/
def regForm (bs : List Byte) (two : Bool) (used : List (Nat × Nat)) : Code :=
  let off := field bs 4 4
  let reg := Reg.ofOffset off
  lowest [
    (decide (off % (if two then 8 else 4) ≠ 0), .align), (decide (0x400000 ≤ off), .range),
    (two && decide ((reg.map (fun r => r.1.wide && !r.2)) ≠ some true), .range),
    (!two && decide ((reg.map (fun r => r.1.wide)) = some true), .range),
    (entryReserved bs used || decide (2 ≤ byteAt bs 1), .reservedSet)]

/-- REG_WRITE (R616, R637, R640). -/
def Dev.regWriteEntry (d : Dev) (v : NonVolatile) (k : Fin 8) (bs : List Byte) : Dev :=
  let two := decide (byteAt bs 1 % 2 = 1)
  let off := field bs 4 4
  let lo := wordAt bs 8
  let hi := wordAt bs 12
  let extra := Code.lower (regForm bs two [(0, 2), (4, 16)]) (if two = false ∧ hi ≠ 0 then .range else .ok)
  let (c, d) :=
    if (d.msixWord off).isSome then d.writeMsix (.queue k) off lo extra
    else
      match Reg.ofOffset off, two with
      | some (r, false), true =>
        if r.access = .rl then (Code.lower extra (Code.lower (d.gate (.queue k) r off) .state), d)
        else d.commitAt (Dev.writeLrCmd v) (.queue k) r lo hi extra
      | _, _ =>
        let (c, _, d) := d.writeAt (Dev.writeLrCmd v) (.queue k) off lo extra
        (if c = .ok then extra else c, d)
  d.complete k c 0x20 0 (wordAt bs 0x10)

/-- REG_READ (R637, R638). -/
def Dev.regReadEntry (d : Dev) (k : Fin 8) (bs : List Byte) : Dev :=
  let two := decide (byteAt bs 1 % 2 = 1)
  let off := field bs 4 4
  let c := regForm bs two [(0, 2), (4, 4), (0x10, 4)]
  if c ≠ .ok then d.complete k c 0x21 0 0
  else if two then
    let (lo, hi, d) := d.busReadBoth off
    d.complete k .ok 0x21 lo hi
  else
    let (w, d) := d.busRead (.queue k) off
    d.complete k .ok 0x21 w 0

/-- An entry whose opcode is not listed (R636); w7 of its record is not stated, and is a free value (log entry 2). -/
def Dev.badEntry (d : Dev) (k : Fin 8) (bs : List Byte) : Dev :=
  let (f, d) := d.takeFree
  d.complete k .badOpcode (byteAt bs 0) 0 (f.setWidth 32)

/-! ### The service port (R642 to R649) -/

/-- A +0 word that waited for its +4 word commits alone (R647). -/
def Dev.spiFlush (d : Dev) (v : NonVolatile) : Dev :=
  match d.spiHeld with
  | some h => { d with spiHeld := none }.busWriteAs v .spi (h.addr.toNat % 0x800000) (at_ h.addr.toNat 0) h.word .ok
  | none => d

/-- SPI_CS_N falls: an enabled wake event (Table 4.5), and the end of a frame that was still open. -/
def Dev.spiFall (d : Dev) (v : NonVolatile) : Dev := (d.spiFlush v).wakeEvent 2

/-- A frame other than STATUS begins (R649). -/
def Dev.spiBegin (d : Dev) (v : NonVolatile) : Dev := (d.spiFall v).wr .spiStatus 0

/-- One written word at a frame address (R644, R647, R648): a write to BAR2 is refused with STATE, and one past its end as at an
address with nothing there. -/
def Dev.spiPut (d : Dev) (v : NonVolatile) (a : Nat) (w : Word) : Dev :=
  if 0x800000 ≤ a then
    let c := lowest [
      (a % 4 ≠ 0, .align), (d.spiLocked .spi, .locked), (true, if a < 0x900000 then .state else .notPresent)]
    (d.logReject 2 (at_ a 0) w 0 c).spiWord .spi c 0
  else d.busWriteAs v .spi a (at_ a 0) w (lowest [(decide (0x400000 ≤ a), .notPresent), (a % 4 ≠ 0, .align)])

/-- The address is the low half of a two-half register. -/
def spiPairs (a : Nat) : Bool := decide ((Reg.ofOffset a).map (fun r => r.1.wide && !r.2) = some true)

/-- Both words of a two-half register in one WRITE_INC frame: the +4 word is staged, and commits together with the +0 word (R614,
R647). -/
def Dev.spiPair (d : Dev) (v : NonVolatile) (a : Nat) (lo hi : Word) : Dev :=
  let (c, d) := d.putWord v .spi (a + 4) (at_ (a + 4) 0) hi .ok
  let (c', d) := (d.spiWord .spi c 0).putWord v .spi a (at_ a 0) lo .ok
  d.spiWord .spi c' (if commits a then (if c = .ok then 2 else 1) else 0)

/-- The words of one write request, from an offset on, each with its byte enables: in ascending order, but the +4 word of a two-half
register before its +0 word when the request covers both (R613, R614). -/
def Dev.writeWords (v : NonVolatile) (p : Path) (a : Nat) : List (BitVec 4 × Word) → Dev → Dev
  | [], d => d
  | [w], d => d.busWriteAs v p a (at_ a 0) w.2 (if w.1 = 15 then .ok else .align)
  | w :: x :: t, d =>
    let put (a : Nat) (w : BitVec 4 × Word) (d : Dev) : Dev :=
      d.busWriteAs v p a (at_ a 0) w.2 (if w.1 = 15 then .ok else .align)
    if spiPairs a ∧ a % 8 = 0 then Dev.writeWords v p (a + 8) t (put a w (put (a + 4) x d))
    else Dev.writeWords v p (a + 4) (x :: t) (put a w d)

/-- The words of a WRITE_INC frame from an address on (R614, R647). -/
def Dev.spiWriteWords (v : NonVolatile) (a : Nat) : List Word → Dev → Dev
  | [], d => d
  | [w], d =>
    if spiPairs a then { d with spiHeld := some { addr := BitVec.ofNat 24 a, word := w } } else d.spiPut v a w
  | w :: x :: t, d =>
    if spiPairs a then Dev.spiWriteWords v ((a + 8) % 2 ^ 24) t (d.spiPair v a w x)
    else Dev.spiWriteWords v ((a + 4) % 2 ^ 24) (x :: t) (d.spiPut v a w)

/-- One word of a read frame; while CCLK runs from the low-power oscillator only the first is read (R644, R646). -/
def Dev.spiGet (d : Dev) (v : NonVolatile) (a : Nat) (first : Bool) : Word × Dev :=
  if !first && decide (d.clk.now = .lpo) then (0xFFFFFFFF, d)
  else if a % 4 ≠ 0 then (0, d)
  else if 0x900000 ≤ a then (0, d)
  else if 0x800000 ≤ a then (d.bar2Word v (a - 0x800000), d)
  else d.busRead .spi a

/-- The words of a read frame, and the device after them. -/
def Dev.spiReadWords (v : NonVolatile) (inc : Bool) (a : Nat) (first : Bool) : Nat → Dev → List Word × Dev
  | 0, d => ([], d)
  | n + 1, d =>
    let (w, d) := d.spiGet v a first
    let (ws, d) := d.spiReadWords v inc (if inc then (a + 4) % 2 ^ 24 else a) false n
    (w :: ws, d)

/-- What follows the 0x00 bytes of a reply: the token and the words, most significant byte first (R643, R646). -/
def spiBytes (ws : List Word) : List Byte := 0xA5 :: ws.flatMap (fun w => (leBytes 4 w.toNat).reverse)

/-- A reply leaves after as many 0x00 bytes as a free value says: the token is among the first 16 bytes while CCLK runs at 25 MHz or
more (R646; log entry 2). -/
def Dev.spiReply (d : Dev) (bs : List Byte) : Dev :=
  let (f, d) := d.takeFree
  d.emit (.spiReply (if d.clk.now = .lpo then f.toNat else f.toNat % 16) bs)

/-- The addresses of a read frame. -/
def spiAddrs (inc : Bool) (a n : Nat) : List Nat := (List.range n).map (fun i => if inc then (a + 4 * i) % 2 ^ 24 else a)

/-- A read frame that names a word of BAR2 in SLEEP is answered after the resume edge (R762). -/
def Dev.spiWaits (d : Dev) (as : List Nat) : Bool :=
  decide (d.boot.phase = .sleep) && as.any (fun a => decide (0x800000 ≤ a) && decide (a < 0x900000) && decide (a % 4 = 0))

/-- A read frame (R646). One that waits for a resume edge, with no wake event taken, brings no more than 0x00 bytes (R762; log entry
29). -/
def Dev.spiRead (d : Dev) (v : NonVolatile) (inc : Bool) (a n : Nat) : Dev :=
  if d.alive = false then d
  else
    let d := d.spiBegin v
    if d.spiWaits (spiAddrs inc a n) && !d.clk.waking then d.spiReply []
    else
      let d := if d.spiWaits (spiAddrs inc a n) then d.resume else d
      let (ws, d) := Dev.spiReadWords v inc a true n d
      d.spiReply (spiBytes ws)

/-- A WRITE_INC frame. -/
def Dev.spiWriteInc (d : Dev) (v : NonVolatile) (a : Nat) (ws : List Word) : Dev :=
  if d.alive then Dev.spiWriteWords v a ws (d.spiBegin v) else d

/-- A WRITE_FIX frame. -/
def Dev.spiWriteFix (d : Dev) (v : NonVolatile) (a : Nat) (ws : List Word) : Dev :=
  if d.alive then forEach ws (fun w d => d.spiPut v a w) (d.spiBegin v) else d

/-- A STATUS frame (R646, R649). -/
def Dev.spiStatus (d : Dev) (v : NonVolatile) : Dev :=
  if d.alive then
    let d := d.spiFall v
    d.spiReply (spiBytes [d.rd .spiStatus])
  else d

/-- A frame with an unknown command (R645). -/
def Dev.spiBad (d : Dev) (v : NonVolatile) : Dev :=
  if d.alive then (d.spiBegin v).setBits .spiStatus (mkBit true 29) else d

/-- SPI_CS_N rises (R647). -/
def Dev.spiRise (d : Dev) (v : NonVolatile) (cut : Bool) : Dev :=
  if d.alive then
    let d := d.spiFlush v
    if cut then d.setBits .spiStatus (mkBit true 30) else d
  else d

/-! ### Remote register accesses at their target (R728 to R730) -/

/-- The answer to a remote access. -/
def Dev.answerAccess (d : Dev) (origin rid code : Nat) (lo hi : Word) : Dev :=
  d.sendNormal .rraResp false false origin (at_ rid 0 ||| at_ code 8) (leBytes 4 lo.toNat ++ leBytes 4 hi.toNat)

/-- A request that this node accepts runs, or is answered from what is stored (R728 to R730). -/
def Dev.takeAccess (d : Dev) (v : NonVolatile) (f : NormalFrame) : Dev :=
  let o := f.origin.toNat
  let rid := Machine.fld f.arg 0 8
  match d.link.answered.find? (fun e => decide (e.1 = o ∧ e.2.1 = rid)) with
  | some (_, _, code, lo, hi) => d.answerAccess o rid code lo hi
  | none =>
    let a : RemoteAccess := {
      node := o, rid := rid, twoHalf := Machine.bit f.arg 9, write := Machine.bit f.arg 8, bar2 := Machine.bit f.arg 10
      offset := field f.payload 0 4, lo := wordAt f.payload 4, hi := wordAt f.payload 8, key := wordAt f.payload 12
      tries := 0 }
    let (c, lo, hi, d) := d.accessRun (Dev.writeLrCmd v) v a (d.keyOk a.key)
    let d := d.onLink (fun l => { l with answered := tins o (rid, c.num, lo, hi) (tdel l.answered o) })
    d.answerAccess o rid c.num lo hi

/-- RRA_REQ arrives. -/
def Dev.rraReqIn (d : Dev) (v : NonVolatile) (e : LinkPort) (f : NormalFrame) : Dev :=
  d.takeNormal e .rraReq f (fun d => if normalDirected f then d.takeAccess v f else d)

end Sys2Proof.Machine
end

