-- ==== Sys2Proof/Machine/BootRows.lean ====
section
/-! DEFINITION. The meanings of the commands of 03_bring_up.md. -/
namespace Sys2Proof.Machine

/-- The effect of a register read along a path: the word leaves on it (R26, R27, R612). -/
def Dev.busGet (d : Dev) (p : Path) (off : Nat) : Dev :=
  let d := d.hostWakes p
  if d.portOpen p then
    let (w, d) := d.busRead p off
    d.emit (.busData p w)
  else d.turnedAway p

/-- The effect of a register read that has a row of its own. -/
def readRow (s : State) (p : Path) (off : Nat) : Host.Outcome State Fault Refusal := settled s (s.dev.busGet p off)

/-- SUPPLY_LOSS (R91): all state but the nonvolatile cells is lost, in any state. -/
def execSupplyLoss (s : State) : Host.Outcome State Fault Refusal := settledNv s (s.dev.supplyLost s.nv)

/-- POR_RELEASE (R90, R104). -/
def execPorRelease (mode : BitVec 2) (rstHigh : Bool) (s : State) : Host.Outcome State Fault Refusal :=
  settled s (s.dev.porRelease mode rstHigh)

/-- RST_N_ASSERT (R99, R101, R102, R153, R154). -/
def execRstNAssert (s : State) : Host.Outcome State Fault Refusal := settledNv s (s.dev.resetLow s.nv)

/-- RST_N_RISE (R104, R109). -/
def execRstNRise (mode : BitVec 2) (s : State) : Host.Outcome State Fault Refusal := settled s (s.dev.rstRise mode)

/-- FUSING_END (R117, R118, Table 3.3). -/
def execFusingEnd (s : State) : Host.Outcome State Fault Refusal := settled s (s.dev.fused s.nv)

/-- PERST_N_FALL (R105, R107). -/
def execPerstNFall (s : State) : Host.Outcome State Fault Refusal := settled s s.dev.perstFall

/-- PERST_N_RISE (R106). -/
def execPerstNRise (s : State) : Host.Outcome State Fault Refusal := settled s s.dev.perstRise

/-- PGOOD_FALL (R52, R96). -/
def execPgoodFall (q : Fin 4) (s : State) : Host.Outcome State Fault Refusal := settled s (s.dev.pgoodFall q)

/-- PGOOD_RISE (R54, R96). -/
def execPgoodRise (q : Fin 4) (s : State) : Host.Outcome State Fault Refusal := settled s (s.dev.pgoodRise q)

/-- BARRIER_TRAINED (R97, R98). In SLEEP, on which R97 is silent, no channel trains (log entry 37). -/
def execBarrierTrained (q : Fin 4) (s : State) : Host.Outcome State Fault Refusal :=
  ifClocked s (fun d => d.barrierTrained q)

/-- DOWNSTREAM_SILENCE (R103). -/
def execDownstreamSilence (q : Fin 4) (s : State) : Host.Outcome State Fault Refusal := settled s (s.dev.silent q)

/-- FLASH_DIRECTORY_READ_DONE (R126 to R128). -/
def execFlashDirectoryReadDone (bytes : List Byte) (s : State) : Host.Outcome State Fault Refusal :=
  ifClocked s (fun d => d.dirRead bytes)

/-- IMAGE_SECTION_CHECK (R807): bytes of a boot image from flash, or the bytes of a staged, service or link image that
have arrived before. -/
def execImageSectionCheck (staged : Bool) (bytes : List Byte) (s : State) : Host.Outcome State Fault Refusal :=
  ifClocked s (fun d => if staged then d.stageScan else d.bootSection bytes)

/-- IMAGE_CHECKS_COMPLETE (R807). -/
def execImageChecksComplete (staged : Bool) (s : State) : Host.Outcome State Fault Refusal :=
  ifClocked s (fun d => if staged then d.stageFinish else d.bootChecks)

/-- IMAGE_ACTIVATION (R134, R135). -/
def execImageActivation (s : State) : Host.Outcome State Fault Refusal := ifClocked s (fun d => d.activation)

/-- FLASH_TIMEOUT (R132). -/
def execFlashTimeout (s : State) : Host.Outcome State Fault Refusal := ifClocked s (fun d => d.flashTimeout)

/-- LINK_BOOT_TIMEOUT (R136). -/
def execLinkBootTimeout (s : State) : Host.Outcome State Fault Refusal := ifClocked s (fun d => d.linkBootTimeout)

/-- BOOT_CTRL_LOAD (R138, R808). -/
def execBootCtrlLoad (p : Path) (s : State) : Host.Outcome State Fault Refusal := writeRow s p .bootCtrl 4

/-- BOOT_CTRL_RELOAD_FLASH (R109, R808). -/
def execBootCtrlReloadFlash (p : Path) (s : State) : Host.Outcome State Fault Refusal := writeRow s p .bootCtrl 8

/-- BOOT_CTRL_RELEASE (R114). -/
def execBootCtrlRelease (p : Path) (s : State) : Host.Outcome State Fault Refusal := writeRow s p .bootCtrl 1

/-- BOOT_CTRL_HOLD (R115). -/
def execBootCtrlHold (p : Path) (s : State) : Host.Outcome State Fault Refusal := writeRow s p .bootCtrl 2

/-- HOLD_COMPLETE (R115). -/
def execHoldComplete (s : State) : Host.Outcome State Fault Refusal := ifClocked s (fun d => d.holdComplete)

/-- BOOT_CTRL_ABORT_LOAD (R139). -/
def execBootCtrlAbortLoad (p : Path) (s : State) : Host.Outcome State Fault Refusal := writeRow s p .bootCtrl 16

/-- ALM_LOAD_DATA_WRITE (R138). -/
def execAlmLoadDataWrite (p : Path) (w : Word) (s : State) : Host.Outcome State Fault Refusal :=
  writeRow s p .almLoadData w

/-- SERVICE_LOAD_STALL (R139). -/
def execServiceLoadStall (s : State) : Host.Outcome State Fault Refusal := ifClocked s (fun d => d.loadStalls)

/-- FUSE_PROG_GO (R120). -/
def execFuseProgGo (p : Path) (bit : BitVec 12) (s : State) : Host.Outcome State Fault Refusal :=
  writeRow s p .fuseProgCtrl (mkBit true 31 ||| bit.setWidth 32)

/-- FUSE_PROG_DONE (R121, R122). -/
def execFuseProgDone (readBack : Bool) (s : State) : Host.Outcome State Fault Refusal :=
  settledNv s (s.dev.fuseDone s.nv readBack)

/-- JOURNAL_RECOVERY_END (R141, R759). -/
def execJournalRecoveryEnd (s : State) : Host.Outcome State Fault Refusal := settledNv s (s.dev.journalEnds s.nv)

end Sys2Proof.Machine
end

