-- ==== Sys2Proof/Machine/PowerRows.lean ====
section
/-! DEFINITION. The meanings of the commands of 04_clocks_power_heat.md. -/
namespace Sys2Proof.Machine

/-- CCLK_SEL_WRITE (R159, R161, R164). -/
def execCclkSelWrite (p : Path) (w : Word) (s : State) : Host.Outcome State Fault Refusal := writeRow s p .clkCtrl w

/-- CORE_PLL_LOCK (R163). -/
def execCorePllLock (s : State) : Host.Outcome State Fault Refusal := ifClocked s (fun d => d.corePllLock)

/-- CORE_PLL_UNLOCK (R168). -/
def execCorePllUnlock (s : State) : Host.Outcome State Fault Refusal := ifClocked s (fun d => d.corePllUnlock)

/-- MEAS_PLL_UNLOCK (R169). -/
def execMeasPllUnlock (s : State) : Host.Outcome State Fault Refusal := ifClocked s (fun d => d.measPllUnlock)

/-- MEAS_PLL_LOCK (R169). -/
def execMeasPllLock (s : State) : Host.Outcome State Fault Refusal := ifClocked s (fun d => d.measPllLock)

/-- REFCLK_LOSS (R170). -/
def execRefclkLoss (s : State) : Host.Outcome State Fault Refusal := ifAlive s (fun d => d.refclkLoss)

/-- PD_CTRL_REDUCE_OFF (R172): a write of PD_CTRL with REDUCE_OFF changed. -/
def execPdCtrlReduceOff (p : Path) (off : Bool) (s : State) : Host.Outcome State Fault Refusal :=
  writeRow s p .pdCtrl (setFld (s.dev.rd .pdCtrl) 0 1 off.toNat)

/-- PD_CTRL_LINK_OFF (R173): a write of PD_CTRL with LINK_OFF changed. -/
def execPdCtrlLinkOff (p : Path) (off : Bool) (s : State) : Host.Outcome State Fault Refusal :=
  writeRow s p .pdCtrl (setFld (s.dev.rd .pdCtrl) 1 1 off.toNat)

/-- PD_CTRL_Q_OFF (R174): a write of PD_CTRL with one Q_OFF bit changed. -/
def execPdCtrlQOff (p : Path) (q : Fin 4) (off : Bool) (s : State) : Host.Outcome State Fault Refusal :=
  writeRow s p .pdCtrl (setFld (s.dev.rd .pdCtrl) (2 + q.val) 1 off.toNat)

/-- SLEEP_ENTER (R176, R177): a SLEEP_CTRL write with ENTER set. -/
def execSleepEnter (p : Path) (w : Word) (s : State) : Host.Outcome State Fault Refusal :=
  writeRow s p .sleepCtrl (w ||| 1)

/-- FREEZE_EDGE (R178, R179). -/
def execFreezeEdge (s : State) : Host.Outcome State Fault Refusal := ifClocked s (fun d => d.freeze)

/-- WAKE_EVENT (R182, R188). -/
def execWakeEvent (ev : Fin 6) (s : State) : Host.Outcome State Fault Refusal := ifAlive s (fun d => d.wakeEvent ev)

/-- LEDGER_ALARM (R182, Table 4.5). -/
def execLedgerAlarm (s : State) : Host.Outcome State Fault Refusal := ifAlive s (fun d => d.ledgerAlarm)

/-- LEDGER_OVERFLOW (R180). -/
def execLedgerOverflow (s : State) : Host.Outcome State Fault Refusal := ifAlive s (fun d => d.ledgerOverflow)

/-- RESUME_EDGE (R183 to R186). -/
def execResumeEdge (s : State) : Host.Outcome State Fault Refusal := ifAlive s (fun d => d.resume)

/-- LPO_MEASUREMENT (R181). -/
def execLpoMeasurement (period : Word) (s : State) : Host.Outcome State Fault Refusal :=
  ifClocked s (fun d => d.lpoMeasured period)

/-- THERMAL_SAMPLE (R189 to R194). -/
def execThermalSample (die : Fin 5) (temp : BitVec 24) (shutdown : Bool) (s : State) :
    Host.Outcome State Fault Refusal :=
  ifAlive s (fun d => d.thermSample die temp shutdown)

/-- QRESUME (R193). -/
def execQresume (p : Path) (mask : BitVec 4) (s : State) : Host.Outcome State Fault Refusal :=
  writeRow s p .thermCtrl (mask.setWidth 32)

end Sys2Proof.Machine
end

