-- ==== Sys2Proof/Machine/AlmanacRows.lean ====
section
/-! DEFINITION. The meanings of the commands of 05_almanac.md. -/
namespace Sys2Proof.Machine

/-- STAGE_BEGIN (R221). -/
def execStageBegin (p : Path) (s : State) : Host.Outcome State Fault Refusal := writeRow s p .stageCtrl 1

/-- STAGE_DISCARD (R225). -/
def execStageDiscard (p : Path) (s : State) : Host.Outcome State Fault Refusal := writeRow s p .stageCtrl 2

/-- STAGE_DATA_WRITE (R223). -/
def execStageDataWrite (p : Path) (w : Word) (s : State) : Host.Outcome State Fault Refusal := writeRow s p .stageData w

/-- STAGE_READY (R224). -/
def execStageReady (s : State) : Host.Outcome State Fault Refusal := ifClocked s (fun d => d.stageReady)

/-- APPLY_ARM (R226 to R228): an APPLY_CTRL write with ARM set. -/
def execApplyArm (p : Path) (w : Word) (s : State) : Host.Outcome State Fault Refusal :=
  writeRow s p .applyCtrl (w ||| 1)

/-- APPLY_ABORT (R230). -/
def execApplyAbort (p : Path) (s : State) : Host.Outcome State Fault Refusal := writeRow s p .applyCtrl 2

/-- APPLY_TRIGGER (R227, R232 to R239): the axis of a TRANSIT trigger reaches its position. The other triggers come
with the command that makes them. -/
def execApplyTrigger (s : State) : Host.Outcome State Fault Refusal :=
  ifClocked s (fun d => if d.applyDue then d.applyTriggered else d)

/-- CONFIG_APPLIED_LANE (R241, R243). -/
def execConfigAppliedLane (n : Fin 32) (s : State) : Host.Outcome State Fault Refusal :=
  ifClocked s (fun d => d.configApplied n)

/-- APPLY_CLOSE (R240, R242). -/
def execApplyClose (s : State) : Host.Outcome State Fault Refusal := ifClocked s (fun d => d.applyClose)

end Sys2Proof.Machine
end

