-- ==== Sys2Proof/Machine/PortRows.lean ====
section
/-! DEFINITION. Burst pairs as the lane's commands drive them, and the meanings of the commands of 06_bridge_ports.md. -/
namespace Sys2Proof.Machine

/-- The positive burst of an attempt starts, when every condition of R255 holds. -/
def Dev.burstStart (d : Dev) (n : Fin 32) (ilim : Bool) : Dev :=
  match d.working n with
  | none => d
  | some (_, k) =>
    if d.mayBurst n k && !d.portBlank (portOfBridge k.desc.bridge.val) then d.startBurst n k ilim else d

/-- The settle time of a burst has expired: the filters are cleared and the sample grid starts on a modulator tick (R350, R806). While the last
sample of the burst before is still in the filter, it has not. -/
def Dev.gridStart (d : Dev) (n : Fin 32) : Dev :=
  let l := d.lanes[n]
  let now := d.lastTick n
  if decide (l.phase = .settle) && !l.work.tail && !l.work.ended && !l.work.taken then
    d.onLane n (fun l => { l with phase := .discard, work := { l.work with samples := 0, gridAt := now, passed := 0 } })
  else d

/-- The integration of the present burst ends: all its samples but the last, which leaves 8 ticks later (R353), have
left the filter. -/
def Dev.integrated (d : Dev) (n : Fin 32) (k : Ticket) : Bool :=
  let l := d.lanes[n]
  (decide (l.phase = .discard) || decide (l.phase = .integrate)) && !l.work.ended && decide (l.work.length ≠ 0) &&
    decide ((d.filterFor n k).settle + l.work.length ≤ l.work.samples + 1)

/-- The positive integration ends (Table 6.2 step 4). -/
def Dev.burstReverse (d : Dev) (n : Fin 32) (ilim : Bool) : Dev :=
  match d.working n with
  | none => d
  | some (_, k) => if d.integrated n k && !d.lanes[n].work.neg then d.reverse n k ilim else d

/-- The negative integration ends (Table 6.2 step 7). -/
def Dev.pairEnd (d : Dev) (n : Fin 32) (m : PairMeans) : Dev :=
  match d.working n with
  | none => d
  | some (_, k) => if d.integrated n k && d.lanes[n].work.neg then d.endPair n k m else d

/-- SHUT_WAIT of a port. -/
def Dev.shutWait (d : Dev) (p : Fin 136) : Nat := d.fld (ctrlReg p) 16 16

/-- SHUT_WAIT has expired with every condition of R255 met except clear lines (R283). -/
def Dev.shutWaitEnds (d : Dev) (n : Fin 32) : Dev :=
  match d.working n with
  | none => d
  | some (t, k) =>
    let p := portOfBridge k.desc.bridge.val
    if d.mayBurst n k && d.portBlank p && decide (d.shutWait p ≠ 0) then d.finishVoid n t k true else d

/-- BURST_START (R255): every condition holds, and the burst starts. -/
def execBurstStart (n : Fin 32) (ilim : Bool) (s : State) : Host.Outcome State Fault Refusal :=
  ifClocked s (fun d => d.burstStart n ilim)

/-- GRID_START (R350). -/
def execGridStart (n : Fin 32) (s : State) : Host.Outcome State Fault Refusal := ifClocked s (fun d => d.gridStart n)

/-- BURST_REVERSE (R256, Table 6.2 step 4). -/
def execBurstReverse (r : Reversal) (s : State) : Host.Outcome State Fault Refusal :=
  ifClocked s (fun d => d.burstReverse r.lane r.ilim)

/-- PAIR_END (R256, Table 6.2 step 7). -/
def execPairEnd (n : Fin 32) (m : PairMeans) (s : State) : Host.Outcome State Fault Refusal :=
  ifClocked s (fun d => d.pairEnd n m)

/-- REST_EXPIRY (R260, R261). -/
def execRestExpiry (b : Fin 2176) (s : State) : Host.Outcome State Fault Refusal :=
  ifAlive s (fun d => { d with rests := d.rests.filter (fun x => decide (x ≠ b)) })

/-- PREWARM_PULSE_START (R264 to R266, R294). -/
def execPrewarmPulseStart (n : Fin 32) (ilim : Bool) (s : State) : Host.Outcome State Fault Refusal :=
  ifClocked s (fun d => d.startPulse n ilim)

/-- PREWARM_PULSE_END (R265, R267). -/
def execPrewarmPulseEnd (p : Fin 136) (s : State) : Host.Outcome State Fault Refusal :=
  ifClocked s (fun d => d.endPulse p)

/-- SHUT_PIN_CHANGE (R275). -/
def execShutPinChange (k : Fin 8) (level : Bool) (s : State) : Host.Outcome State Fault Refusal :=
  ifClocked s (fun d => d.shutPin k level)

/-- SHUT_FORCE_WRITE (R274). -/
def execShutForceWrite (p : Path) (w : Word) (s : State) : Host.Outcome State Fault Refusal := writeRow s p .shutForce w

/-- SHUT_TRIP_CLEAR (R274). -/
def execShutTripClear (p : Path) (w : Word) (s : State) : Host.Outcome State Fault Refusal := writeRow s p .shutTrip w

/-- SHUT_WAIT_TIMEOUT (R283). -/
def execShutWaitTimeout (n : Fin 32) (s : State) : Host.Outcome State Fault Refusal :=
  ifClocked s (fun d => d.shutWaitEnds n)

end Sys2Proof.Machine
end

