-- ==== Sys2Proof/Machine/TurretRows.lean ====
section
/-! DEFINITION. The turret's own steps, and the meanings of the commands of 07_turret.md. -/
namespace Sys2Proof.Machine

/-- On tick 0 the turret opens its old input also when the next ticket has to wait for its own connection, unless that is
the one connected (R295, R297; log entry 122): two lanes never keep what the other's head ticket waits for. -/
def Dev.openOld (d : Dev) (n : Fin 32) (k : Ticket) : Dev :=
  if d.lanes[n].closed = none ∨ d.lanes[n].closed = some k.desc.bridge then d
  else (d.onLane n (fun l => { l with closed := none, step := .idle })).post (.freed n)

/-- The head ticket of an idle lane enters stage 4, and the turret breaks its old input (R295, R297, R391); a ticket
whose card is out of service ends (R333), and one whose card is being probed waits. -/
def Dev.turretBreak (d : Dev) (n : Fin 32) : Dev :=
  match d.headOf n with
  | none => d
  | some t =>
    match d.ticket t with
    | none => d
    | some k =>
      match (extOfBridge k.desc.bridge.val).map (fun e => d.cardState e.1 e.2.1) with
      | some 0 => d.endTurretErr t
      | some 2 => d.endTurretErr t
      | some 3 => d
      | _ => if d.mayConvert n k then d.enterStage4 n t k else d.openOld n k

/-- The discharge short opens: Dt ticks have passed, and the card sequence is confirmed (R295, R296). -/
def Dev.turretShortOpen (d : Dev) (n : Fin 32) : Dev :=
  match d.working n with
  | none => d
  | some (_, k) =>
    if decide (k.stage = .turret) && decide (d.lanes[n].step = .short) && d.slotReady n k then
      d.onLane n (fun l => { l with shortOpen := true })
    else d

/-- The new input closes, and stage 4 is complete (R295, R296). -/
def Dev.turretMake (d : Dev) (n : Fin 32) : Dev :=
  match d.working n with
  | none => d
  | some (t, k) =>
    if decide (k.stage = .turret) && d.lanes[n].shortOpen then
      (d.onLane n (fun l => { l with closed := some k.desc.bridge, step := .made, shortOpen := false })).onTicket t
        (fun k => { k with stage := .bursts })
    else d

/-- The lane's queue is empty after a ticket has left: its input opens, and a card slot it holds is broken (R298). -/
def Dev.turretOpenIdle (d : Dev) (n : Fin 32) : Dev :=
  if d.lanes[n].current = none ∧ d.lanes[n].queue = [] then
    forEach (xportsOf (quadOf8 n.val)) (fun x d => d.breakPort x n)
      (d.onLane n (fun l => { l with closed := none, step := .idle }))
  else d

/-- A lane that converts nothing gives up the port it holds when another lane waits for it (R293). -/
def Dev.portYield (d : Dev) (x : Fin 8) : Dev :=
  match d.xports[x].holder with
  | none => d
  | some h =>
    if d.lanes[h].current.isNone && (d.waiters x).any (fun w => decide (w.1 ≠ h)) then
      let here (b : Fin 2176) : Bool := decide (portOfBridge b.val = xPort x)
      let d := if d.lanes[h].closed.any here then d.onLane h (fun l => { l with closed := none, step := .idle }) else d
      let d := match d.lanes[h].runAhead with
        | none => d
        | some t =>
          match d.ticket t with
          | some k => if here k.desc.bridge then (d.withdrawSlot h t k).2 else d
          | none => d
      d.breakPort x h
    else d

/-- TURRET_BREAK (R295 to R299). -/
def execTurretBreak (n : Fin 32) (s : State) : Host.Outcome State Fault Refusal :=
  ifClocked s (fun d => d.turretBreak n)

/-- TURRET_SHORT_OPEN (R295, R296). -/
def execTurretShortOpen (n : Fin 32) (s : State) : Host.Outcome State Fault Refusal :=
  ifClocked s (fun d => d.turretShortOpen n)

/-- TURRET_MAKE (R295, R296). -/
def execTurretMake (n : Fin 32) (s : State) : Host.Outcome State Fault Refusal := ifClocked s (fun d => d.turretMake n)

/-- TURRET_OPEN_IDLE (R298). -/
def execTurretOpenIdle (n : Fin 32) (s : State) : Host.Outcome State Fault Refusal :=
  ifClocked s (fun d => d.turretOpenIdle n)

/-- PORT_YIELD (R293). -/
def execPortYield (x : Fin 8) (s : State) : Host.Outcome State Fault Refusal := ifClocked s (fun d => d.portYield x)

/-- TB_BREAK (R309, R314, R320): the command at the front of those the port has to send goes out in this form; the
bits of `err` arrive inverted. -/
def execTbBreak (x : Fin 8) (err : Word) (s : State) : Host.Outcome State Fault Refusal :=
  ifAlive s (fun d => d.sendBus x .brk err)

/-- TB_DISCHARGE (R309, R314, R320): the command at the front of those the port has to send goes out in this form; the
bits of `err` arrive inverted. -/
def execTbDischarge (x : Fin 8) (err : Word) (s : State) : Host.Outcome State Fault Refusal :=
  ifAlive s (fun d => d.sendBus x .discharge err)

/-- TB_MAKE (R309, R314, R320): the command at the front of those the port has to send goes out in this form; the bits
of `err` arrive inverted. -/
def execTbMake (x : Fin 8) (err : Word) (s : State) : Host.Outcome State Fault Refusal :=
  ifAlive s (fun d => d.sendBus x .make err)

/-- TB_QUERY (R309, R314, R320): the command at the front of those the port has to send goes out in this form; the
bits of `err` arrive inverted. -/
def execTbQuery (x : Fin 8) (err : Word) (s : State) : Host.Outcome State Fault Refusal :=
  ifAlive s (fun d => d.sendBus x .query err)

/-- TB_ID (R309, R314, R320): the command at the front of those the port has to send goes out in this form; the bits
of `err` arrive inverted. -/
def execTbId (x : Fin 8) (err : Word) (s : State) : Host.Outcome State Fault Refusal :=
  ifAlive s (fun d => d.sendBus x .ident err)

/-- TB_BREAK_A (R309, R314, R320): the command at the front of those the port has to send goes out in this form; the
bits of `err` arrive inverted. -/
def execTbBreakA (x : Fin 8) (err : Word) (s : State) : Host.Outcome State Fault Refusal :=
  ifAlive s (fun d => d.sendBus x .breakA err)

/-- TB_DISCHARGE_A (R309, R314, R320): the command at the front of those the port has to send goes out in this form;
the bits of `err` arrive inverted. -/
def execTbDischargeA (x : Fin 8) (err : Word) (s : State) : Host.Outcome State Fault Refusal :=
  ifAlive s (fun d => d.sendBus x .dischargeA err)

/-- TB_MAKE_A (R309, R314, R320): the command at the front of those the port has to send goes out in this form; the
bits of `err` arrive inverted. -/
def execTbMakeA (x : Fin 8) (err : Word) (s : State) : Host.Outcome State Fault Refusal :=
  ifAlive s (fun d => d.sendBus x .makeA err)

/-- CARD_ACTION_COMPLETE (R314, R316). -/
def execCardActionComplete (x : Fin 8) (c : Fin 4) (s : State) : Host.Outcome State Fault Refusal :=
  settled s (s.dev.cardComplete x c)

/-- TB_REPLY (R330). -/
def execTbReply (x : Fin 8) (frame : Word) (s : State) : Host.Outcome State Fault Refusal :=
  ifAlive s (fun d => d.takeReply x frame)

/-- TB_REPLY_TIMEOUT (R331, R332). -/
def execTbReplyTimeout (x : Fin 8) (s : State) : Host.Outcome State Fault Refusal :=
  ifAlive s (fun d => d.replyTimeout x)

/-- TB_PORT_RELEASE (R333, R334). -/
def execTbPortRelease (x : Fin 8) (s : State) : Host.Outcome State Fault Refusal := ifAlive s (fun d => d.releasePort x)

/-- TB_TIMED_WAIT_END (R321). -/
def execTbTimedWaitEnd (x : Fin 8) (s : State) : Host.Outcome State Fault Refusal := ifAlive s (fun d => d.timedEnd x)

/-- TB_BUS_RESET (R305). -/
def execTbBusReset (x : Fin 8) (s : State) : Host.Outcome State Fault Refusal := ifAlive s (fun d => d.sendReset x)

/-- CARD_CLOCK_LOSS (R318). -/
def execCardClockLoss (x : Fin 8) (c : Fin 4) (s : State) : Host.Outcome State Fault Refusal :=
  settled s (s.dev.onCard x c Card.openAll)

/-- CARD_POWER_LOSS (R318). -/
def execCardPowerLoss (x : Fin 8) (c : Fin 4) (s : State) : Host.Outcome State Fault Refusal :=
  settled s (s.dev.onCard x c Card.openAll)

/-- TB_CMD_PROBE (R323, R336). -/
def execTbCmdProbe (p : Path) (x : Fin 8) (c : Fin 4) (s : State) : Host.Outcome State Fault Refusal :=
  writeRow s p (.tbCmd x) (at_ c.val 4 ||| 1)

/-- TB_CMD_QUERY (R336). -/
def execTbCmdQuery (p : Path) (x : Fin 8) (c : Fin 4) (s : State) : Host.Outcome State Fault Refusal :=
  writeRow s p (.tbCmd x) (at_ c.val 4 ||| 2)

/-- TB_CMD_BUS_RESET (R336). -/
def execTbCmdBusReset (p : Path) (x : Fin 8) (s : State) : Host.Outcome State Fault Refusal := writeRow s p (.tbCmd x) 4

/-- TB_CMD_CLR_CNT (R336). -/
def execTbCmdClrCnt (p : Path) (x : Fin 8) (s : State) : Host.Outcome State Fault Refusal := writeRow s p (.tbCmd x) 8

end Sys2Proof.Machine
end

