-- ==== Sys2Proof/Machine/LaneRows.lean ====
section
/-! DEFINITION. The meanings of the commands of 08_eyepiece_lanes.md and 09_tickets.md. -/
namespace Sys2Proof.Machine

/-- The modulator of lane n runs: its quadrant is powered and the measurement PLL is locked (R346). -/
def Dev.modRuns (d : Dev) (n : Fin 32) : Bool :=
  let q := quadOf8 n.val
  d.clk.measPll && d.quads[q].fieldPg && !d.qOff q

/-- The overload detector of a lane's modulator fires; during a reset it has no effect (R362). -/
def Dev.modReset (d : Dev) (n : Fin 32) (positive : Bool) : Dev :=
  if d.lanes[n].modReset || !d.modRuns n then d
  else
    let r : ModReset := { start := d.lastTick n, stop := none, positive := positive }
    (d.countFld (.laneOvrCnt n) 0 16 1).onLane n (fun l => { l with resets := r :: l.resets.take 1 })

/-- The reset ends after 16 ticks of a running modulator; samples with their boundary in the S_set × D ticks that follow are
OVR (R361, R362). -/
def Dev.modResetEnd (d : Dev) (n : Fin 32) : Dev :=
  if d.modRuns n then
    let now := d.lastTick n
    d.onLane n (fun l => { l with
      resets := l.resets.map (fun r => { r with stop := some (r.stop.getD now) }) })
  else d

/-- 10 ms have passed since the first unreported slip of a lane (R403). -/
def Dev.slipTimer (d : Dev) (n : Fin 32) : Dev := if 0 < d.lanes[n].slips.count then d.reportSlips n else d

/-- An armed ticket's axis reaches TRIG_AT (R380). -/
def Dev.transitNow (d : Dev) (t : Nat) : Dev :=
  match d.ticket t with
  | some k => if d.transitDue k then d.trigger t false else d
  | none => d

/-- SAMPLE_LEAVES_FILTER (R351, R353). -/
def execSampleLeavesFilter (n : Fin 32) (m : SampleReading) (s : State) : Host.Outcome State Fault Refusal :=
  ifClocked s (fun d => d.sampleLeaves n m)

/-- MODULATOR_RESET (R362). -/
def execModulatorReset (n : Fin 32) (positive : Bool) (s : State) : Host.Outcome State Fault Refusal :=
  ifClocked s (fun d => d.modReset n positive)

/-- MODULATOR_RESET_END (R361, R362). -/
def execModulatorResetEnd (n : Fin 32) (s : State) : Host.Outcome State Fault Refusal :=
  ifClocked s (fun d => d.modResetEnd n)

/-- SUBMIT (R372, R373). -/
def execSubmit (k : Fin 8) (s : State) : Host.Outcome State Fault Refusal :=
  settled s (s.dev.process k (fun o => decide (o = 0x10)) (fun bs d => d.submit k bs))

/-- CANCEL (R396, R397). -/
def execCancel (k : Fin 8) (s : State) : Host.Outcome State Fault Refusal :=
  settled s (s.dev.process k (fun o => decide (o = 0x11)) (fun bs d => d.cancelEntry k bs))

/-- SLIP_RECORD_TIMER (R403). -/
def execSlipRecordTimer (n : Fin 32) (s : State) : Host.Outcome State Fault Refusal :=
  ifClocked s (fun d => d.slipTimer n)

/-- TRANSIT_TRIGGER (R380). -/
def execTransitTrigger (t : Fin 2048) (s : State) : Host.Outcome State Fault Refusal :=
  ifClocked s (fun d => d.transitNow t.val)

/-- TICKET_EXPIRE (R383, R384). -/
def execTicketExpire (t : Fin 2048) (s : State) : Host.Outcome State Fault Refusal :=
  ifAlive s (fun d => if d.boot.phase = .sleep then d.expireLater t.val else d.expireNow t.val)

/-- RUN_AHEAD_ENTRY (R390, R432). -/
def execRunAheadEntry (n : Fin 32) (s : State) : Host.Outcome State Fault Refusal := ifClocked s (fun d => d.runAhead n)

end Sys2Proof.Machine
end

