-- ==== Sys2Proof/Machine/ReduceRows.lean ====
section
/-! DEFINITION. The meanings of the commands of 10_reduction.md and 11_collimation.md. -/
namespace Sys2Proof.Machine

/-- CACHE_FETCH_DONE (R432, R434). -/
def execCacheFetchDone (b : Fin 2176) (s : State) : Host.Outcome State Fault Refusal :=
  ifClocked s (fun d => d.fetchDone s.nv b)

/-- REDUCER_ENTRY (R414, R417 to R424). -/
def execReducerEntry (r : Fin 8) (s : State) : Host.Outcome State Fault Refusal :=
  ifClocked s (fun d => d.reducerEntry r)

/-- REDUCED_VALUE_OUT (R415). -/
def execReducedValueOut (r : Fin 8) (s : State) : Host.Outcome State Fault Refusal :=
  ifClocked s (fun d => d.reducedOut r)

/-- PLATE_HANDOVER (R43, R415). -/
def execPlateHandover (s : State) : Host.Outcome State Fault Refusal := ifClocked s (fun d => d.plateOut)

/-- RED_HOST_TEMP_WRITE (R421). -/
def execRedHostTempWrite (p : Path) (r : Fin 8) (w : Word) (s : State) : Host.Outcome State Fault Refusal :=
  writeRow s p (.redHostTemp r) w

/-- COLL_RUN_START (R439 to R443). -/
def execCollRunStart (q : Fin 4) (b : Fin 2176) (s : State) : Host.Outcome State Fault Refusal :=
  ifClocked s (fun d => d.collStart s.nv q b)

/-- COLL_STEP_END (R447). -/
def execCollStepEnd (q : Fin 4) (reading : Word) (s : State) : Host.Outcome State Fault Refusal :=
  ifClocked s (fun d => d.collStepEnd q reading)

/-- COLL_DECISION (R450, R453 to R458). -/
def execCollDecision (q : Fin 4) (s : State) : Host.Outcome State Fault Refusal := ifClocked s (fun d => d.collDecide q)

/-- COLL_CMD (R443): a COLL_CMD write with GO set. -/
def execCollCmd (p : Path) (w : Word) (s : State) : Host.Outcome State Fault Refusal :=
  writeRow s p .collCmd (w ||| mkBit true 31)

/-- COLL_FAULTED_CLEAR (R457). -/
def execCollFaultedClear (p : Path) (i : Fin 68) (w : Word) (s : State) : Host.Outcome State Fault Refusal :=
  writeRow s p (.collFaulted i) w

end Sys2Proof.Machine
end

