-- ==== Sys2Proof/Machine/EphemRows.lean ====
section
/-! DEFINITION. The meanings of the commands of 12_ephemeris.md. -/
namespace Sys2Proof.Machine

/-- ENCODER_EDGE (R476, R477, R483). -/
def execEncoderEdge (a : Fin 8) (lineA lineB : Bool) (s : State) : Host.Outcome State Fault Refusal :=
  ifAlive s (fun d => d.encoderLevels a lineA lineB)

/-- INDEX_EDGE (R478, R479). -/
def execIndexEdge (a : Fin 8) (s : State) : Host.Outcome State Fault Refusal := ifClocked s (fun d => d.axisIndex a)

/-- LINE_CROSSING (R472). -/
def execLineCrossing (q : Fin 4) (age : Int) (s : State) : Host.Outcome State Fault Refusal :=
  ifClocked s (fun d => d.lineCross q age)

/-- AXIS_HOLD (R473). -/
def execAxisHold (a : Fin 8) (s : State) : Host.Outcome State Fault Refusal := ifClocked s (fun d => d.axisLevels a)

/-- AXIS_STALL (R473). -/
def execAxisStall (a : Fin 8) (s : State) : Host.Outcome State Fault Refusal := ifClocked s (fun d => d.axisLevels a)

/-- AX_SET_COMMIT (R484): the low word, with the high word that the path has staged. -/
def execAxSetCommit (p : Path) (a : Fin 8) (w : Word) (s : State) : Host.Outcome State Fault Refusal :=
  writeRow s p (.axSet a) w

/-- ENTRY_FIRE (R490 to R492): an entry fires when it is among the first eight of the edge. -/
def execEntryFire (i : Fin 512) (s : State) : Host.Outcome State Fault Refusal :=
  ifClocked s (fun d => if d.firing.contains i.val then d.schedFire i.val else d)

end Sys2Proof.Machine
end

