-- ==== Sys2Proof/Machine/ChronoRows.lean ====
section
/-! DEFINITION. The meanings of the commands of 13_chronographs.md. -/
namespace Sys2Proof.Machine

/-- The counter of a channel has counted into COMPARE on the present edge (R525). What channels before it take on that edge
comes first (R530). -/
def Dev.matchNow (d : Dev) (n : Fin 64) : Dev :=
  let c := d.chronos[n]
  if c.moved && c.armed && decide (c.count = d.chrCompareAt n) then (d.capsTake (fun m => decide (m < n))).chrFire n false else d

/-- The counter of a MODE 2 channel has entered CHR_TERM on the present edge; a match on that edge comes first (R386,
R507). -/
def Dev.terminalNow (d : Dev) (n : Fin 64) : Dev :=
  let c := d.chronos[n]
  if c.running && c.moved && decide ((d.chrEntry n).mode = 2) && decide (c.count = d.rd48 (.chrTerm n)) then
    ((d.matchNow n).capsTake (fun m => decide (m < n))).chrTerminalEvent n
  else d

/-- A pin level has been accepted: FILTER samples have shown it, the first FILTER − 1 edges ago (R513). A pin that the device
drives shows its own level and no other (R529). -/
def Dev.capPinLevel (d : Dev) (n : Fin 64) (high : Bool) : Dev :=
  let e := d.chrEntry n
  if 0x40 ≤ e.capSrc ∨ (d.chrPinOut (toFin 63 e.capSrc) = true ∧ d.drivenDue n ≠ some high) then d
  else (d.capsTake (fun m => decide (m < n))).capAccept n high (e.filter - 1)

/-- CHR_CMD_ARM (R504, R505). -/
def execChrCmdArm (p : Path) (n : Fin 64) (s : State) : Host.Outcome State Fault Refusal := writeRow s p (.chrCmd n) 1

/-- CHR_ARM (R504): the low word, with the high word that the path has staged. -/
def execChrArm (p : Path) (w : Word) (s : State) : Host.Outcome State Fault Refusal := writeRow s p .chrArm w

/-- CHR_CMD_STOP (R509). -/
def execChrCmdStop (p : Path) (n : Fin 64) (s : State) : Host.Outcome State Fault Refusal := writeRow s p (.chrCmd n) 2

/-- CHR_COUNT_LOAD (R506). -/
def execChrCountLoad (p : Path) (n : Fin 64) (w : Word) (s : State) : Host.Outcome State Fault Refusal :=
  writeRow s p (.chrCount n) w

/-- CHR_TERM_WRITE (R508). -/
def execChrTermWrite (p : Path) (n : Fin 64) (w : Word) (s : State) : Host.Outcome State Fault Refusal :=
  writeRow s p (.chrTerm n) w

/-- CHR_COMPARE_WRITE (R526). -/
def execChrCompareWrite (p : Path) (n : Fin 64) (w : Word) (s : State) : Host.Outcome State Fault Refusal :=
  writeRow s p (.chrCompare n) w

/-- CHR_TERMINAL (R507). -/
def execChrTerminal (n : Fin 64) (s : State) : Host.Outcome State Fault Refusal :=
  ifClocked s (fun d => d.terminalNow n)

/-- CHR_MATCH (R525, R528). -/
def execChrMatch (n : Fin 64) (s : State) : Host.Outcome State Fault Refusal := ifClocked s (fun d => d.matchNow n)

/-- CAP_LEVEL_ACCEPT (R513, R517, R518): the level has agreed for FILTER samples, the first of them FILTER − 1 edges
ago. In SLEEP it says what the pin shows, and no edge is taken (R535). -/
def execCapLevelAccept (n : Fin 64) (level : Bool) (s : State) : Host.Outcome State Fault Refusal :=
  ifAlive s (fun d => d.capPinLevel n level)

/-- CHR_CAPTURE_LOW_READ (R27, R532). -/
def execChrCaptureLowRead (p : Path) (n : Fin 64) (s : State) : Host.Outcome State Fault Refusal :=
  readRow s p (Reg.chrCapture n).offset

end Sys2Proof.Machine
end

