-- ==== Sys2Proof/Machine/OutputRows.lean ====
section
/-! DEFINITION. The meanings of the register commands of 14_outputs.md and 15_trip_path.md; those of the channels' own events stand in Machine/Outputs.lean. -/
namespace Sys2Proof.Machine

/-- OUT_VALUE_WRITE (R548). -/
def execOutValueWrite (p : Path) (n : Fin 32) (w : Word) (s : State) : Host.Outcome State Fault Refusal :=
  writeRow s p (.outValue n) w

/-- OUT_QPUSH (R553). -/
def execOutQpush (p : Path) (n : Fin 32) (w : Word) (s : State) : Host.Outcome State Fault Refusal :=
  writeRow s p (.outQpush n) w

/-- OUT_CMD_ABORT (R582). -/
def execOutCmdAbort (p : Path) (n : Fin 32) (s : State) : Host.Outcome State Fault Refusal := writeRow s p (.outCmd n) 1

/-- OUT_CMD_RESUME (R578). -/
def execOutCmdResume (p : Path) (n : Fin 32) (s : State) : Host.Outcome State Fault Refusal :=
  writeRow s p (.outCmd n) 2

/-- OUT_QCLR_FORCE_WRITE (R567). -/
def execOutQclrForceWrite (p : Path) (w : Word) (s : State) : Host.Outcome State Fault Refusal :=
  writeRow s p .outQclrForce w

/-- OUT_QCLR_TRIP_CLEAR (R571). -/
def execOutQclrTripClear (p : Path) (w : Word) (s : State) : Host.Outcome State Fault Refusal :=
  writeRow s p .outQclrTrip w

/-- TRIP_HELD_CLEAR (R599). -/
def execTripHeldClear (p : Path) (w : Word) (s : State) : Host.Outcome State Fault Refusal := writeRow s p .tripHeld w

end Sys2Proof.Machine
end

