-- ==== Sys2Proof/Machine/HostRows.lean ====
section
/-! DEFINITION. The meanings of the commands of 16_host_interface.md, and of the register commands of 17_logbook.md; those of the logbook writer stand in Machine/Records.lean. -/
namespace Sys2Proof.Machine

/-- The vault window answers along a path (R144, R611, R644). -/
def Dev.bar2Open (d : Dev) : Path → Bool
  | .pcie => d.alive && d.boot.perstHigh && d.boot.memSpace && d.boot.bar2.isSome
  | .spi => d.alive
  | .link => d.clocked
  | .queue _ => false

/-- Words of BAR2 are read along a path, in ascending order and without side effect (R611, R612, R742). -/
def Dev.bar2Get (d : Dev) (v : NonVolatile) (p : Path) (off n : Nat) : Dev :=
  let d := d.hostWakes p
  if d.bar2Open p then forEach (List.range n) (fun i d => d.emit (.busData p (d.bar2Word v (off + 4 * i)))) d else d.turnedAway p

/-- A write to BAR2 along a path: it is discarded and logged (R611, R648, R728). A request queue names no BAR2 offset, and
a remote write on the link comes with its frame. -/
def Dev.bar2Put (d : Dev) (v : NonVolatile) (p : Path) (off : BitVec 20) (w : Word) : Dev :=
  match p with
  | .pcie =>
    let d := d.hostWakes p
    if d.bar2Open p then d.logReject (pathReject p true) (off.setWidth 32) w 0 .state
    else d.turnedAway p
  | .spi => if d.alive then d.spiPut v (0x800000 + off.toNat) w else d
  | .link =>
    if d.clocked then d.logReject (pathReject p true) (off.setWidth 32 ||| mkBit true 31) w 0 .state else d
  | .queue _ => d

/-- The command bytes of Table 16.6. -/
def spiListed (cmd : Byte) : Bool :=
  decide (cmd = 0x02) || decide (cmd = 0x06) || decide (cmd = 0x0B) || decide (cmd = 0x0E) || decide (cmd = 0x05)

/-- REGISTER_WRITE (R613, R614, R616): one write request of one or more words. -/
def execRegisterWrite (p : Path) (off : BitVec 22) (first : BitVec 4 × Word) (rest : List (BitVec 4 × Word)) (s : State) :
    Host.Outcome State Fault Refusal :=
  let d := s.dev.hostWakes p
  settled s (if d.portOpen p then Dev.writeWords s.nv p off.toNat (first :: rest) d else d.turnedAway p)

/-- HIGH_HALF_STAGE (R28, R618, R619). -/
def execHighHalfStage (p : Path) (off : BitVec 22) (w : Word) (s : State) : Host.Outcome State Fault Refusal :=
  settled s (s.dev.busWrite s.nv p off.toNat w)

/-- Words of BAR0 are read along a path by one request, in ascending order (R612). -/
def Dev.busGetAll (d : Dev) (p : Path) (off n : Nat) : Dev :=
  let d := d.hostWakes p
  if d.portOpen p then forEach (List.range n) (fun i d => d.busGet p (off + 4 * i)) d else d.turnedAway p

/-- RL_LOW_READ (R26, R27, R611, R612): one read request of one or more words, of registers or of the vault window. -/
def execRlLowRead (p : Path) (r : ReadRequest) (s : State) : Host.Outcome State Fault Refusal :=
  settled s (if r.bar2 then s.dev.bar2Get s.nv p r.off.toNat r.words else s.dev.busGetAll p r.off.toNat r.words)

/-- REJECT_LOG_WRITE (R622). -/
def execRejectLogWrite (p : Path) (w : Word) (s : State) : Host.Outcome State Fault Refusal := writeRow s p .rejectLog w

/-- BAR2_WRITE (R611, R648, R728). -/
def execBar2Write (p : Path) (off : BitVec 20) (w : Word) (s : State) : Host.Outcome State Fault Refusal :=
  settled s (s.dev.bar2Put s.nv p off w)

/-- Q_CTRL_ENABLE (R628): a Q_CTRL write with EN set. -/
def execQCtrlEnable (p : Path) (k : Fin 8) (w : Word) (s : State) : Host.Outcome State Fault Refusal :=
  writeRow s p (.qCtrl k) (w ||| mkBit true 31)

/-- Q_CTRL_DISABLE (R633): a Q_CTRL write with EN clear. -/
def execQCtrlDisable (p : Path) (k : Fin 8) (w : Word) (s : State) : Host.Outcome State Fault Refusal :=
  writeRow s p (.qCtrl k) (w &&& ~~~(mkBit true 31))

/-- Q_DOORBELL (R629). -/
def execQDoorbell (p : Path) (k : Fin 8) (w : Word) (s : State) : Host.Outcome State Fault Refusal :=
  writeRow s p (.qDoorbell k) w

/-- ENTRY_FETCH_DONE (R631). -/
def execEntryFetchDone (k : Fin 8) (bytes : List Byte) (s : State) : Host.Outcome State Fault Refusal :=
  ifAlive s (fun d => d.fetched k bytes)

/-- QUEUE_FETCH_ERROR (R634). -/
def execQueueFetchError (k : Fin 8) (s : State) : Host.Outcome State Fault Refusal :=
  ifAlive s (fun d => d.fetchFails k)

/-- Q_HEAD_WRITEBACK (R632). -/
def execQHeadWriteback (k : Fin 8) (s : State) : Host.Outcome State Fault Refusal :=
  ifClocked s (fun d => d.writeHead k)

/-- NOP (R636). -/
def execNop (k : Fin 8) (s : State) : Host.Outcome State Fault Refusal :=
  settled s (s.dev.process k (fun o => decide (o = 0x01)) (fun bs d => d.nopEntry k bs))

/-- MARK (R639, R685). -/
def execMark (k : Fin 8) (s : State) : Host.Outcome State Fault Refusal :=
  settled s (s.dev.process k (fun o => decide (o = 0x12)) (fun bs d => d.markEntry k bs))

/-- REG_WRITE (R637). -/
def execRegWrite (k : Fin 8) (s : State) : Host.Outcome State Fault Refusal :=
  settled s (s.dev.process k (fun o => decide (o = 0x20)) (fun bs d => d.regWriteEntry s.nv k bs))

/-- REG_READ (R638). -/
def execRegRead (k : Fin 8) (s : State) : Host.Outcome State Fault Refusal :=
  settled s (s.dev.process k (fun o => decide (o = 0x21)) (fun bs d => d.regReadEntry k bs))

/-- BAD_OPCODE (R636). -/
def execBadOpcode (k : Fin 8) (s : State) : Host.Outcome State Fault Refusal :=
  settled s (s.dev.process k (fun o => !opcodes.contains o) (fun bs d => d.badEntry k bs))

/-- FUNCTION_LEVEL_RESET (R608). -/
def execFunctionLevelReset (s : State) : Host.Outcome State Fault Refusal := settled s s.dev.functionReset

/-- MSIX_SEND (R626). -/
def execMsixSend (v : Fin 64) (s : State) : Host.Outcome State Fault Refusal := ifAlive s (fun d => d.sendMsix v)

/-- SPI_WRITE_INC (R643, R647). -/
def execSpiWriteInc (addr : BitVec 24) (words : List Word) (s : State) : Host.Outcome State Fault Refusal :=
  settled s (s.dev.spiWriteInc s.nv addr.toNat words)

/-- SPI_WRITE_FIX (R643, R647). -/
def execSpiWriteFix (addr : BitVec 24) (words : List Word) (s : State) : Host.Outcome State Fault Refusal :=
  settled s (s.dev.spiWriteFix s.nv addr.toNat words)

/-- SPI_READ_INC (R643, R646). -/
def execSpiReadInc (addr : BitVec 24) (count : Nat) (s : State) : Host.Outcome State Fault Refusal :=
  settled s (s.dev.spiRead s.nv true addr.toNat count)

/-- SPI_READ_FIX (R643, R646). -/
def execSpiReadFix (addr : BitVec 24) (count : Nat) (s : State) : Host.Outcome State Fault Refusal :=
  settled s (s.dev.spiRead s.nv false addr.toNat count)

/-- SPI_STATUS_CMD (R646, R649). -/
def execSpiStatusCmd (s : State) : Host.Outcome State Fault Refusal := settled s (s.dev.spiStatus s.nv)

/-- SPI_BAD_CMD (R645): a byte that Table 16.6 lists is no unknown command. -/
def execSpiBadCmd (cmd : Byte) (s : State) : Host.Outcome State Fault Refusal :=
  settled s (if spiListed cmd then s.dev else s.dev.spiBad s.nv)

/-- SPI_CS_RISE (R647). -/
def execSpiCsRise (cut : Bool) (s : State) : Host.Outcome State Fault Refusal := settled s (s.dev.spiRise s.nv cut)

/-- LB_HEAD_WRITE (R654). -/
def execLbHeadWrite (p : Path) (b : Fin 16) (w : Word) (s : State) : Host.Outcome State Fault Refusal :=
  writeRow s p (.lbHead b) w

/-- LB_CTRL_ENABLE (R652): an LB_CTRL write with EN set. -/
def execLbCtrlEnable (p : Path) (b : Fin 16) (w : Word) (s : State) : Host.Outcome State Fault Refusal :=
  writeRow s p (.lbCtrl b) (w ||| mkBit true 31)

/-- LINK_TRAINING_COMPLETE (R142). -/
def execLinkTrainingComplete (s : State) : Host.Outcome State Fault Refusal := ifAlive s (fun d => d.trained)

/-- CRS_LIMIT (R143). -/
def execCrsLimit (s : State) : Host.Outcome State Fault Refusal := ifAlive s (fun d => d.crsEnds)

/-- CONFIGURATION_REQUEST (R142 to R144). -/
def execConfigurationRequest (r : CfgRequest) (s : State) : Host.Outcome State Fault Refusal :=
  settled s (s.dev.cfgRequest r)

end Sys2Proof.Machine
end

