-- ==== Sys2Proof/Machine/LinkRows.lean ====
section
/-! DEFINITION. The meanings of the commands of 18_floper_link.md. -/
namespace Sys2Proof.Machine

/-- LINK_PORT_UP (R694). -/
def execLinkPortUp (e : LinkPort) (s : State) : Host.Outcome State Fault Refusal := ifAlive s (fun d => d.portUp e)

/-- LINK_PORT_DOWN (R694, R723). -/
def execLinkPortDown (e : LinkPort) (cause : Fin 4) (s : State) : Host.Outcome State Fault Refusal :=
  ifAlive s (fun d => d.portDown e cause.val)

/-- URGENT_TRIGGER (R700 to R703, R708). -/
def execUrgentTrigger (e : LinkPort) (f : UrgentFrame) (s : State) : Host.Outcome State Fault Refusal :=
  ifAlive s (fun d => d.takeUrgent e .trigger f)

/-- URGENT_BLANK (R700 to R703, R708). -/
def execUrgentBlank (e : LinkPort) (f : UrgentFrame) (s : State) : Host.Outcome State Fault Refusal :=
  ifAlive s (fun d => d.takeUrgent e .blank f)

/-- URGENT_CLEAR (R700 to R703, R708). -/
def execUrgentClear (e : LinkPort) (f : UrgentFrame) (s : State) : Host.Outcome State Fault Refusal :=
  ifAlive s (fun d => d.takeUrgent e .clear f)

/-- URGENT_ISSUE (R700 to R703, R708). -/
def execUrgentIssue (e : LinkPort) (f : UrgentFrame) (s : State) : Host.Outcome State Fault Refusal :=
  ifAlive s (fun d => d.takeUrgent e .issue f)

/-- URGENT_TRIP (R700 to R703, R708). -/
def execUrgentTrip (e : LinkPort) (f : UrgentFrame) (s : State) : Host.Outcome State Fault Refusal :=
  ifAlive s (fun d => d.takeUrgent e .trip f)

/-- URGENT_WAKE (R700 to R703, R708). -/
def execUrgentWake (e : LinkPort) (f : UrgentFrame) (s : State) : Host.Outcome State Fault Refusal :=
  ifAlive s (fun d => d.takeUrgent e .wake f)

/-- BEACON (R713 to R715). -/
def execBeacon (e : LinkPort) (f : BeaconFrame) (s : State) : Host.Outcome State Fault Refusal :=
  ifAlive s (fun d => d.takeBeacon e f)

/-- BEACON_SEND (R711). -/
def execBeaconSend (s : State) : Host.Outcome State Fault Refusal := ifClocked s (fun d => d.beaconOut)

/-- BEACON_LOSS (R715). -/
def execBeaconLoss (s : State) : Host.Outcome State Fault Refusal := ifAlive s (fun d => d.beaconLost)

/-- DELAY_REQ_SEND (R710). -/
def execDelayReqSend (e : LinkPort) (s : State) : Host.Outcome State Fault Refusal :=
  ifAlive s (fun d => d.delayReqOut e)

/-- DELAY_REQ (R710). -/
def execDelayReq (e : LinkPort) (seq crc : Byte) (turn : Word) (s : State) : Host.Outcome State Fault Refusal :=
  ifAlive s (fun d => d.delayReqIn e seq crc turn)

/-- DELAY_RESP (R710). -/
def execDelayResp (e : LinkPort) (f : DelayRespFrame) (s : State) : Host.Outcome State Fault Refusal :=
  ifAlive s (fun d => d.delayRespIn e f)

/-- RRA_REQ (R728 to R730). -/
def execRraReq (e : LinkPort) (f : NormalFrame) (s : State) : Host.Outcome State Fault Refusal :=
  ifAlive s (fun d => d.rraReqIn s.nv e f)

/-- RRA_RESP (R731). -/
def execRraResp (e : LinkPort) (f : NormalFrame) (s : State) : Host.Outcome State Fault Refusal :=
  ifAlive s (fun d => d.rraRespIn e f)

/-- MBOX (R725). -/
def execMbox (e : LinkPort) (f : NormalFrame) (s : State) : Host.Outcome State Fault Refusal :=
  ifAlive s (fun d => d.mboxIn e f)

/-- MBOX_ACK (R726). -/
def execMboxAck (e : LinkPort) (f : NormalFrame) (s : State) : Host.Outcome State Fault Refusal :=
  ifAlive s (fun d => d.mboxAckIn e f)

/-- BOOT_DATA (R732, R733). -/
def execBootData (e : LinkPort) (f : NormalFrame) (s : State) : Host.Outcome State Fault Refusal :=
  ifAlive s (fun d => d.bootDataIn e f)

/-- BOOT_ACK (R734). -/
def execBootAck (e : LinkPort) (f : NormalFrame) (s : State) : Host.Outcome State Fault Refusal :=
  ifAlive s (fun d => d.bootAckIn e f)

/-- ENUM (R721). -/
def execEnum (e : LinkPort) (f : NormalFrame) (s : State) : Host.Outcome State Fault Refusal :=
  ifAlive s (fun d => d.enumIn e f)

/-- CENSUS (R722). -/
def execCensus (e : LinkPort) (f : NormalFrame) (s : State) : Host.Outcome State Fault Refusal :=
  ifAlive s (fun d => d.censusIn e f)

/-- CENSUS_DONE (R722). -/
def execCensusDone (e : LinkPort) (f : NormalFrame) (s : State) : Host.Outcome State Fault Refusal :=
  ifAlive s (fun d => d.censusDoneIn e f)

/-- RING_OPEN (R723). -/
def execRingOpen (e : LinkPort) (f : NormalFrame) (s : State) : Host.Outcome State Fault Refusal :=
  ifAlive s (fun d => d.ringOpenIn e f)

/-- LK_CMD_ENUMERATE (R720). -/
def execLkCmdEnumerate (p : Path) (s : State) : Host.Outcome State Fault Refusal := writeRow s p .lkCmd (mkBit true 16)

/-- LK_CMD_CENSUS (R722). -/
def execLkCmdCensus (p : Path) (s : State) : Host.Outcome State Fault Refusal := writeRow s p .lkCmd (mkBit true 18)

/-- LK_CMD_WAKE (R708). -/
def execLkCmdWake (p : Path) (all : Bool) (node : Byte) (s : State) : Host.Outcome State Fault Refusal :=
  writeRow s p .lkCmd (mkBit true 17 ||| mkBit all 8 ||| node.setWidth 32)

/-- LK_MBOX_SEND (R724). -/
def execLkMboxSend (p : Path) (bcast : Bool) (node : Byte) (s : State) : Host.Outcome State Fault Refusal :=
  writeRow s p .lkMboxSend (mkBit true 31 ||| mkBit bcast 16 ||| node.setWidth 32)

/-- LR_CMD_GO (R727). -/
def execLrCmdGo (p : Path) (twoHalf write : Bool) (node : Byte) (s : State) : Host.Outcome State Fault Refusal :=
  writeRow s p .lrCmd (mkBit true 31 ||| mkBit twoHalf 17 ||| mkBit write 16 ||| node.setWidth 32)

/-- LK_BOOT_CTRL_BEGIN (R734). -/
def execLkBootCtrlBegin (p : Path) (node : Byte) (s : State) : Host.Outcome State Fault Refusal :=
  writeRow s p .lkBootCtrl (mkBit true 31 ||| node.setWidth 32)

/-- LK_BOOT_DATA_WRITE (R734). -/
def execLkBootDataWrite (p : Path) (w : Word) (s : State) : Host.Outcome State Fault Refusal :=
  writeRow s p .lkBootData w

/-- LK_SHUT_LINK_CLEAR (R709). -/
def execLkShutLinkClear (p : Path) (w : Word) (s : State) : Host.Outcome State Fault Refusal :=
  writeRow s p .lkShutLink w

/-- MBOX_RESEND_TIMEOUT (R726). -/
def execMboxResendTimeout (s : State) : Host.Outcome State Fault Refusal := ifClocked s (fun d => d.mboxResend)

/-- RRA_RETRY_TIMEOUT (R731). -/
def execRraRetryTimeout (s : State) : Host.Outcome State Fault Refusal := ifClocked s (fun d => d.rraRetry)

/-- BOOT_RESEND_TIMEOUT (R734). -/
def execBootResendTimeout (s : State) : Host.Outcome State Fault Refusal := ifClocked s (fun d => d.bootResend)

/-- ENUM_TIMEOUT (R722). -/
def execEnumTimeout (s : State) : Host.Outcome State Fault Refusal := ifClocked s (fun d => d.enumTimeout)

/-- CENSUS_AUTO_START (R722). -/
def execCensusAutoStart (s : State) : Host.Outcome State Fault Refusal := ifClocked s (fun d => d.autoCensus)

end Sys2Proof.Machine
end

