-- ==== Sys2Proof/Machine/VaultRows.lean ====
section
/-! DEFINITION. The meanings of the commands of 19_vault.md, and of the barrier's of 20_electrical_package.md. -/
namespace Sys2Proof.Machine

/-- An event that only a live control die takes, and that reaches the vault's cells. -/
def ifAliveNv (s : State) (f : Dev → NonVolatile → Dev × NonVolatile) : Host.Outcome State Fault Refusal :=
  settledNv s (if s.dev.alive then f s.dev s.nv else (s.dev, s.nv))

/-- An upstream barrier frame of a quadrant fails: the bursts whose samples it carried are voided, and a collimation run
whose reading it carried is abandoned (R776, R777, R795). Bit k of `lanes` names lane k of the quadrant. -/
def Dev.upstreamFails (d : Dev) (q : Fin 4) (lanes : BitVec 8) (coll : Bool) : Dev :=
  if d.quads[q].trained then
    let d := d.countFld (.barrierErr q) 16 16 1
    let d := forEach (lanesOf q) (fun n d => if lanes.getLsbD (n.val % 8) then d.frameVoids n else d) d
    if coll then d.collStop q else d
  else d

/-- A downstream barrier frame of a quadrant fails; it is counted and sent again, and the quadrant acts on it once (R778,
R795). -/
def Dev.downstreamFails (d : Dev) (q : Fin 4) : Dev :=
  if d.quads[q].trained then d.countFld (.barrierErr q) 0 16 1 else d

/-- VLT_OPEN (R745). -/
def execVltOpen (p : Path) (s : State) : Host.Outcome State Fault Refusal := writeRow s p .vltCmd 1

/-- VLT_LOAD (R748). -/
def execVltLoad (p : Path) (page : BitVec 12) (s : State) : Host.Outcome State Fault Refusal :=
  writeRow s p .vltCmd (at_ page.toNat 16 ||| 16)

/-- VLT_PUT (R750). -/
def execVltPut (p : Path) (page : BitVec 12) (s : State) : Host.Outcome State Fault Refusal :=
  writeRow s p .vltCmd (at_ page.toNat 16 ||| 2)

/-- VLT_COMMIT (R753). -/
def execVltCommit (p : Path) (s : State) : Host.Outcome State Fault Refusal := writeRow s p .vltCmd 4

/-- VLT_ABORT (R756, R757). -/
def execVltAbort (p : Path) (s : State) : Host.Outcome State Fault Refusal := writeRow s p .vltCmd 8

/-- VLT_BUF_WRITE (R749). -/
def execVltBufWrite (p : Path) (i : Fin 64) (w : Word) (s : State) : Host.Outcome State Fault Refusal :=
  writeRow s p (.vltBuf i) w

/-- VAULT_PAGE_WRITE_DONE (R747). -/
def execVaultPageWriteDone (s : State) : Host.Outcome State Fault Refusal := ifAliveNv s (fun d v => d.pageDone v)

/-- VAULT_COMMIT_POINT (R754). -/
def execVaultCommitPoint (s : State) : Host.Outcome State Fault Refusal := ifAliveNv s (fun d v => d.commitPoint v)

/-- VAULT_CLOSE (R753). -/
def execVaultClose (s : State) : Host.Outcome State Fault Refusal := ifAliveNv s (fun d v => d.vaultClose v)

/-- UPSTREAM_FRAME_FAIL (R776, R777, R795): the barrier channel runs in SLEEP as well (Table 4.4). -/
def execUpstreamFrameFail (q : Fin 4) (lanes : BitVec 8) (coll : Bool) (s : State) :
    Host.Outcome State Fault Refusal :=
  ifAlive s (fun d => d.upstreamFails q lanes coll)

/-- DOWNSTREAM_FRAME_FAIL (R778, R795). -/
def execDownstreamFrameFail (q : Fin 4) (s : State) : Host.Outcome State Fault Refusal :=
  ifAlive s (fun d => d.downstreamFails q)

end Sys2Proof.Machine
end

