-- ==== Sys2Proof/Machine/Dispatch.lean ====
section
/-! DEFINITION. The dispatch: one arm per command, each a direct call of the command's meaning. -/
namespace Sys2Proof.Machine

/-- What a command does to everything but the queue. -/
def exec (i : Instr) (s : State) : Host.Outcome State Fault Refusal :=
  match i with
  | .supplyLoss => Sys2Proof.Machine.execSupplyLoss s
  | .porRelease mode rstHigh => Sys2Proof.Machine.execPorRelease mode rstHigh s
  | .rstNAssert => Sys2Proof.Machine.execRstNAssert s
  | .rstNRise mode => Sys2Proof.Machine.execRstNRise mode s
  | .fusingEnd => Sys2Proof.Machine.execFusingEnd s
  | .perstNFall => Sys2Proof.Machine.execPerstNFall s
  | .perstNRise => Sys2Proof.Machine.execPerstNRise s
  | .pgoodFall q => Sys2Proof.Machine.execPgoodFall q s
  | .pgoodRise q => Sys2Proof.Machine.execPgoodRise q s
  | .barrierTrained q => Sys2Proof.Machine.execBarrierTrained q s
  | .downstreamSilence q => Sys2Proof.Machine.execDownstreamSilence q s
  | .flashDirectoryReadDone bytes => Sys2Proof.Machine.execFlashDirectoryReadDone bytes s
  | .imageSectionCheck staged bytes => Sys2Proof.Machine.execImageSectionCheck staged bytes s
  | .imageChecksComplete staged => Sys2Proof.Machine.execImageChecksComplete staged s
  | .imageActivation => Sys2Proof.Machine.execImageActivation s
  | .flashTimeout => Sys2Proof.Machine.execFlashTimeout s
  | .linkBootTimeout => Sys2Proof.Machine.execLinkBootTimeout s
  | .bootCtrlLoad p => Sys2Proof.Machine.execBootCtrlLoad p s
  | .bootCtrlReloadFlash p => Sys2Proof.Machine.execBootCtrlReloadFlash p s
  | .bootCtrlRelease p => Sys2Proof.Machine.execBootCtrlRelease p s
  | .bootCtrlHold p => Sys2Proof.Machine.execBootCtrlHold p s
  | .holdComplete => Sys2Proof.Machine.execHoldComplete s
  | .bootCtrlAbortLoad p => Sys2Proof.Machine.execBootCtrlAbortLoad p s
  | .almLoadDataWrite p w => Sys2Proof.Machine.execAlmLoadDataWrite p w s
  | .serviceLoadStall => Sys2Proof.Machine.execServiceLoadStall s
  | .fuseProgGo p bit => Sys2Proof.Machine.execFuseProgGo p bit s
  | .fuseProgDone readBack => Sys2Proof.Machine.execFuseProgDone readBack s
  | .journalRecoveryEnd => Sys2Proof.Machine.execJournalRecoveryEnd s
  | .cclkSelWrite p w => Sys2Proof.Machine.execCclkSelWrite p w s
  | .corePllLock => Sys2Proof.Machine.execCorePllLock s
  | .corePllUnlock => Sys2Proof.Machine.execCorePllUnlock s
  | .measPllUnlock => Sys2Proof.Machine.execMeasPllUnlock s
  | .measPllLock => Sys2Proof.Machine.execMeasPllLock s
  | .refclkLoss => Sys2Proof.Machine.execRefclkLoss s
  | .pdCtrlReduceOff p off => Sys2Proof.Machine.execPdCtrlReduceOff p off s
  | .pdCtrlLinkOff p off => Sys2Proof.Machine.execPdCtrlLinkOff p off s
  | .pdCtrlQOff p q off => Sys2Proof.Machine.execPdCtrlQOff p q off s
  | .sleepEnter p w => Sys2Proof.Machine.execSleepEnter p w s
  | .freezeEdge => Sys2Proof.Machine.execFreezeEdge s
  | .wakeEvent ev => Sys2Proof.Machine.execWakeEvent ev s
  | .ledgerAlarm => Sys2Proof.Machine.execLedgerAlarm s
  | .ledgerOverflow => Sys2Proof.Machine.execLedgerOverflow s
  | .resumeEdge => Sys2Proof.Machine.execResumeEdge s
  | .lpoMeasurement period => Sys2Proof.Machine.execLpoMeasurement period s
  | .thermalSample die temp shutdown => Sys2Proof.Machine.execThermalSample die temp shutdown s
  | .qresume p mask => Sys2Proof.Machine.execQresume p mask s
  | .stageBegin p => Sys2Proof.Machine.execStageBegin p s
  | .stageDiscard p => Sys2Proof.Machine.execStageDiscard p s
  | .stageDataWrite p w => Sys2Proof.Machine.execStageDataWrite p w s
  | .stageReady => Sys2Proof.Machine.execStageReady s
  | .applyArm p w => Sys2Proof.Machine.execApplyArm p w s
  | .applyAbort p => Sys2Proof.Machine.execApplyAbort p s
  | .applyTrigger => Sys2Proof.Machine.execApplyTrigger s
  | .configAppliedLane n => Sys2Proof.Machine.execConfigAppliedLane n s
  | .applyClose => Sys2Proof.Machine.execApplyClose s
  | .burstStart n ilim => Sys2Proof.Machine.execBurstStart n ilim s
  | .gridStart n => Sys2Proof.Machine.execGridStart n s
  | .burstReverse r => Sys2Proof.Machine.execBurstReverse r s
  | .pairEnd n m => Sys2Proof.Machine.execPairEnd n m s
  | .restExpiry b => Sys2Proof.Machine.execRestExpiry b s
  | .prewarmPulseStart n ilim => Sys2Proof.Machine.execPrewarmPulseStart n ilim s
  | .prewarmPulseEnd p => Sys2Proof.Machine.execPrewarmPulseEnd p s
  | .shutPinChange k level => Sys2Proof.Machine.execShutPinChange k level s
  | .shutForceWrite p w => Sys2Proof.Machine.execShutForceWrite p w s
  | .shutTripClear p w => Sys2Proof.Machine.execShutTripClear p w s
  | .shutWaitTimeout n => Sys2Proof.Machine.execShutWaitTimeout n s
  | .turretBreak n => Sys2Proof.Machine.execTurretBreak n s
  | .turretShortOpen n => Sys2Proof.Machine.execTurretShortOpen n s
  | .turretMake n => Sys2Proof.Machine.execTurretMake n s
  | .turretOpenIdle n => Sys2Proof.Machine.execTurretOpenIdle n s
  | .portYield x => Sys2Proof.Machine.execPortYield x s
  | .tbBreak x err => Sys2Proof.Machine.execTbBreak x err s
  | .tbDischarge x err => Sys2Proof.Machine.execTbDischarge x err s
  | .tbMake x err => Sys2Proof.Machine.execTbMake x err s
  | .tbQuery x err => Sys2Proof.Machine.execTbQuery x err s
  | .tbId x err => Sys2Proof.Machine.execTbId x err s
  | .tbBreakA x err => Sys2Proof.Machine.execTbBreakA x err s
  | .tbDischargeA x err => Sys2Proof.Machine.execTbDischargeA x err s
  | .tbMakeA x err => Sys2Proof.Machine.execTbMakeA x err s
  | .cardActionComplete x c => Sys2Proof.Machine.execCardActionComplete x c s
  | .tbReply x frame => Sys2Proof.Machine.execTbReply x frame s
  | .tbReplyTimeout x => Sys2Proof.Machine.execTbReplyTimeout x s
  | .tbPortRelease x => Sys2Proof.Machine.execTbPortRelease x s
  | .tbTimedWaitEnd x => Sys2Proof.Machine.execTbTimedWaitEnd x s
  | .tbBusReset x => Sys2Proof.Machine.execTbBusReset x s
  | .cardClockLoss x c => Sys2Proof.Machine.execCardClockLoss x c s
  | .tbCmdProbe p x c => Sys2Proof.Machine.execTbCmdProbe p x c s
  | .tbCmdQuery p x c => Sys2Proof.Machine.execTbCmdQuery p x c s
  | .tbCmdBusReset p x => Sys2Proof.Machine.execTbCmdBusReset p x s
  | .tbCmdClrCnt p x => Sys2Proof.Machine.execTbCmdClrCnt p x s
  | .sampleLeavesFilter n m => Sys2Proof.Machine.execSampleLeavesFilter n m s
  | .modulatorReset n positive => Sys2Proof.Machine.execModulatorReset n positive s
  | .modulatorResetEnd n => Sys2Proof.Machine.execModulatorResetEnd n s
  | .submit k => Sys2Proof.Machine.execSubmit k s
  | .cancel k => Sys2Proof.Machine.execCancel k s
  | .slipRecordTimer n => Sys2Proof.Machine.execSlipRecordTimer n s
  | .transitTrigger t => Sys2Proof.Machine.execTransitTrigger t s
  | .ticketExpire t => Sys2Proof.Machine.execTicketExpire t s
  | .runAheadEntry n => Sys2Proof.Machine.execRunAheadEntry n s
  | .cacheFetchDone b => Sys2Proof.Machine.execCacheFetchDone b s
  | .reducerEntry r => Sys2Proof.Machine.execReducerEntry r s
  | .reducedValueOut r => Sys2Proof.Machine.execReducedValueOut r s
  | .plateHandover => Sys2Proof.Machine.execPlateHandover s
  | .redHostTempWrite p r w => Sys2Proof.Machine.execRedHostTempWrite p r w s
  | .collRunStart q b => Sys2Proof.Machine.execCollRunStart q b s
  | .collStepEnd q reading => Sys2Proof.Machine.execCollStepEnd q reading s
  | .collDecision q => Sys2Proof.Machine.execCollDecision q s
  | .collCmd p w => Sys2Proof.Machine.execCollCmd p w s
  | .collFaultedClear p j w => Sys2Proof.Machine.execCollFaultedClear p j w s
  | .encoderEdge a lineA lineB => Sys2Proof.Machine.execEncoderEdge a lineA lineB s
  | .indexEdge a => Sys2Proof.Machine.execIndexEdge a s
  | .lineCrossing q age => Sys2Proof.Machine.execLineCrossing q age s
  | .axisHold a => Sys2Proof.Machine.execAxisHold a s
  | .axisStall a => Sys2Proof.Machine.execAxisStall a s
  | .axSetCommit p a w => Sys2Proof.Machine.execAxSetCommit p a w s
  | .entryFire k => Sys2Proof.Machine.execEntryFire k s
  | .chrCmdArm p n => Sys2Proof.Machine.execChrCmdArm p n s
  | .chrArm p w => Sys2Proof.Machine.execChrArm p w s
  | .chrCmdStop p n => Sys2Proof.Machine.execChrCmdStop p n s
  | .chrCountLoad p n w => Sys2Proof.Machine.execChrCountLoad p n w s
  | .chrTermWrite p n w => Sys2Proof.Machine.execChrTermWrite p n w s
  | .chrCompareWrite p n w => Sys2Proof.Machine.execChrCompareWrite p n w s
  | .chrTerminal n => Sys2Proof.Machine.execChrTerminal n s
  | .chrMatch n => Sys2Proof.Machine.execChrMatch n s
  | .capLevelAccept n level => Sys2Proof.Machine.execCapLevelAccept n level s
  | .chrCaptureLowRead p n => Sys2Proof.Machine.execChrCaptureLowRead p n s
  | .outValueWrite p n w => Sys2Proof.Machine.execOutValueWrite p n w s
  | .outQpush p n w => Sys2Proof.Machine.execOutQpush p n w s
  | .outCmdAbort p n => Sys2Proof.Machine.execOutCmdAbort p n s
  | .outCmdResume p n => Sys2Proof.Machine.execOutCmdResume p n s
  | .outSampleEvent n => Sys2Proof.Machine.execOutSampleEvent n s
  | .rangeStageOff n => Sys2Proof.Machine.execRangeStageOff n s
  | .rangeStageOn n => Sys2Proof.Machine.execRangeStageOn n s
  | .rangeDone n => Sys2Proof.Machine.execRangeDone n s
  | .clrNAssert q => Sys2Proof.Machine.execClrNAssert q s
  | .clrNRelease q => Sys2Proof.Machine.execClrNRelease q s
  | .outQclrForceWrite p w => Sys2Proof.Machine.execOutQclrForceWrite p w s
  | .outQclrTripClear p w => Sys2Proof.Machine.execOutQclrTripClear p w s
  | .outFaultDetect n f sense => Sys2Proof.Machine.execOutFaultDetect n f sense s
  | .outFaultRelease n f => Sys2Proof.Machine.execOutFaultRelease n f s
  | .tripHeldClear p w => Sys2Proof.Machine.execTripHeldClear p w s
  | .registerWrite p off first rest => Sys2Proof.Machine.execRegisterWrite p off first rest s
  | .highHalfStage p off w => Sys2Proof.Machine.execHighHalfStage p off w s
  | .rlLowRead p r => Sys2Proof.Machine.execRlLowRead p r s
  | .rejectLogWrite p w => Sys2Proof.Machine.execRejectLogWrite p w s
  | .bar2Write p off w => Sys2Proof.Machine.execBar2Write p off w s
  | .qCtrlEnable p k w => Sys2Proof.Machine.execQCtrlEnable p k w s
  | .qCtrlDisable p k w => Sys2Proof.Machine.execQCtrlDisable p k w s
  | .qDoorbell p k w => Sys2Proof.Machine.execQDoorbell p k w s
  | .entryFetchDone k bytes => Sys2Proof.Machine.execEntryFetchDone k bytes s
  | .queueFetchError k => Sys2Proof.Machine.execQueueFetchError k s
  | .qHeadWriteback k => Sys2Proof.Machine.execQHeadWriteback k s
  | .nop k => Sys2Proof.Machine.execNop k s
  | .mark k => Sys2Proof.Machine.execMark k s
  | .regWrite k => Sys2Proof.Machine.execRegWrite k s
  | .regRead k => Sys2Proof.Machine.execRegRead k s
  | .badOpcode k => Sys2Proof.Machine.execBadOpcode k s
  | .functionLevelReset => Sys2Proof.Machine.execFunctionLevelReset s
  | .msixSend v => Sys2Proof.Machine.execMsixSend v s
  | .spiWriteInc addr words => Sys2Proof.Machine.execSpiWriteInc addr words s
  | .spiWriteFix addr words => Sys2Proof.Machine.execSpiWriteFix addr words s
  | .spiReadInc addr count => Sys2Proof.Machine.execSpiReadInc addr count s
  | .spiReadFix addr count => Sys2Proof.Machine.execSpiReadFix addr count s
  | .spiStatusCmd => Sys2Proof.Machine.execSpiStatusCmd s
  | .spiBadCmd cmd => Sys2Proof.Machine.execSpiBadCmd cmd s
  | .spiCsRise cut => Sys2Proof.Machine.execSpiCsRise cut s
  | .recordAdmit => Sys2Proof.Machine.execRecordAdmit s
  | .lbHeadWrite p b w => Sys2Proof.Machine.execLbHeadWrite p b w s
  | .lbCtrlEnable p b w => Sys2Proof.Machine.execLbCtrlEnable p b w s
  | .lossRunClose b => Sys2Proof.Machine.execLossRunClose b s
  | .markAdmit b => Sys2Proof.Machine.execMarkAdmit b s
  | .tailWriteback b => Sys2Proof.Machine.execTailWriteback b s
  | .lbModTimeout b => Sys2Proof.Machine.execLbModTimeout b s
  | .linkPortUp e => Sys2Proof.Machine.execLinkPortUp e s
  | .linkPortDown e cause => Sys2Proof.Machine.execLinkPortDown e cause s
  | .urgentTrigger e f => Sys2Proof.Machine.execUrgentTrigger e f s
  | .urgentBlank e f => Sys2Proof.Machine.execUrgentBlank e f s
  | .urgentClear e f => Sys2Proof.Machine.execUrgentClear e f s
  | .urgentIssue e f => Sys2Proof.Machine.execUrgentIssue e f s
  | .urgentTrip e f => Sys2Proof.Machine.execUrgentTrip e f s
  | .urgentWake e f => Sys2Proof.Machine.execUrgentWake e f s
  | .beacon e f => Sys2Proof.Machine.execBeacon e f s
  | .beaconSend => Sys2Proof.Machine.execBeaconSend s
  | .beaconLoss => Sys2Proof.Machine.execBeaconLoss s
  | .delayReqSend e => Sys2Proof.Machine.execDelayReqSend e s
  | .delayReq e seq crc turn => Sys2Proof.Machine.execDelayReq e seq crc turn s
  | .delayResp e f => Sys2Proof.Machine.execDelayResp e f s
  | .rraReq e f => Sys2Proof.Machine.execRraReq e f s
  | .rraResp e f => Sys2Proof.Machine.execRraResp e f s
  | .mbox e f => Sys2Proof.Machine.execMbox e f s
  | .mboxAck e f => Sys2Proof.Machine.execMboxAck e f s
  | .bootData e f => Sys2Proof.Machine.execBootData e f s
  | .bootAck e f => Sys2Proof.Machine.execBootAck e f s
  | .enum e f => Sys2Proof.Machine.execEnum e f s
  | .census e f => Sys2Proof.Machine.execCensus e f s
  | .censusDone e f => Sys2Proof.Machine.execCensusDone e f s
  | .ringOpen e f => Sys2Proof.Machine.execRingOpen e f s
  | .lkCmdEnumerate p => Sys2Proof.Machine.execLkCmdEnumerate p s
  | .lkCmdCensus p => Sys2Proof.Machine.execLkCmdCensus p s
  | .lkCmdWake p all node => Sys2Proof.Machine.execLkCmdWake p all node s
  | .lkMboxSend p bcast node => Sys2Proof.Machine.execLkMboxSend p bcast node s
  | .lrCmdGo p twoHalf write node => Sys2Proof.Machine.execLrCmdGo p twoHalf write node s
  | .lkBootCtrlBegin p node => Sys2Proof.Machine.execLkBootCtrlBegin p node s
  | .lkBootDataWrite p w => Sys2Proof.Machine.execLkBootDataWrite p w s
  | .lkShutLinkClear p w => Sys2Proof.Machine.execLkShutLinkClear p w s
  | .mboxResendTimeout => Sys2Proof.Machine.execMboxResendTimeout s
  | .rraRetryTimeout => Sys2Proof.Machine.execRraRetryTimeout s
  | .bootResendTimeout => Sys2Proof.Machine.execBootResendTimeout s
  | .enumTimeout => Sys2Proof.Machine.execEnumTimeout s
  | .censusAutoStart => Sys2Proof.Machine.execCensusAutoStart s
  | .vltOpen p => Sys2Proof.Machine.execVltOpen p s
  | .vltLoad p page => Sys2Proof.Machine.execVltLoad p page s
  | .vltPut p page => Sys2Proof.Machine.execVltPut p page s
  | .vltCommit p => Sys2Proof.Machine.execVltCommit p s
  | .vltAbort p => Sys2Proof.Machine.execVltAbort p s
  | .vltBufWrite p k w => Sys2Proof.Machine.execVltBufWrite p k w s
  | .vaultPageWriteDone => Sys2Proof.Machine.execVaultPageWriteDone s
  | .vaultCommitPoint => Sys2Proof.Machine.execVaultCommitPoint s
  | .vaultClose => Sys2Proof.Machine.execVaultClose s
  | .upstreamFrameFail q lanes coll => Sys2Proof.Machine.execUpstreamFrameFail q lanes coll s
  | .downstreamFrameFail q => Sys2Proof.Machine.execDownstreamFrameFail q s
  | .linkTrainingComplete => Sys2Proof.Machine.execLinkTrainingComplete s
  | .crsLimit => Sys2Proof.Machine.execCrsLimit s
  | .configurationRequest r => Sys2Proof.Machine.execConfigurationRequest r s
  | .cardPowerLoss x c => Sys2Proof.Machine.execCardPowerLoss x c s

end Sys2Proof.Machine
end

