-- ==== Sys2Proof/Machine/Tick.lean ====
section
/-! DEFINITION. CCLK edges on which no command waits (log entry 16): time, counters and ring time advance, the edge's own work
is done, and the commands that the edge itself makes due are put into the queue. -/
namespace Sys2Proof.Machine

/-! ### From one edge to the next -/

/-- How far τ goes to the next CCLK edge: to the next multiple of the period, since CCLK is REFCLK or is locked to it (R461), or
one period of the low-power oscillator (R462). -/
def Dev.edgeLen (d : Dev) : Nat :=
  match d.clk.now with
  | .lpo => d.period
  | _ => ((d.clk.tau / (d.period : Int) + 1) * (d.period : Int) - d.clk.tau).toNat

/-- The next CCLK edge of what CCLK drives: ephemeris time, the chronographs, ring time, and the TRIP lines (R461, R492, R500,
R711, R714, Table 15.3). Entries that were due and have not fired carry over (R490). -/
def Dev.clockTick (d : Dev) : Dev :=
  let p := d.edgeLen
  let e := d.deferEntries.ephEdge.onClk (fun c => { c with cycle := c.cycle + 1, tau := c.tau + p })
  ({ e with fired := 0, tripOut := d.tripLines }.chrTick).linkTick p

/-- A wire that carries a level to the chronographs. -/
def Ev.isLevel : Ev → Bool
  | .level _ _ => true
  | _ => false

/-- The shutter windows of all entries that fire on the present edge stand from its beginning, so that what they bring to the
chronographs comes before the entries' other actions (R386, R494, R536). A trigger edge of an apply brings other entries (R233). -/
def Dev.openWindows (d : Dev) : Dev :=
  if d.applyDue then d else forEach d.firing (fun i d => d.windowAct i (d.schedEntry i)) d

/-- What a new edge begins with: the comparators' steps, which clear outputs before anything else acts on them (R583, R603), and the
shutter windows of the schedule entries that fire on it. The captures that these and the edge itself bring to internal sources, since
`old`, are then owed in channel order (R530, R536). -/
def Dev.edgeStart (d old : Dev) : Dev :=
  let e := d.tripWork.openWindows
  ({ e with caps := e.capsDue old, events := e.events.filter (fun v => !v.isLevel) }).settle

/-- OUT_SENSE is measured every 10 µs (Table 14.7). -/
def Dev.senseEdge (d : Dev) : Bool := decide (d.clk.tau % (10000 * 65536) < (d.period : Int))

/-- What the present edge brings by itself, once each edge: captures of internal sources, pins, sample boundaries, the output
readings, and an urgent frame whose slot has come (R354, R528, R530, R705). -/
def Dev.edgeWork (d : Dev) : Dev :=
  if d.worked = d.clk.cycle then d
  else
    let d := { d with worked := d.clk.cycle }.capsTake (fun _ => true)
    let d := d.chrPins.passLines
    (if d.senseEdge then d.senseOutputs else d).urgentSlot.settle

/-! ### What the present edge makes due -/

/-- HOLD or STALL of an axis is about to change (R473). -/
def Dev.axisDue (d : Dev) (a : Fin 8) : List Instr :=
  (if d.atClamp a = d.axes[a].hold then [] else [Instr.axisHold a]) ++
    (if d.overdue a = d.axes[a].stall then [] else [Instr.axisStall a])

/-- The events of a chronograph on the present edge (R386, R507, R525, R529). -/
def Dev.chronoDue (d : Dev) (n : Fin 64) : List Instr :=
  let c := d.chronos[n]
  (if c.moved && c.armed && decide (c.count = d.chrCompareAt n) then [Instr.chrMatch n] else []) ++
    (if c.running && c.moved && decide ((d.chrEntry n).mode = 2) && decide (c.count = d.rd48 (.chrTerm n)) then
      [Instr.chrTerminal n] else []) ++
    ((d.drivenDue n).toList.map (Instr.capLevelAccept n))

/-- What comes first on an edge: axis flags, and chronographs in ascending channel order (R386, R536). -/
def Dev.firstDue (d : Dev) : List Instr :=
  (List.finRange 8).flatMap d.axisDue ++ (List.finRange 64).flatMap d.chronoDue

/-- What follows: a trigger edge, after which schedule entries act from the new table (R233); the schedule entries (R490); and
then transit triggers, lane records and the close of an apply (R380, R240 to R242). -/
def Dev.thenDue (d : Dev) : List Instr :=
  if d.applyDue then [Instr.applyTrigger]
  else
    d.firing.map (fun i => Instr.entryFire (toFin 511 i)) ++
      (d.pool.filter (fun e => d.transitDue e.2)).map (fun e => Instr.transitTrigger (toFin 2047 e.1)) ++ d.applyRows

/-- What ends an edge: loss runs close ahead of the records (R666), the records of the edge are admitted (R660), and then the
MARK records that wait for nothing more (R686). -/
def Dev.recordsDue (d : Dev) : List Instr :=
  ((List.finRange 16).filter (fun b => decide (d.logs[b].loss ≠ none) && d.bufRoom b 2)).map Instr.lossRunClose ++
    (if d.handed ≠ [] then d.handed.map (fun _ => Instr.recordAdmit)
     else ((List.finRange 16).filter d.markDue).map Instr.markAdmit)

/-- The present edge as far as it goes without a command: the device, and the commands that it makes due. Plates that pass no
reducer reach the comparators and the bindings after the sample events of the edge (R413, R583). -/
def Dev.onEdge (d : Dev) : Dev × List Instr :=
  let e := d.edgeWork
  let f := e.reachDirect.settle
  if d.firstDue ≠ [] then (d, d.firstDue) else if e.thenDue ≠ [] then (e, e.thenDue) else (f, f.recordsDue)

/-- The commands that a ledger tick makes due (R180, R182). -/
def Dev.ledgerDue (d : Dev) : List Instr :=
  (if d.alarmDue then [Instr.ledgerAlarm] else []) ++
    (if d.clk.ledgerRun && decide (d.clk.ledger = ledgerMax) then [Instr.ledgerOverflow] else [])

/-- On an empty queue the present edge is brought to its end; when nothing more is due on it, the next one comes. In SLEEP a
ledger tick passes (R178), and without a clock nothing does. -/
def State.tick (s : State) : State :=
  if s.dev.alive = false then s
  else if s.dev.clocked then
    let now := s.dev.onEdge
    if now.2 ≠ [] then { s with dev := now.1, pending := now.2 }
    else
      let next := (now.1.clockTick.edgeStart now.1).onEdge
      { s with dev := next.1, pending := next.2 }
  else
    let d := s.dev.ledgerTick
    { s with dev := d, pending := d.ledgerDue }

end Sys2Proof.Machine
end

