-- ==== Sys2Proof/Safety.lean ====
section
/-! DEFINITION. What counts as a safe run, and the terms in which the claims speak of accepted commands. -/
namespace Sys2Proof.Machine

/-- A step of the state answers a next state. -/
def State.goesOn (s : State) : Prop := ∃ t, step s = .next t

/-- No wire between engines is left over: every command works off what it raises (log entry 15). -/
abbrev State.quiet (s : State) : Prop := s.dev.events = []

/-- The vault's cells keep their canonical form: offsets rise strictly inside the array, no listed byte reads as an
unlisted one, and every journal slot names a home page and holds no more than one. -/
abbrev State.cellsOk (s : State) : Prop :=
  Memory.wf s.nv.home = true ∧ (∀ e ∈ s.nv.journal, e.1 < 4096 ∧ e.2.length ≤ 256)

/-- Every entry of the pool has an index of its own (R376). -/
abbrev State.poolOk (s : State) : Prop := (s.dev.pool.map (·.1)).Nodup

/-- A burst is in progress on a lane: its ticket drives, and the pair's last sample has not been taken (R276). -/
def Dev.bursting (d : Dev) (n : Fin 32) : Bool :=
  (d.working n).isSome && d.lanes[n].inBurst && !d.lanes[n].work.ended && !d.lanes[n].work.taken

/-- A command of the control die can run: CCLK drives its engines, and no wire is left over. -/
abbrev State.running (s : State) : Prop := s.quiet ∧ s.dev.clocked = true

/-- A write of the word `w` to the one-word register `r` along path `p` is accepted by every rule but the register's own:
the path is open, the device is awake and the write ends no SLEEP entry, neither its state nor a lock refuses the write, and no
reserved bit is set (R14, R16, R111 to R113, R188, R616, R648). -/
abbrev State.takes (s : State) (p : Path) (r : Reg) (w : Word) : Prop :=
  s.quiet ∧ (s.dev.boot.phase ≠ .sleep ∧ (p = .pcie → s.dev.boot.sleeping = false)) ∧ s.dev.portOpen p = true ∧ s.dev.gate p r r.offset = .ok ∧
    w &&& r.reservedLo = 0

/-- The same for the low word of a two-half register, whose high word `p` has staged (R618, R619). -/
abbrev State.takesPair (s : State) (p : Path) (r : Reg) (w : Word) : Prop :=
  s.takes p r w ∧ s.dev.stagedHi p r &&& r.reservedHi = 0

/-- The device after a write that its path has counted (R649); only the service port counts. -/
def Dev.counted (d : Dev) (p : Path) : Dev := d.spiWord p .ok 1

/-- A register write's row is refused with code `c` (R16, R621, R649): nothing changes but the log of rejections, which takes
the code when it is free, the service port's status, and the message of the log's vector. -/
def refusedWith (s : State) (i : Instr) (c : Code) : Prop :=
  ∃ d : Dev, exec i s = .next { s with dev := d } ∧ (s.dev.bit .rejectLog 31 = false → d.fld .rejectLog 0 8 = c.num) ∧
    (∀ q : Reg, q.offset ≠ Reg.offset .rejectLog → q.offset ≠ Reg.offset .rejectOffset →
      q.offset ≠ Reg.offset .rejectValue → q.offset ≠ Reg.offset .rejectValueHi → q.offset ≠ Reg.offset .spiStatus →
      d.rd q = s.dev.rd q) ∧
    d = { s.dev with
      regs := d.regs, outputs := d.outputs, boot := { s.dev.boot with msixPending := d.boot.msixPending } }

/-- An interval that is open on edge `e`, on which CCLK switches, is no longer of one clock (R534). -/
def Chrono.mixed (c : Chrono) (e : Nat) : Chrono :=
  { c with interval := c.interval.map (fun i => { i with mixedAt := i.mixedAt <|> some e }) }

/-- The device with an apply armed by an APPLY_CTRL word: it holds the staged image and its merge (R226 to R228). -/
def Dev.armed (d : Dev) (t : ApplyTrigger) (w : Word) : Dev :=
  { d with apply := { d.apply with
    phase := .armed, trigger := t, log := toFin 15 (Machine.fld w 12 4), image := d.stage.image, merged := d.stage.merged } }

/-- No plate is on its way to the logbook writer. -/
def Dev.noPlates (d : Dev) : Prop :=
  d.red.direct = [] ∧ d.red.plates = [] ∧ ∀ r : Fin 8, d.red.reducers[r].waiting = [] ∧ d.red.reducers[r].pipeline = []

/-- The device `d` after the trigger edge of an accepted apply of `a` (R233 to R241, R808): the merged bank is in force and
BOOT_STATUS shows its generation; a lane follows at once when it converts nothing and keeps the old bank otherwise. With a
lane or a plate left behind, the mixed window opens and the old bank is kept; with none, the apply ends on this very edge. -/
def appliedTo (a d : Dev) : Prop :=
  d.alm = a.apply.merged ∧ d.almValid = true ∧ (∀ n : Fin 32, d.lanes[n].old = a.lanes[n].current.isSome) ∧
    d.fld .applyStatus 8 8 = 0 ∧ d.fld .bootStatus 24 8 = a.apply.image.generation.toNat ∧
    ((∃ n : Fin 32, a.lanes[n].current.isSome = true) ∨ ¬ a.noPlates → d.apply.phase = .mixed ∧
      d.oldAlm = (if a.almValid then a.alm else {}) ∧ d.apply.oldGen = a.genInForce ∧
      d.apply.newGen = a.apply.image.generation ∧ d.apply.edge = a.clk.cycle) ∧
    ((∀ n : Fin 32, a.lanes[n].current = none) → a.noPlates → d.apply.phase = .idle ∧ d.oldAlm = {} ∧ d.stage = {} ∧
      d.bit .applyStatus 25 = true)

/-- In `d`, every channel of a quadrant that holds a configuration and is not shut down for heat stands at its clear code with
nothing queued, unless it is in FAULT or changes its range (R102, R572, R577). -/
def atClearCodes (s : State) (d : Dev) : Prop :=
  ∀ n : Fin 32, s.dev.quads[quadOf8 n.val].configured = true → s.dev.quads[quadOf8 n.val].hotOff = false →
    s.dev.outs[n].state ≠ .fault → s.dev.outs[n].state ≠ .ranging → (s.dev.fieldEntry n).range ≠ 0 →
    d.outs[n].target = (s.dev.fieldEntry n).clear ∧ d.outs[n].queue = []

/-- The row that sends the frame of a turret-bus command (Table 7.5). -/
def busRow (x : Fin 8) (err : Word) : BusCmd → Instr
  | .brk => .tbBreak x err
  | .discharge => .tbDischarge x err
  | .make => .tbMake x err
  | .query => .tbQuery x err
  | .ident => .tbId x err
  | .breakA => .tbBreakA x err
  | .dischargeA => .tbDischargeA x err
  | .makeA => .tbMakeA x err

/-- A frame that answers the outstanding command, with status 0 and no fault (R330, Table 7.4). -/
abbrev busAnswers (i : BusItem) (sent w : Word) : Prop :=
  crc5 w = fld w 0 5 ∧ fld w 28 4 = fld sent 28 4 ∧ fld w 26 2 = i.card.val ∧ fld w 22 4 = fld sent 16 4 ∧
    fld w 20 2 = 0 ∧ bit w 17 = false ∧ w ≠ 0

/-- A frame that answers the outstanding command with NAK_BAD (R330, R332, Table 7.4). -/
abbrev busRefuses (i : BusItem) (sent w : Word) : Prop :=
  crc5 w = fld w 0 5 ∧ fld w 28 4 = fld sent 28 4 ∧ fld w 26 2 = i.card.val ∧ fld w 22 4 = fld sent 16 4 ∧
    fld w 20 2 = 1 ∧ w ≠ 0

/-- A frame that answers the outstanding command with NAK_FAULT (R330, R333, R334, Table 7.4). -/
abbrev busFaults (i : BusItem) (sent w : Word) : Prop :=
  crc5 w = fld w 0 5 ∧ fld w 28 4 = fld sent 28 4 ∧ fld w 26 2 = i.card.val ∧ fld w 22 4 = fld sent 16 4 ∧
    fld w 20 2 = 2 ∧ w ≠ 0

/-- The card of a command has failed on a DISCHARGE_A or MAKE_A (R333): it is FAILED, its port waits for its release with no slot
made, a safety break of the card waits to go out, and CARD_FAULT is set. -/
abbrev cardOutOfService (d : Dev) (x : Fin 8) (i : BusItem) : Prop :=
  d.cardState x i.card = 2 ∧ d.xports[x].releasing = true ∧ d.xports[x].made = none ∧
    (∃ b ∈ d.xports[x].wanted, b.why = .safety ∧ b.card = i.card) ∧
    d.bit (.tbStatus x) 24 = true

/-- The condition of Table 9.2 that gives a submission with the descriptor `k` the code. -/
def Dev.submitRefused (d : Dev) (bs : List Byte) (k : Desc) : Code → Prop
  | .range => (filterOf d.alm (quadOfBridge k.bridge.val).val k.filter.val).totalDec = 0 ∨
      (exciteOf d.alm k.excite.val).level = 0 ∨
      ∃ r, k.reducer = some r ∧ ((fabricOf d.alm k.bridge.val).reducer = none ∨ (reduceOf d.alm r.val).en = false)
  | .reservedSet => 8 ≤ byteAt bs 1 ∨ field bs 0x16 2 ≠ 0 ∨ field bs 0x20 32 ≠ 0
  | .state => d.boot.phase ≠ .run ∨ d.boot.holding = true ∨ d.boot.sleeping = true ∨
      d.quads[quadOfBridge k.bridge.val].hotOff = true
  | .notPresent => (fabricOf d.alm k.bridge.val).inService = false ∨ d.quads[quadOfBridge k.bridge.val].barrierUp = false ∨
      d.qOff (quadOfBridge k.bridge.val) = true ∨ d.quarantined k.bridge = true ∨
      ∃ x c m, extOfBridge k.bridge.val = some (x, c, m) ∧ (d.cardState x c = 0 ∨ d.cardState x c = 2 ∨
        (d.cardState x c = 1 ∧ d.fld (.cardInfo x c) 23 7 ≤ m.val))
  | .poolFull => 2048 ≤ d.pool.length
  | .genMismatch => byteAt bs 1 / 4 % 2 = 1 ∧ byteAt bs 0x13 ≠ d.genInForce.toNat
  | .busy => (∃ x c m, extOfBridge k.bridge.val = some (x, c, m) ∧ d.cardState x c = 3) ∨
      (k.trigger = .immediate ∧
        d.fld (.lqLimit (fabricOf d.alm k.bridge.val).lane) 0 12 ≤ d.lanes[(fabricOf d.alm k.bridge.val).lane].queue.length)
  | _ => False

/-- The row that an urgent frame of a kind arrives as (Table 18.2). -/
def urgentRow (e : LinkPort) (f : UrgentFrame) : UrgentKind → Instr
  | .trigger => .urgentTrigger e f
  | .blank => .urgentBlank e f
  | .clear => .urgentClear e f
  | .issue => .urgentIssue e f
  | .trip => .urgentTrip e f
  | .wake => .urgentWake e f

/-- An urgent frame of kind `k` that this node accepts arrives on port `e`: the port runs, the check passes, another node
sent it, and it is new here (R700 to R703, R719). -/
abbrev State.takesUrgent (s : State) (e : LinkPort) (k : UrgentKind) (f : UrgentFrame) : Prop :=
  s.quiet ∧ s.dev.alive = true ∧ s.dev.linkLive e = true ∧ crc8 (UrgentFrame_head f) = f.crc ∧
    f.kind.toNat % 16 = k.code ∧ s.dev.link.idValid = true ∧ f.origin.toNat ≠ s.dev.link.node ∧
    seqNew s.dev.link.urgentSeen f.origin.toNat f.seq.toNat 256 = true

/-- A copy of a beacon that this node may adopt arrives on port `e`: the port runs, the check passes, another node sent it, and the
device does not sleep (R700, R701, R713, R719, R736). -/
abbrev State.takesBeacon (s : State) (e : LinkPort) (f : BeaconFrame) : Prop :=
  s.quiet ∧ s.dev.alive = true ∧ s.dev.linkLive e = true ∧ crc16 (beaconHead f.rho f.corr f.tk) = f.crc ∧
    s.dev.link.idValid = true ∧ f.tk.toNat ≠ s.dev.link.node ∧ s.dev.boot.phase ≠ .sleep

/-- The copy belongs to the next beacon of the timekeeper that this node follows, and every copy so far has been dealt with
(R713). -/
abbrev Dev.nextBeacon (d : Dev) (e : LinkPort) (f : BeaconFrame) : Prop :=
  d.newTimekeeper f.tk.toNat = false ∧ d.isTimekeeper = false ∧ f.tk.toNat = d.link.tkNode ∧ f.rho.toNat ≠ d.link.lastRho ∧
    d.newBeacon e f = true ∧ d.link.spare = none

/-- A normal frame of type `ty` that this node acts on arrives on port `e` (R700 to R703, R719, R736). -/
abbrev State.takesNormal (s : State) (e : LinkPort) (ty : FrameType) (f : NormalFrame) : Prop :=
  s.quiet ∧ s.dev.alive = true ∧ s.dev.linkLive e = true ∧ normalOk ty f = true ∧ s.dev.link.idValid = true ∧
    f.origin.toNat ≠ s.dev.link.node ∧ seqNew s.dev.link.normalSeen f.origin.toNat f.seq.toNat 65536 = true ∧
    s.dev.boot.phase ≠ .sleep ∧ (normalDirected f = true → f.dest.toNat = s.dev.link.node)

/-- The vault keeps the promises of its journal (R752 to R760): an operation belongs to an open transaction; every slot is
a whole page of the transaction's, and lies in it once; the journal is empty behind a CLOSED descriptor; while slots are
copied the descriptor is COMMITTED and every slot not waiting for its copy stands in its home page; a COMMITTED descriptor
otherwise only waits for recovery; and before recovery there is no transaction. -/
def State.vaultOk (s : State) : Prop :=
  (s.dev.vault.op ≠ none → s.dev.vault.phase = .open_) ∧
    (∀ e ∈ s.nv.journal, e.2.length = 256) ∧ (s.nv.journal.map (·.1)).Nodup ∧
    (s.nv.kind = .closed → s.nv.journal = []) ∧
    (∀ q bs, s.dev.vault.op = some (.put q bs) → q.val ∈ s.dev.vault.slots ∧ bs.length = 256) ∧
    (s.dev.vault.phase = .open_ ∨ s.dev.vault.phase = .committing →
      s.nv.kind ≠ .committed ∧ ∀ e ∈ s.nv.journal, e.1 ∈ s.dev.vault.slots) ∧
    (s.dev.vault.phase = .copying → s.nv.kind = .committed ∧ ∀ e ∈ s.nv.journal, e.1 ∉ s.dev.vault.toCopy →
      ∀ i < 256, homeByte s.nv.home (256 * e.1 + i) = e.2.getD i 0) ∧
    (s.dev.vault.phase = .idle → s.dev.vault.ready = true → s.nv.kind = .closed) ∧
    (s.dev.boot.journalDone = false → s.dev.vault.phase = .idle ∧ s.dev.vault.ready = false)

end Sys2Proof.Machine
end

