-- ==== Sys2Proof/Certificates/Slice0/Obligations.lean ====
section
/-! DEFINITION. The statements for the provers. Where a statement says that a command's next state is `d.settle`, `d` is
the device with the command's own effect, and `settle` works off the wires that the command has raised. -/
open Sys2Proof Sys2Proof.Machine

/-- `supplyLoss` completes in any state (R91): the device goes to OFF and loses everything but the nonvolatile cells (that a loss of
VCORE alone loses the AON registers too is the model's choice, log entry 116); a
fuse bit that is being programmed may end as 1, and no other bit changes. `rstNAssert` completes out of OFF (R99, R101,
R102): the control die enters its reset state; BOOT_STATUS shows RST_CAUSE 1 and APPLY_LOST as an apply was in progress,
the AON registers and the vault's cells stay, every driver is at 0 V, and every output with a stored configuration is at
its clear code (what STATE such an output has is the model's choice, log entry 36). -/
def Obligations.ResetsKeepTheNonvolatile : Prop :=
  (∀ s : State, ∃ (d : Dev) (v : NonVolatile), exec .supplyLoss s = .next { s with dev := d, nv := v } ∧
    d.boot.phase = .off ∧ d.almValid = false ∧ d.pool = [] ∧ d.handed = [] ∧ d.sched = [] ∧
    d.logs = Vector.replicate 16 {} ∧ d.queues = Vector.replicate 8 {} ∧
    v.home = s.nv.home ∧ v.journal = s.nv.journal ∧ v.kind = s.nv.kind ∧ v.seq = s.nv.seq ∧
    (s.dev.boot.programming = none → v = s.nv) ∧
    (∀ b, s.dev.boot.programming = some b → ∀ i : Nat, i ≠ b.toNat → v.fuses.getLsbD i = s.nv.fuses.getLsbD i)) ∧
  (∀ s : State, s.dev.boot.phase ≠ .off → ∃ (d : Dev) (v : NonVolatile), exec .rstNAssert s = .next { s with dev := d, nv := v } ∧
    d.boot.phase = .inReset ∧ d.almValid = false ∧ d.pool = [] ∧ d.handed = [] ∧ d.sched = [] ∧ d.rests = [] ∧
    d.logs = Vector.replicate 16 {} ∧ d.queues = Vector.replicate 8 {} ∧ d.apply = {} ∧
    d.bit .bootStatus 9 = true ∧ d.bit .bootStatus 8 = (s.dev.applying || s.dev.bit .bootStatus 8) ∧
    d.rd .wakeStatus = s.dev.rd .wakeStatus ∧ d.rd48 .ledgerAlarm = s.dev.rd48 .ledgerAlarm ∧
    d.rd .schedCtrl = 0 ∧ d.rd .shutForce = 0 ∧ (∀ p : Fin 136, d.ports[p].drive = .off) ∧
    (∀ n : Fin 32, s.dev.quads[quadOf8 n.val].configured = true → (s.dev.fieldEntry n).range ≠ 0 →
      d.outs[n].target = (s.dev.fieldEntry n).clear ∧
        d.outs[n].state = (if s.dev.quads[quadOf8 n.val].clrLow then .clear else .drive)) ∧
    v.home = s.nv.home ∧ v.journal = s.nv.journal ∧ v.kind = s.nv.kind ∧ v.seq = s.nv.seq)

/-- `porRelease` and `rstNRise` complete (R104, Table 3.3): the power-on reset ends in FUSING, or in reset while RST_N is
low; RST_N rising starts FUSING. BOOT_MODE is sampled and shown. `fusingEnd` completes (R117, R118, R126, R136a, R137,
Table 3.3): a wrong factory CRC leads to SAFE with FUSE_ERR; otherwise BOOT_MODE leads to a flash boot, which begins with
the read of directory copy A, to HELD or to a link boot, and to HELD with a failed boot when no source is permitted: BOOT_MODE 3, or
a link boot that LINK_BOOT_DISABLE forbids. HELD waits for journal recovery to end.
`fuseProgGo` and `fuseProgDone` complete (R119 to R122, Table 3.12): GO takes one bit of the user zone in HELD, and the end
of the programming leaves every other bit as it was; a bit that reads back sets its place in the array and in the
shadow. -/
def Obligations.FusingRuns : Prop :=
  (∀ (s : State) (mode : BitVec 2), s.dev.boot.phase = .off →
    ∃ d : Dev, exec (.porRelease mode true) s = .next { s with dev := d } ∧
      d.boot.phase = .fusing ∧ d.boot.mode = mode ∧ d.fld .bootStatus 12 2 = mode.toNat ∧ d.almValid = false ∧
      d.pool = []) ∧
  (∀ (s : State) (mode : BitVec 2), s.dev.boot.phase = .off →
    ∃ d : Dev, exec (.porRelease mode false) s = .next { s with dev := d } ∧ d.boot.phase = .inReset ∧ d.almValid = false ∧
      d.pool = []) ∧
  (∀ (s : State) (mode : BitVec 2), s.quiet → s.dev.boot.phase = .inReset →
    ∃ d : Dev, exec (.rstNRise mode) s = .next { s with dev := d } ∧
      d = { s.dev with boot := d.boot, regs := d.regs } ∧
      d.boot = { s.dev.boot with phase := .fusing, mode := mode, trainAfterFusing := s.dev.boot.perstHigh } ∧
      d.fld .bootStatus 12 2 = mode.toNat ∧ d.rd .wakeStatus = s.dev.rd .wakeStatus) ∧
  (∀ s : State, s.quiet → s.dev.boot.phase = .fusing → s.dev.boot.fused = false →
    ∃ d : Dev, exec .fusingEnd s = .next { s with dev := d.settle } ∧ d.boot.fused = true ∧ d.boot.loaded = s.nv.fuses ∧
      d.fld .bootStatus 12 2 = s.dev.boot.mode.toNat ∧
      (fusesOk s.nv.fuses = false → d.boot.phase = .safe ∧ d.bit .bootStatus 5 = true) ∧
      (fusesOk s.nv.fuses = true → s.dev.boot.mode = 0 →
        d.boot.phase = .loading ∧ d.boot.load = some { source := .directoryA, boot := true } ∧
        Output.flashRead 0x03 0 3 0 false ∈ d.outputs) ∧
      (fusesOk s.nv.fuses = true → s.dev.boot.mode = 1 → s.dev.boot.journalDone = true →
        d.boot.phase = .held ∧ d.boot.load = none) ∧
      (fusesOk s.nv.fuses = true → s.dev.boot.mode = 1 → s.dev.boot.journalDone = false →
        d.boot.phase = .fusing ∧ d.boot.heldWaits = true) ∧
      (fusesOk s.nv.fuses = true → s.dev.boot.mode = 2 → d.fuse 64 11 1 = 0 →
        d.boot.phase = .loading ∧ d.boot.load = some { source := .link, boot := true }) ∧
      (fusesOk s.nv.fuses = true → s.dev.boot.mode = 3 ∨ (s.dev.boot.mode = 2 ∧ d.fuse 64 11 1 ≠ 0) →
        d.boot.load = none ∧ d.bit .bootStatus 7 = true ∧ d.fld .bootStatus 20 4 = Reason.mode.code ∧
          (s.dev.boot.journalDone = true → d.boot.phase = .held) ∧
          (s.dev.boot.journalDone = false → d.boot.phase = .fusing ∧ d.boot.heldWaits = true))) ∧
  (∀ (s : State) (p : Path) (b : BitVec 12), s.takes p .fuseProgCtrl (mkBit true 31 ||| b.setWidth 32) →
    s.dev.boot.phase = .held → 2048 ≤ b.toNat → s.dev.boot.shadow.getLsbD 2079 = false →
    s.dev.boot.programming = none → ∃ d : Dev, exec (.fuseProgGo p b) s = .next { s with dev := d.settle } ∧
      d.boot = { s.dev.boot with programming := some b } ∧ d = { s.dev with boot := d.boot, regs := d.regs }) ∧
  (∀ (s : State) (b : BitVec 12) (back : Bool), s.quiet → s.dev.boot.programming = some b →
    ∃ d : Dev, exec (.fuseProgDone back) s = .next { s with dev := d, nv := { s.nv with
        fuses := s.nv.fuses ||| (if back then fuseBit b else 0) } } ∧
      d.boot = { s.dev.boot with
        programming := none, shadow := s.dev.boot.shadow ||| (if back then fuseBit b else 0) } ∧
      d.bit .fuseProgStatus 1 = true ∧ d = { s.dev with boot := d.boot, regs := d.regs } ∧
      (back = false → s.nv.fuses &&& fuseBit b = 0 → d.bit .fuseProgStatus 2 = true))

/-- `perstNFall`, `perstNRise`, `linkTrainingComplete`, `crsLimit` and `functionLevelReset` complete (R105 to R107, R142, R143,
R608): the endpoint's own reset disables queues and logbooks and nothing else of the control die; link training follows
PERST_N, at once when FUSING has ended and after it otherwise. -/
def Obligations.EndpointFollowsPerst : Prop :=
  (∀ s : State, s.quiet → s.dev.alive = true → ∃ d : Dev, exec .perstNFall s = .next { s with dev := d.settle } ∧
    d.boot.perstHigh = false ∧ d.boot.linkUp = false ∧ d.boot.bar0 = none ∧ d.boot.busMaster = false ∧
    d.boot.msixTable = [] ∧ d.boot.msixPending = 0 ∧ d.boot.phase = s.dev.boot.phase ∧ d.pool = s.dev.pool ∧
    d.handed = s.dev.handed ∧ d.lanes = s.dev.lanes ∧
    (∀ k : Fin 8, d.queues[k].head = 0 ∧ d.queues[k].tail = 0 ∧ d.queues[k].fetched = []) ∧
    (∀ b : Fin 16, d.logs[b].tail = 0 ∧ d.logs[b].buffer = s.dev.logs[b].buffer)) ∧
  (∀ s : State, s.quiet → s.dev.boot.perstHigh = false →
    exec .perstNRise s = .next { s with dev := { s.dev with boot := { s.dev.boot with
      perstHigh := true, training := s.dev.boot.fused
      trainAfterFusing := decide (s.dev.boot.phase = .fusing) && !s.dev.boot.fused } } }) ∧
  (∀ s : State, s.running → s.dev.boot.training = true →
    exec .linkTrainingComplete s = .next { s with dev := { s.dev with boot := { s.dev.boot with
      training := false, linkUp := true, crsLimit := false } } }) ∧
  (∀ s : State, s.running → s.dev.boot.linkUp = true →
    exec .crsLimit s = .next { s with dev := { s.dev with boot := { s.dev.boot with crsLimit := true } } }) ∧
  (∀ s : State, s.quiet → s.dev.alive = true → s.dev.boot.perstHigh = true →
    ∃ d : Dev, exec .functionLevelReset s = .next { s with dev := d.settle } ∧
      d.boot.perstHigh = true ∧ d.boot.linkUp = false ∧ d.boot.bar0 = none ∧ d.boot.memSpace = false ∧
      d.boot.phase = s.dev.boot.phase ∧ d.pool = s.dev.pool)

/-- `flashDirectoryReadDone` completes (R126 to R129, R131): an unsound directory copy A sends the load to copy B, a sound
one with legal slots to the primary slot, with the read command, address width and dummy cycles that it gives.
`imageSectionCheck` completes (R131, R807): image bytes from flash are taken in order, and a primary image that fails a
check gives way to the fallback slot. `flashTimeout` and `linkBootTimeout` complete (R132, R136): a source that returns
nothing fails (that a directory read which times out fails with FLASH_TIMEOUT is the model's choice, log entry 33).
`imageChecksComplete`, `imageActivation` and `journalRecoveryEnd` complete (R133 to R135, R141, R224): an
image that passes its checks is activated, and its generation is then in force (that this ends an apply and empties staging is the
model's choice, log entry 44); a staged one goes on to its merge. -/
def Obligations.BootLoadsAnImage : Prop :=
  (∀ (s : State) (l : Load) (bs : List Byte), s.running → s.dev.boot.load = some l → l.source = .directoryA →
    dirSound bs = false →
    exec (.flashDirectoryReadDone bs) s = .next { s with dev := { s.dev.emit (.flashRead 0x03 0x1000 3 0 false) with
      boot := { s.dev.boot with load := some { l with source := .directoryB, image := {}, passed := false } } } }) ∧
  (∀ (s : State) (l : Load) (bs : List Byte), s.running → s.dev.boot.load = some l →
    l.source = .directoryA ∨ l.source = .directoryB → dirSound bs = true → dirLegal bs = true →
    slotLegal (field bs 8 4, field bs 0xC 4) (field bs 0x10 4, field bs 0x14 4) = true →
    ∃ m : Load, exec (.flashDirectoryReadDone bs) s = .next { s with dev := {
        s.dev.emit (.flashRead (BitVec.ofNat 8 (field bs 0x18 1)) (field bs 8 4) (field bs 0x1A 1) (field bs 0x19 1) true) with
        boot := { s.dev.boot with load := some m } } } ∧
      m.source = .primary ∧ m.image = { announced := some (field bs 0xC 4) } ∧ m.boot = l.boot ∧ m.passed = false ∧
      m.dir.fallback = field bs 0x10 4 ∧ m.fallback.1 = field bs 0x14 4) ∧
  (∀ (s : State) (l : Load) (bs : List Byte), s.running → s.dev.boot.load = some l → l.source = .primary →
    l.passed = false → (∀ r, (l.image.take bs).scan ≠ .fail r) →
    exec (.imageSectionCheck false bs) s = .next { s with dev := { s.dev with boot := { s.dev.boot with
      load := some { l with image := l.image.take bs } } } }) ∧
  (∀ (s : State) (l : Load) (bs : List Byte) (r : Reason), s.running → s.dev.boot.load = some l → l.source = .primary →
    l.passed = false → (l.image.take bs).scan = .fail r → l.fallback.1 ≠ 0 → l.fallback.2 = true → s.dev.fuse 64 10 1 ≠ 1 →
    ∃ d : Dev, exec (.imageSectionCheck false bs) s = .next { s with dev := d.settle } ∧
      d.boot.load = some { l with source := .fallback, image := { announced := some l.fallback.1 }, passed := false } ∧
      d.fld .bootStatus 16 4 = s.dev.fld .bootStatus 16 4 ∧ d.fld .bootStatus 20 4 = r.code ∧
      d.boot.phase = s.dev.boot.phase) ∧
  (∀ (s : State) (l : Load), s.running → s.dev.boot.load = some l → l.source = .directoryA → l.image.bytes = [] →
    s.dev.boot.journalDone = true → ∃ d : Dev, exec .flashTimeout s = .next { s with dev := d.settle } ∧
      d.boot.phase = .held ∧ d.boot.load = none ∧ d.fld .bootStatus 20 4 = Reason.flashTimeout.code ∧
      d.bit .bootStatus 7 = true) ∧
  (∀ (s : State) (l : Load), s.running → s.dev.boot.load = some l → l.source = .link → l.image.ended = false →
    s.dev.boot.journalDone = true → ∃ d : Dev, exec .linkBootTimeout s = .next { s with dev := d.settle } ∧
      d.boot.phase = .held ∧ d.boot.load = none ∧ d.fld .bootStatus 20 4 = Reason.linkTimeout.code ∧
      d.bit .bootStatus 7 = true) ∧
  (∀ (s : State) (l : Load), s.running → s.dev.boot.load = some l → l.passed = false → l.image.ended = true →
    l.source = .service → s.dev.boot.journalDone = true →
    ∃ d : Dev, exec (.imageChecksComplete false) s = .next { s with dev := d.settle } ∧
      (l.image.finish (s.dev.imageSite false) = none →
        d = { s.dev with boot := { s.dev.boot with load := some { l with passed := true } } }) ∧
      (∀ r, l.image.finish (s.dev.imageSite false) = some r → d.boot.phase = .held ∧ d.boot.load = none ∧
        d.fld .bootStatus 20 4 = r.code ∧ d.bit .bootStatus 7 = true)) ∧
  (∀ s : State, s.running → s.dev.stage.state = .checking → s.dev.stage.image.finish (s.dev.imageSite true) = none →
    exec (.imageChecksComplete true) s = .next { s with dev := { s.dev with stage := { s.dev.stage with
      state := .merging } } }) ∧
  (∀ (s : State) (l : Load), s.running → s.dev.boot.load = some l → l.passed = true → s.dev.boot.journalDone = true →
    ∃ d : Dev, exec .imageActivation s = .next { s with dev := d.settle } ∧ d.almValid = true ∧
      d.alm = l.image.bank {} ∧ d.apply.phase = .idle ∧ d.stage.state = .empty ∧ d.boot.phase = .held ∧
      d.boot.load = none) ∧
  (∀ s : State, s.quiet → s.dev.alive = true → s.dev.boot.journalDone = false → s.dev.vault.stopping = false →
    ∃ (d : Dev) (v : NonVolatile), exec .journalRecoveryEnd s = .next { s with dev := d.settle, nv := v } ∧ d.boot.journalDone = true ∧
      d.vault.ready = true ∧ d.boot.phase = (if s.dev.boot.heldWaits then .held else s.dev.boot.phase) ∧
      v.fuses = s.nv.fuses)

/-- The BOOT_CTRL commands and the service load (R114, R115, R138, R139, R148, R572, R808). `bootCtrlLoad` and
`bootCtrlReloadFlash` complete in HELD: LOAD opens a service load, RELOAD_FLASH reads the directory, and the failure fields
are cleared. `almLoadDataWrite` completes within a service load, which it feeds. `bootCtrlAbortLoad` and `serviceLoadStall`
complete: the load ends in HELD with a failed boot. `bootCtrlRelease` completes in HELD: it starts RUN and its schedule
table, with every output at its clear code. `bootCtrlHold` completes in RUN: it cancels every ticket that has not passed its
commit edge and stops the table (that it gives a SLEEP entry up is the model's choice, log entry 115). `holdComplete` completes: once the last CANCELLED record has left and every driver is at
0 V, the device is in HELD. -/
def Obligations.BootControl : Prop :=
  (∀ (s : State) (p : Path), s.takes p .bootCtrl 4 → s.dev.boot.phase = .held → s.dev.rd .almLoadLen ≠ 0 →
    ∃ d : Dev, exec (.bootCtrlLoad p) s = .next { s with dev := d.settle } ∧ d.boot.phase = .loading ∧
      d.boot.load = some { source := .service, boot := false
                           image := { announced := some (s.dev.rd .almLoadLen).toNat } } ∧
      d.fld .bootStatus 16 8 = 0 ∧ d.bit .bootStatus 7 = false) ∧
  (∀ (s : State) (p : Path), s.takes p .bootCtrl 8 → s.dev.boot.phase = .held →
    ∃ d : Dev, exec (.bootCtrlReloadFlash p) s = .next { s with dev := d.settle } ∧ d.boot.phase = .loading ∧
      d.boot.load = some { source := .directoryA, boot := false } ∧ d.fld .bootStatus 16 8 = 0 ∧
      d.bit .bootStatus 7 = false ∧ Output.flashRead 0x03 0 3 0 false ∈ d.outputs) ∧
  (∀ (s : State) (p : Path) (l : Load) (w : Word), s.takes p .almLoadData w → s.dev.boot.load = some l →
    l.source = .service → l.image.ended = false → (∀ r, (l.image.take (leBytes 4 w.toNat)).scan ≠ .fail r) →
    ∃ d : Dev, exec (.almLoadDataWrite p w) s = .next { s with dev := d.settle } ∧
      d.boot.load = some { l with image := l.image.take (leBytes 4 w.toNat) } ∧
      d.boot.phase = s.dev.boot.phase ∧ d = { s.dev with boot := d.boot, regs := d.regs }) ∧
  (∀ (s : State) (p : Path) (l : Load), s.takes p .bootCtrl 16 → s.dev.boot.load = some l → l.source = .service →
    s.dev.boot.journalDone = true → ∃ d : Dev, exec (.bootCtrlAbortLoad p) s = .next { s with dev := d.settle } ∧
      d.boot.phase = .held ∧ d.boot.load = none ∧ d.fld .bootStatus 20 4 = Reason.stalled.code ∧
      d.bit .bootStatus 7 = true) ∧
  (∀ (s : State) (l : Load), s.running → s.dev.boot.load = some l → l.source = .service → l.image.ended = false →
    s.dev.boot.journalDone = true → ∃ d : Dev, exec .serviceLoadStall s = .next { s with dev := d.settle } ∧
      d.boot.phase = .held ∧ d.boot.load = none ∧ d.fld .bootStatus 20 4 = Reason.stalled.code ∧
      d.bit .bootStatus 7 = true) ∧
  (∀ (s : State) (p : Path), s.takes p .bootCtrl 1 → s.dev.boot.phase = .held → s.dev.almValid = true →
    ∃ d : Dev, exec (.bootCtrlRelease p) s = .next { s with dev := d.settle } ∧
      d.boot = { s.dev.boot with phase := .run } ∧ d.schedRun = true ∧ d.pool = s.dev.pool ∧ d.lanes = s.dev.lanes ∧
      d.ports = s.dev.ports ∧ atClearCodes s d) ∧
  (∀ (s : State) (p : Path), s.takes p .bootCtrl 2 → s.poolOk → s.dev.boot.phase = .run → s.dev.boot.holding = false →
    ∃ d : Dev, exec (.bootCtrlHold p) s = .next { s with dev := d.settle } ∧ d.boot.phase = .run ∧
      d.boot.holding = true ∧ d.boot.sleeping = false ∧ d.schedRun = false ∧
      (∀ e ∈ d.pool, e.2.cancelled = none → e.2.stage = .committed)) ∧
  (∀ s : State, s.running → s.dev.boot.phase = .run → s.dev.boot.holding = true →
    s.dev.pool.all (fun e => e.2.cancelled.isNone) = true → (∀ p : Fin 136, s.dev.ports[p].drive = .off) →
    ∃ d : Dev, exec .holdComplete s = .next { s with dev := d } ∧
      d.boot = { s.dev.boot with phase := .held, holding := false } ∧ atClearCodes s d ∧
      d = { s.dev with boot := d.boot, outs := d.outs })

/-- PGOOD_RISE, PGOOD_FALL, BARRIER_TRAINED and DOWNSTREAM_SILENCE (R52, R54, R96 to R98, R102, R103, R145): power and
the barrier channel of one quadrant. A falling PGOOD takes the quadrant's configuration, its drives and its outputs, and
no ticket of it stays queued; training raises BARRIER_UP; the other quadrants keep their state (that a channel trained while an
almanac is valid gets its configuration in SAFE too, and that one trained in LOADING or FUSING waits for it, is the model's choice,
log entry 37). UPSTREAM_FRAME_FAIL and
DOWNSTREAM_FRAME_FAIL (R776 to R778, R795): the failure of a trained quadrant's frame is counted, in SLEEP too; a burst whose
sample it carried is voided, also when its drive has ended and its last sample is still to come, and a collimation run whose reading it carried is given up. -/
def Obligations.QuadrantsFollowSupply : Prop :=
  (∀ (s : State) (q : Fin 4), s.quiet → s.dev.boot.phase ≠ .sleep → s.dev.boot.sleeping = false →
    exec (.pgoodRise q) s = .next { s with dev := s.dev.onQuad q (fun k => { k with fieldPg := true }) }) ∧
  (∀ (s : State) (q : Fin 4), s.quiet → s.poolOk → s.dev.quads[q].fieldPg = true →
    ∃ d : Dev, exec (.pgoodFall q) s = .next { s with dev := d.settle } ∧
      d.quads[q] = { s.dev.quads[q] with fieldPg := false, trained := false, barrierUp := false, configured := false, cfg := [] } ∧
      (∀ r, r ≠ q → d.quads[r] = s.dev.quads[r]) ∧
      (∀ n ∈ outsOf q, d.outs[n].state = .off ∧ d.outs[n].queue = []) ∧
      (∀ p ∈ portsOf q, d.ports[p].drive = .off) ∧
      (∀ n ∈ lanesOf q, d.lanes[n].closed = none) ∧
      (∀ e ∈ d.pool, e.2.onLaneQueue = true → e.2.quad ≠ q)) ∧
  (∀ (s : State) (q : Fin 4), s.running → s.dev.mayTrain q = true →
    ∃ d : Dev, exec (.barrierTrained q) s = .next { s with dev := d.settle } ∧ d.quads[q].barrierUp = true ∧
      d.quads[q].trained = true ∧ d.quads[q].hotOff = s.dev.quads[q].hotOff ∧ (∀ r, r ≠ q → d.quads[r] = s.dev.quads[r]) ∧
      (s.dev.almValid = true → s.dev.boot.phase ≠ .loading → s.dev.boot.phase ≠ .fusing →
        d.quads[q].configured = true ∧ d.quads[q].cfg = s.dev.alm.output) ∧
      (∀ x ∈ xportsOf q, d.xports[x].probing = [0, 1, 2, 3])) ∧
  (∀ (s : State) (q : Fin 4), s.quiet →
    ∃ d : Dev, exec (.downstreamSilence q) s = .next { s with dev := d.settle } ∧ d.quads = s.dev.quads ∧
      (∀ p ∈ portsOf q, d.ports[p].drive = .off) ∧ (∀ n ∈ lanesOf q, d.lanes[n].closed = none) ∧ d.alm = s.dev.alm ∧
      d.boot = s.dev.boot) ∧
  (∀ (s : State) (q : Fin 4) (n : Fin 32) (t : Nat) (k : Ticket), s.quiet → s.dev.alive = true →
    s.dev.quads[q].trained = true → n ∈ lanesOf q → s.dev.working n = some (t, k) → s.dev.lanes[n].inBurst = true →
    s.dev.lanes[n].work.ended = true → s.dev.lanes[n].work.taken = false → s.dev.lanes[n].work.voids < k.desc.retry →
    ∃ d : Dev, exec (.upstreamFrameFail q (1#8 <<< (n.val % 8)) false) s = .next { s with dev := d } ∧
      d.lanes[n].phase = .turret ∧ d.lanes[n].work.voids = s.dev.lanes[n].work.voids + 1 ∧
      d.lanes[n].work.ended = false ∧ (∀ m, m ≠ n → d.lanes[m] = s.dev.lanes[m]) ∧
      d.fld (.barrierErr q) 16 16 = min (s.dev.fld (.barrierErr q) 16 16 + 1) 0xFFFF ∧
      d = { s.dev with lanes := d.lanes, regs := d.regs }) ∧
  (∀ (s : State) (q : Fin 4) (n : Fin 32) (t : Nat) (k : Ticket), s.quiet → s.dev.alive = true →
    s.dev.quads[q].trained = true → n ∈ lanesOf q → s.dev.working n = some (t, k) → s.dev.bursting n = true →
    s.dev.lanes[n].work.voids < k.desc.retry →
    ∃ d : Dev, exec (.upstreamFrameFail q (1#8 <<< (n.val % 8)) false) s = .next { s with dev := d } ∧
      d.lanes[n].phase = .turret ∧ d.lanes[n].work.voids = s.dev.lanes[n].work.voids + 1 ∧
      (∀ m, m ≠ n → d.lanes[m] = s.dev.lanes[m]) ∧
      d.fld (.barrierErr q) 16 16 = min (s.dev.fld (.barrierErr q) 16 16 + 1) 0xFFFF ∧
      d = { s.dev with lanes := d.lanes, ports := d.ports, rests := d.rests, regs := d.regs }) ∧
  (∀ (s : State) (q : Fin 4), s.quiet → s.dev.alive = true → s.dev.quads[q].trained = true →
    ∃ d : Dev, exec (.upstreamFrameFail q 0 true) s = .next { s with dev := d.settle } ∧ d.colls[q].run = none ∧
      (∀ j, j ≠ q → d.colls[j] = s.dev.colls[j]) ∧ d.lanes = s.dev.lanes ∧
      d.fld (.barrierErr q) 16 16 = min (s.dev.fld (.barrierErr q) 16 16 + 1) 0xFFFF) ∧
  (∀ (s : State) (q : Fin 4), s.quiet → s.dev.alive = true → s.dev.quads[q].trained = true →
    ∃ d : Dev, exec (.downstreamFrameFail q) s = .next { s with dev := d } ∧
      d.fld (.barrierErr q) 0 16 = min (s.dev.fld (.barrierErr q) 0 16 + 1) 0xFFFF ∧
      d.fld (.barrierErr q) 16 16 = s.dev.fld (.barrierErr q) 16 16 ∧ d = { s.dev with regs := d.regs })

/-- CCLK_SEL_WRITE, CORE_PLL_LOCK, CORE_PLL_UNLOCK, MEAS_PLL_UNLOCK, MEAS_PLL_LOCK and REFCLK_LOSS (R159 to R170, R534, Table
4.3): a new selection or a lost lock takes CCLK to REFCLK and latches every count, and an open interval notes it; the lock takes CCLK to the selection;
a lost measurement PLL voids every burst in progress (in every phase of it, which is the model's choice, log entry 95), and each new
lock of it gives the modulators a phase of their own (R806); without REFCLK the device is in SAFE on its own oscillator. -/
def Obligations.ClocksSwitch : Prop :=
  (∀ (s : State) (p : Path) (w : Word), s.takes p .clkCtrl w → Machine.fld w 0 2 ≠ 3 → s.dev.clk.switch = none →
    Machine.fld w 0 2 ≠ s.dev.fld .clkCtrl 0 2 →
    ∃ d : Dev, exec (.cclkSelWrite p w) s = .next { s with dev := d.settle } ∧ d.rd .clkCtrl = w ∧
      d.clk = { s.dev.clk with
        switch := some { unlock := false, old := s.dev.clk.now }, now := .refclk, cuts := d.clk.cuts } ∧
      (∀ n : Fin 64, d.chronos[n] = { s.dev.chronos[n].mixed s.dev.clk.cycle with countOut := some s.dev.chronos[n].count }) ∧
      d = { s.dev with clk := d.clk, regs := d.regs, chronos := d.chronos }) ∧
  (∀ s : State, s.running → s.dev.clk.now ≠ .lpo → s.dev.clk.switch = none → s.dev.clk.corePll = false →
    ∃ d : Dev, exec .corePllLock s = .next { s with dev := d } ∧
      d.clk = { s.dev.clk with now := cclkOf (s.dev.fld .clkCtrl 0 2), corePll := true, cuts := d.clk.cuts } ∧
      d = { s.dev with clk := d.clk }) ∧
  (∀ (s : State) (w : ClkSwitch), s.running → s.dev.clk.now ≠ .lpo → s.dev.clk.switch = some w →
    ∃ d : Dev, exec .corePllLock s = .next { s with dev := d.settle } ∧
      d.clk = { s.dev.clk with
        now := cclkOf (s.dev.fld .clkCtrl 0 2), switch := none, corePll := true, cuts := d.clk.cuts } ∧
      (∀ n : Fin 64, d.chronos[n] = { s.dev.chronos[n].mixed s.dev.clk.cycle with countOut := none }) ∧
      d = { s.dev with clk := d.clk, chronos := d.chronos, handed := d.handed }) ∧
  (∀ s : State, s.running → s.dev.clk.switch = none → s.dev.clk.corePll = true → s.dev.clk.now ≠ .lpo →
    ∃ d : Dev, exec .corePllUnlock s = .next { s with dev := d.settle } ∧ d.bit .clkStatus 9 = true ∧
      d.clk = { s.dev.clk with
        switch := some { unlock := true, old := s.dev.clk.now }, now := .refclk, cuts := d.clk.cuts } ∧
      (∀ n : Fin 64, d.chronos[n] = { s.dev.chronos[n].mixed s.dev.clk.cycle with countOut := some s.dev.chronos[n].count }) ∧
      d = { s.dev with clk := d.clk, regs := d.regs, chronos := d.chronos }) ∧
  (∀ s : State, s.running → s.dev.clk.measPll = true →
    ∃ d : Dev, exec .measPllUnlock s = .next { s with dev := d.settle } ∧ d.clk = { s.dev.clk with measPll := false } ∧
      d.bit .clkStatus 10 = true ∧ ∀ n, d.bursting n = false) ∧
  (∀ s : State, s.running → s.dev.clk.now ≠ .lpo → s.dev.clk.measPll = false →
    exec .measPllLock s = .next { s with dev := { s.dev with clk := { s.dev.clk with
      measPll := true, modLock := s.dev.clk.modLock + 1 } } }) ∧
  (∀ s : State, s.running → s.dev.clk.measPll = true → exec .measPllLock s = .next s) ∧
  (∀ s : State, s.quiet → s.dev.alive = true →
    ∃ d : Dev, exec .refclkLoss s = .next { s with dev := d.settle } ∧ d.boot.phase = .safe ∧ d.clk.now = .lpo ∧
      d.clk.switch = none ∧ d.clk.measPll = false ∧ d.bit .clkStatus 11 = true ∧ d.schedRun = false)

/-- PD_CTRL_REDUCE_OFF, PD_CTRL_LINK_OFF and PD_CTRL_Q_OFF (R172 to R174): each bit takes the value written; the
reducers' power takes the cache's lines with it, and a quadrant's power its barrier channel and its outputs (that a domain in use
refuses only a write which turns it off, and not one which keeps it off, is the model's choice, log entry 91).
THERMAL_SAMPLE and QRESUME (R189 to R195, Tables 4.6 and 4.8): a die that is sampled shows its temperature, and its
warning follows the threshold with the hysteresis of R190; shutdown stops the quadrant, or takes the device to SAFE;
QRESUME ends the shutdown of the quadrants it names and of no other. -/
def Obligations.PowerAndHeatAct : Prop :=
  (∀ (s : State) (p : Path) (off : Bool), s.takes p .pdCtrl (setFld (s.dev.rd .pdCtrl) 0 1 off.toNat) →
    (off = true → s.dev.bit .pdCtrl 0 = false → s.dev.reducerBound = false) →
    ∃ d : Dev, exec (.pdCtrlReduceOff p off) s = .next { s with dev := d.settle } ∧
      d.rd .pdCtrl = setFld (s.dev.rd .pdCtrl) 0 1 off.toNat ∧ d.quads = s.dev.quads ∧
      (off = true → s.dev.bit .pdCtrl 0 = false → d.red.cache = [])) ∧
  (∀ (s : State) (p : Path) (off : Bool), s.takes p .pdCtrl (setFld (s.dev.rd .pdCtrl) 1 1 off.toNat) →
    (off = true → s.dev.bit .pdCtrl 1 = false → s.dev.linkBound = false) →
    ∃ d : Dev, exec (.pdCtrlLinkOff p off) s = .next { s with dev := d.settle } ∧
      d.rd .pdCtrl = setFld (s.dev.rd .pdCtrl) 1 1 off.toNat ∧ d.quads = s.dev.quads ∧ d.red = s.dev.red) ∧
  (∀ (s : State) (p : Path) (q : Fin 4) (off : Bool), s.takes p .pdCtrl (setFld (s.dev.rd .pdCtrl) (2 + q.val) 1 off.toNat) →
    ∃ d : Dev, exec (.pdCtrlQOff p q off) s = .next { s with dev := d.settle } ∧
      d.rd .pdCtrl = setFld (s.dev.rd .pdCtrl) (2 + q.val) 1 off.toNat ∧
      (∀ r, r ≠ q → d.quads[r] = s.dev.quads[r]) ∧
      (off = true → s.dev.bit .pdCtrl (2 + q.val) = false →
        d.quads[q].barrierUp = false ∧ d.quads[q].configured = false ∧ ∀ n ∈ outsOf q, d.outs[n].state = .off) ∧
      (off = false → d.quads = s.dev.quads)) ∧
  (∀ (s : State) (die : Fin 5) (t : BitVec 24) (hot : Bool), s.quiet → s.dev.alive = true → t ≠ noTemp →
    (die.val ≠ 0 → s.dev.quads[toFin 3 (die.val - 1)].barrierUp = true) → hot = false ∨ t.toInt < 127 * 65536 →
    ∃ d : Dev, exec (.thermalSample die t hot) s = .next { s with dev := d.settle } ∧
      d.rd (.thermTemp die) = tempWord t ∧
      (d.bit .thermStatus die.val = if (s.dev.rd (.thermWarn die)).toInt ≤ t.toInt then true
        else if t.toInt ≤ (s.dev.rd (.thermWarn die)).toInt - 5 * 65536 then false
        else s.dev.bit .thermStatus die.val) ∧ d.quads = s.dev.quads ∧ d.outs = s.dev.outs ∧ d.boot.phase = s.dev.boot.phase) ∧
  (∀ (s : State) (die : Fin 5) (t : BitVec 24), s.quiet → s.dev.alive = true → die.val ≠ 0 → 127 * 65536 ≤ t.toInt →
    s.dev.quads[toFin 3 (die.val - 1)].barrierUp = true →
    ∃ d : Dev, exec (.thermalSample die t true) s = .next { s with dev := d.settle } ∧ d.rd (.thermTemp die) = tempWord t ∧
      d.quads[toFin 3 (die.val - 1)].hotOff = true ∧
      (s.dev.quads[toFin 3 (die.val - 1)].hotOff = false → ∀ n ∈ outsOf (toFin 3 (die.val - 1)), d.outs[n].state = .off)) ∧
  (∀ (s : State) (t : BitVec 24), s.quiet → s.dev.alive = true → 127 * 65536 ≤ t.toInt →
    ∃ d : Dev, exec (.thermalSample 0 t true) s = .next { s with dev := d.settle } ∧ d.rd (.thermTemp 0) = tempWord t ∧
      d.bit .thermStatus 12 = true ∧ (s.dev.bit .thermStatus 12 = false → d.boot.phase = .safe)) ∧
  (∀ (s : State) (p : Path) (m : BitVec 4), s.takes p .thermCtrl (m.setWidth 32) →
    (∀ q : Fin 4, m.getLsbD q.val = true → s.dev.mayResume q = true) →
    ∃ d : Dev, exec (.qresume p m) s = .next { s with dev := d.settle } ∧
      ∀ q : Fin 4, d.quads[q] = if m.getLsbD q.val then { s.dev.quads[q] with hotOff := false, cfg := s.dev.alm.output }
        else s.dev.quads[q])

/-- SLEEP_ENTER, FREEZE_EDGE, WAKE_EVENT, LEDGER_ALARM, LEDGER_OVERFLOW, RESUME_EDGE and LPO_MEASUREMENT (R176 to R188,
Tables 4.4 and 4.5): the entry cancels what waits, the freeze edge starts the ledger at 0, an enabled event sets its bit
of WAKE_STATUS and ends the sleep or the entry, and the resume edge is in RUN with the ledger stopped (that it counts as a CCLK edge
of the cycle count is the model's choice, log entry 128). -/
def Obligations.SleepAndWake : Prop :=
  (∀ (s : State) (p : Path) (w : Word), s.takes p .sleepCtrl (w ||| 1) → s.poolOk → Machine.bit w 8 = true →
    s.dev.boot.phase = .run → s.dev.boot.holding = false → s.dev.vault.phase = .idle → s.dev.applying = false →
    s.dev.clk.switch = none → ∃ d : Dev, exec (.sleepEnter p w) s = .next { s with dev := d.settle } ∧
      d.boot = { s.dev.boot with sleeping := true } ∧ d.rd .sleepCtrl = w &&& ~~~1 ∧
      (∀ e ∈ d.pool, e.2.cancelled = none → e.2.stage ≠ .queued ∧ e.2.stage ≠ .runAhead)) ∧
  (∀ s : State, s.running → s.dev.mayFreeze = true →
    ∃ d : Dev, exec .freezeEdge s = .next { s with dev := d.settle } ∧ d.boot.phase = .sleep ∧ d.boot.sleeping = false ∧
      d.clk.ledgerRun = true ∧ d.clk.ledger = 0 ∧ d.clk.waking = false ∧ d.schedRun = false ∧ d.vault.ready = false ∧
      d.red.cache = []) ∧
  (∀ (s : State) (ev : Fin 6), s.quiet → s.dev.boot.phase = .sleep → s.dev.wakeEnabled ev = true →
    ∃ d : Dev, exec (.wakeEvent ev) s = .next { s with dev := d } ∧ d.bit .wakeStatus ev.val = true ∧
      d.clk = { s.dev.clk with waking := true } ∧ d = { s.dev with clk := d.clk, regs := d.regs }) ∧
  (∀ (s : State) (ev : Fin 6), s.running → s.dev.boot.sleeping = true → s.dev.wakeEnabled ev = true →
    ∃ d : Dev, exec (.wakeEvent ev) s = .next { s with dev := d.settle } ∧ d.bit .wakeStatus ev.val = true ∧
      d.boot = { s.dev.boot with sleeping := false } ∧ d.clk = s.dev.clk) ∧
  (∀ s : State, s.quiet → s.dev.boot.phase = .sleep → s.dev.alarmDue = true → s.dev.bit .sleepCtrl 9 = true →
    ∃ d : Dev, exec .ledgerAlarm s = .next { s with dev := d } ∧ d.bit .wakeStatus 1 = true ∧
      d.clk = { s.dev.clk with waking := true } ∧ d = { s.dev with clk := d.clk, regs := d.regs }) ∧
  (∀ s : State, s.quiet → s.dev.alive = true → s.dev.clk.ledgerRun = true → s.dev.clk.ledger = 2 ^ 48 - 1 →
    ∃ d : Dev, exec .ledgerOverflow s = .next { s with dev := d } ∧ d.bit .wakeStatus 8 = true ∧
      d.clk = { s.dev.clk with ledgerRun := false } ∧ d = { s.dev with clk := d.clk, regs := d.regs }) ∧
  (∀ s : State, s.quiet → s.dev.boot.phase = .sleep → s.dev.clk.waking = true →
    ∃ d : Dev, exec .resumeEdge s = .next { s with dev := d.settle } ∧ d.boot.phase = .run ∧ d.clk.ledgerRun = false ∧
      d.clk.waking = false ∧ d.clk.now = cclkOf (s.dev.fld .clkCtrl 0 2) ∧ d.clk.cycle = s.dev.clk.cycle + 1 ∧
      d.vault.ready = true ∧ d.clk.ledger = s.dev.clk.ledger) ∧
  (∀ (s : State) (w : Word), s.quiet → s.dev.boot.phase = .run →
    exec (.lpoMeasurement w) s = .next { s with dev := s.dev.wr .lpoPeriod w })

/-- R164: a CLK_CTRL write while a switch runs is rejected with BUSY (0x3 is reserved, and RANGE would outrank BUSY); a
write of the value in force is accepted, and changes nothing: it starts no switch and writes no record (the service port
counts its word). -/
def Obligations.SwitchesAreNotDisturbed : Prop :=
  (∀ (s : State) (p : Path) (w : Word), s.takes p .clkCtrl w → Machine.fld w 0 2 ≠ 3 → s.dev.clk.switch ≠ none →
    refusedWith s (.cclkSelWrite p w) .busy) ∧
  (∀ (s : State) (p : Path) (w : Word), s.takes p .clkCtrl w → Machine.fld w 0 2 ≠ 3 → s.dev.clk.switch = none →
    Machine.fld w 0 2 = s.dev.fld .clkCtrl 0 2 →
    exec (.cclkSelWrite p w) s = .next { s with dev := s.dev.counted p })

/-- STAGE_BEGIN, STAGE_DISCARD, STAGE_DATA_WRITE and STAGE_READY (R220 to R225, Table 5.15): BEGIN opens a staging of
STAGE_LEN bytes, each data word is taken in order and moves the state as the checks that it completes decide, the merge
takes the image over the bank in force, and DISCARD leaves nothing staged (that it does so during an apply too, which goes on, is the
model's choice, log entry 40). Nothing else of the device changes. -/
def Obligations.StagingFollowsItsCommands : Prop :=
  (∀ (s : State) (p : Path), s.takes p .stageCtrl 1 → s.dev.rd .stageLen ≠ 0 → s.dev.mayStage = true →
    s.dev.applying = false → ∃ d : Dev, exec (.stageBegin p) s = .next { s with dev := d.settle } ∧
      d.stage = { state := .loading, image := { announced := some (s.dev.rd .stageLen).toNat } } ∧
      d = { s.dev with stage := d.stage, regs := d.regs }) ∧
  (∀ (s : State) (p : Path), s.takes p .stageCtrl 2 → s.dev.mayStage = true →
    ∃ d : Dev, exec (.stageDiscard p) s = .next { s with dev := d.settle } ∧ d.stage = {} ∧
      d = { s.dev with stage := d.stage, regs := d.regs }) ∧
  (∀ (s : State) (p : Path) (w : Word), s.takes p .stageData w → s.dev.mayStage = true → s.dev.stage.state = .loading →
    ∃ d : Dev, exec (.stageDataWrite p w) s = .next { s with dev := d.settle } ∧
      d.stage.image = s.dev.stage.image.take (leBytes 4 w.toNat) ∧
      (d.stage.image.scan = .more → d.stage.state = .loading) ∧
      (∀ r, d.stage.image.scan = .fail r → d.stage.state = .failed ∧ d.stage.reason = r) ∧
      (∀ l, d.stage.image.scan = .whole l → d.stage.state = .checking) ∧
      d = { s.dev with stage := d.stage, regs := d.regs }) ∧
  (∀ s : State, s.running → s.dev.stage.state = .merging →
    exec .stageReady s = .next { s with dev := { s.dev with stage := { s.dev.stage with
      state := .ready, merged := s.dev.stage.image.bank (if s.dev.almValid then s.dev.alm else {}) } } })

/-- APPLY_ARM, APPLY_ABORT and APPLY_TRIGGER (R226 to R236, Table 5.16): an arm waits for its trigger, and an IMMEDIATE
one is its trigger edge; there an apply that passes the tests of R232 takes effect, which ends it at once when no lane
converts and no plate is on its way, and opens the mixed window otherwise, and one that fails ends with its code; ABORT withdraws an
armed apply before its trigger edge and comes too late for another. With no generation in force the staged image is merged into an
empty bank, and the applied generation shows in BOOT_STATUS: both are the model's choices (log entries 40 and 119). CONFIG_APPLIED_LANE and APPLY_CLOSE (R225, R240 to
R243): a switched lane's record follows its last old plate, and the close edge hands over the device's record, ends the
mixed window and sets DONE. -/
def Obligations.AppliesRun : Prop :=
  (∀ (s : State) (p : Path) (w : Word) (k : Fin 8), s.takes p .applyCtrl (w ||| 1) → Machine.bit w 1 = false →
    triggerField (w ||| 1) = some (.mark k) → s.dev.stage.state = .ready → s.dev.applying = false →
    ∃ d : Dev, exec (.applyArm p w) s = .next { s with dev := d.settle } ∧
      d = { s.dev.armed (.mark k) w with regs := d.regs }) ∧
  (∀ (s : State) (p : Path) (w : Word), s.takes p .applyCtrl (w ||| 1) → Machine.bit w 1 = false →
    triggerField (w ||| 1) = some .immediate → s.dev.stage.state = .ready → s.dev.applying = false →
    ∃ d : Dev, exec (.applyArm p w) s = .next { s with dev := d.settle } ∧
      ((s.dev.armed .immediate w).applyCode = .ok → Machine.appliedTo (s.dev.armed .immediate w) d) ∧
      ((s.dev.armed .immediate w).applyCode ≠ .ok → d.alm = s.dev.alm ∧ d.apply.phase = .idle ∧ d.lanes = s.dev.lanes ∧
        d.fld .applyStatus 8 8 = (s.dev.armed .immediate w).applyCode.num ∧ d.bit .applyStatus 25 = true)) ∧
  (∀ (s : State) (p : Path), s.takes p .applyCtrl 2 → s.dev.apply.phase = .armed → s.dev.applyDue = false →
    ∃ d : Dev, exec (.applyAbort p) s = .next { s with dev := d.settle } ∧ d.apply = { s.dev.apply with phase := .idle } ∧
      d.fld .applyStatus 16 8 = 0 ∧ d = { s.dev with apply := d.apply, regs := d.regs }) ∧
  (∀ (s : State) (p : Path), s.takes p .applyCtrl 2 → s.dev.apply.phase = .mixed ∨ s.dev.applyDue = true →
    ∃ d : Dev, exec (.applyAbort p) s = .next { s with dev := d.settle } ∧
      d.fld .applyStatus 16 8 = Code.alreadyDone.num ∧ d = { s.dev with regs := d.regs }) ∧
  (∀ s : State, s.running → s.dev.applyDue = true → s.dev.applyCode = .ok →
    ∃ d : Dev, exec .applyTrigger s = .next { s with dev := d.settle } ∧ Machine.appliedTo s.dev d) ∧
  (∀ s : State, s.running → s.dev.applyDue = true → s.dev.applyCode ≠ .ok →
    ∃ d : Dev, exec .applyTrigger s = .next { s with dev := d.settle } ∧ d.alm = s.dev.alm ∧
      d.apply = { s.dev.apply with phase := .idle } ∧ d.fld .applyStatus 8 8 = s.dev.applyCode.num ∧
      d.bit .applyStatus 25 = true ∧ d = { s.dev with apply := d.apply, regs := d.regs }) ∧
  (∀ (s : State) (n m : Fin 32) (r : Rec), s.running → s.dev.apply.phase = .mixed →
    s.dev.apply.owed.find? (fun o => decide (o.1 = n)) = some (m, r) →
    s.dev.laneRecordFree n r = true →
    exec (.configAppliedLane n) s = .next { s with dev := { s.dev with
      handed := insertRec { r with cycle := s.dev.clk.cycle } s.dev.handed
      apply := { s.dev.apply with owed := s.dev.apply.owed.filter (fun o => decide (o.1 ≠ n)) } } }) ∧
  (∀ s : State, s.running → s.dev.apply.phase = .mixed → s.dev.apply.unswitched = [] → s.dev.apply.owed = [] →
    s.dev.oldPlate (fun _ => true) = false →
    ∃ d : Dev, exec .applyClose s = .next { s with dev := d } ∧ d.apply = { s.dev.apply with phase := .idle } ∧
      d.stage = {} ∧ d.oldAlm = {} ∧ d.bit .applyStatus 25 = true ∧
      (∃ r ∈ d.handed, r.kind = 0x0B ∧ r.cls = 0x0A ∧ r.log = s.dev.apply.log ∧
        r.w5 = at_ s.dev.apply.oldGen.toNat 24 ||| at_ s.dev.apply.newGen.toNat 16 |||
          at_ s.dev.apply.trigger.code 12 ||| at_ (min (s.dev.apply.moved.map (·.2)).sum 4095) 0) ∧
      d = { s.dev with apply := d.apply, stage := d.stage, oldAlm := d.oldAlm, handed := d.handed, regs := d.regs })

/-- BURST_START, GRID_START, BURST_REVERSE, PAIR_END and REST_EXPIRY (R255, R256, R260, R261, R271, R350, Table 6.2):
the drive of one pair from +V through −V to 0 V, with the current, the resistance and the rest that its end brings; a drive that
its quadrant has cut meanwhile stays at 0 V. Where on the grid of modulator ticks the samples begin (R806) is the model's choice: the
last tick of the lane at or before the edge (log entry 123). -/
def Obligations.PairsDriveTheirPort : Prop :=
  (∀ (s : State) (n : Fin 32) (ilim : Bool) (t : Nat) (k : Ticket), s.running → s.dev.working n = some (t, k) →
    s.dev.mayBurst n k = true → s.dev.portBlank (portOfBridge k.desc.bridge.val) = false →
    ∃ d : Dev, exec (.burstStart n ilim) s = .next { s with dev := d } ∧
      d.ports = s.dev.ports.set (portOfBridge k.desc.bridge.val) { s.dev.ports[portOfBridge k.desc.bridge.val] with
        drive := .pos, bridge := some k.desc.bridge } ∧
      d.lanes[n].phase = .settle ∧ d.lanes[n].work.neg = false ∧ d.lanes[n].work.sumPos = 0 ∧
      d.lanes[n].work.sumNeg = 0 ∧ (∀ m, m ≠ n → d.lanes[m] = s.dev.lanes[m]) ∧
      (ilim = true → d.bit (statusReg (portOfBridge k.desc.bridge.val)) 8 = true) ∧
      (ilim = false → d.regs = s.dev.regs) ∧ d = { s.dev with ports := d.ports, lanes := d.lanes, regs := d.regs }) ∧
  (∀ (s : State) (n : Fin 32), s.running → s.dev.lanes[n].phase = .settle → s.dev.lanes[n].work.tail = false →
    s.dev.lanes[n].work.ended = false → s.dev.lanes[n].work.taken = false →
    exec (.gridStart n) s = .next { s with dev := s.dev.setLane n { s.dev.lanes[n] with
      phase := .discard, work := { s.dev.lanes[n].work with samples := 0, gridAt := s.dev.lastTick n, passed := 0 } } }) ∧
  (∀ (s : State) (n : Fin 32) (ilim : Bool) (t : Nat) (k : Ticket), s.running → s.dev.working n = some (t, k) →
    s.dev.integrated n k = true → s.dev.lanes[n].work.neg = false →
    ∃ d : Dev, exec (.burstReverse ⟨n, ilim⟩) s = .next { s with dev := d } ∧
      d.ports = s.dev.ports.set (portOfBridge k.desc.bridge.val) { s.dev.ports[portOfBridge k.desc.bridge.val] with
        drive := if s.dev.ports[portOfBridge k.desc.bridge.val].drive = .pos then .neg else .off } ∧
      d.lanes[n].phase = .settle ∧ d.lanes[n].work.neg = true ∧ d.lanes[n].work.sumPos = s.dev.lanes[n].work.sumPos ∧
      (∀ m, m ≠ n → d.lanes[m] = s.dev.lanes[m]) ∧
      (ilim = true → d.bit (statusReg (portOfBridge k.desc.bridge.val)) 8 = true) ∧
      (ilim = false → d.regs = s.dev.regs) ∧ d = { s.dev with ports := d.ports, lanes := d.lanes, regs := d.regs }) ∧
  (∀ (s : State) (n : Fin 32) (m : PairMeans) (t : Nat) (k : Ticket), s.running → s.dev.working n = some (t, k) →
    s.dev.integrated n k = true → s.dev.lanes[n].work.neg = true →
    ∃ d : Dev, exec (.pairEnd n m) s = .next { s with dev := d.settle } ∧
      d.ports[portOfBridge k.desc.bridge.val].drive = .off ∧
      ((s.dev.exciteFor n k).duty < 1000 → k.desc.bridge ∈ d.rests) ∧
      d.rd (rbridgeReg (portOfBridge k.desc.bridge.val)) = (match pairResistance m with
        | some v => BitVec.ofNat 32 v
        | none => 0xFFFFFFFF) ∧
      d.rd (iexcReg (portOfBridge k.desc.bridge.val)) =
        BitVec.ofNat 32 (min (roundDiv m.currentMean m.den).toNat 0xFFFFFFFF)) ∧
  (∀ (s : State) (b : Fin 2176), s.quiet → s.dev.alive = true →
    exec (.restExpiry b) s = .next { s with dev := { s.dev with
      rests := s.dev.rests.filter (fun x => decide (x ≠ b)) } })

/-- PREWARM_PULSE_START and PREWARM_PULSE_END (`prewarmPulseStart` and `prewarmPulseEnd` complete; R264 to R267, R294,
Table 9.3): a pulse drives the run-ahead ticket's port, with a sign that alternates from +, and the end of the pulse on a port
takes that port back to 0 V and no other; a ticket cancelled meanwhile then hands over its record (that it waits for the end of
the pulse at stage 4 is the model's choice, log entry 121). That the end of a pulse changes nothing where none runs is the model's own
form of the command (log entry 1). -/
def Obligations.PrewarmPulses : Prop :=
  (∀ (s : State) (n : Fin 32) (ilim : Bool) (t : Nat) (k : Ticket), s.running → s.dev.lanes[n].runAhead = some t →
    s.dev.ticket t = some k → (exciteOf s.dev.alm k.desc.excite.val).prewarm = true →
    s.dev.converting n ≠ some k.desc.bridge → k.desc.bridge ∉ s.dev.rests →
    s.dev.ports[portOfBridge k.desc.bridge.val].drive = .off → s.dev.ports[portOfBridge k.desc.bridge.val].pulse = none →
    s.dev.ports[portOfBridge k.desc.bridge.val].collimated = false → s.dev.slotReady n k = true →
    ((exciteOf s.dev.alm k.desc.excite.val).prewarmN = 0 ∨ k.pulses < (exciteOf s.dev.alm k.desc.excite.val).prewarmN) →
    ∃ d : Dev, exec (.prewarmPulseStart n ilim) s = .next { s with dev := d } ∧
      d.ports = s.dev.ports.set (portOfBridge k.desc.bridge.val) { s.dev.ports[portOfBridge k.desc.bridge.val] with
        drive := if k.pulses % 2 = 0 then .pos else .neg, pulse := some (s.dev.handle t), bridge := some k.desc.bridge } ∧
      d.ticket t = some { k with pulses := k.pulses + 1 } ∧
      (ilim = true → d.bit (statusReg (portOfBridge k.desc.bridge.val)) 8 = true) ∧
      d = { s.dev with ports := d.ports, pool := d.pool, regs := d.regs }) ∧
  (∀ (s : State) (p : Fin 136) (h : Word), s.running → s.dev.ports[p].pulse = some h →
    ∃ d : Dev, exec (.prewarmPulseEnd p) s = .next { s with dev := d } ∧
      d.ports = s.dev.ports.set p { s.dev.ports[p] with drive := .off, pulse := none } ∧
      (∀ k, s.dev.ticket (Machine.fld h 0 11) = some k → s.dev.handle (Machine.fld h 0 11) = h → k.cancelled.isSome = true →
        s.dev.breakOwed (Machine.fld h 0 11) k = false →
        d.pool = tdel s.dev.pool (Machine.fld h 0 11) ∧ ∃ r ∈ d.handed, r.kind = 0x02 ∧ r.w5 = k.desc.tag ∧ r.w6 = h) ∧
      ((∀ k, s.dev.ticket (Machine.fld h 0 11) = some k → k.cancelled = none) →
        d.pool = s.dev.pool ∧ d.handed = s.dev.handed) ∧
      d = { s.dev with ports := d.ports, pool := d.pool, handed := d.handed }) ∧
  (∀ (s : State) (p : Fin 136), s.running → s.dev.ports[p].pulse = none → exec (.prewarmPulseEnd p) s = .next s)

/-- SHUT_PIN_CHANGE, SHUT_FORCE_WRITE, SHUT_TRIP_CLEAR and SHUT_WAIT_TIMEOUT (R274, R275, R283, Table 6.3): each source
holds its lines and no other, a line is BLANK while a source holds it, and a ticket that waits longer than SHUT_WAIT for
clear lines ends VOID. -/
def Obligations.ShutterSourcesHoldLines : Prop :=
  (∀ (s : State) (k : Fin 8) (level : Bool), s.running →
    ∃ d : Dev, exec (.shutPinChange k level) s = .next { s with dev := d.settle } ∧
      d.shut.eph = s.dev.shut.eph ∧
      (∀ j : Fin 8, d.shut.pins.getLsbD j.val = if j = k then level else s.dev.shut.pins.getLsbD j.val) ∧
      (∀ j : Fin 8, j ≠ k → d.lineBlank j.val = s.dev.lineBlank j.val) ∧
      d = { s.dev with shut := d.shut, events := d.events }) ∧
  (∀ (s : State) (p : Path) (w : Word), s.takes p .shutForce w →
    ∃ d : Dev, exec (.shutForceWrite p w) s = .next { s with dev := d.settle } ∧ d.rd .shutForce = w ∧
      (∀ k : Fin 8, d.lineBlank k.val = (Machine.bit w k.val || (s.dev.pinAsserted k.val && s.dev.bit .shutCfg k.val) ||
        s.dev.shut.eph.getLsbD k.val || s.dev.bit .lkShutLink k.val || s.dev.bit .shutTrip k.val)) ∧
      d = { s.dev with regs := d.regs, events := d.events }) ∧
  (∀ (s : State) (p : Path) (w : Word), s.takes p .shutTrip w →
    ∃ d : Dev, exec (.shutTripClear p w) s = .next { s with dev := d.settle } ∧
      (∀ k : Fin 8, d.bit .shutTrip k.val = (s.dev.bit .shutTrip k.val && !Machine.bit w k.val)) ∧
      (∀ k : Fin 8, Machine.bit w k.val = false → d.lineBlank k.val = s.dev.lineBlank k.val) ∧
      d = { s.dev with regs := d.regs, events := d.events }) ∧
  (∀ (s : State) (n : Fin 32) (t : Nat) (k : Ticket), s.running → s.dev.working n = some (t, k) →
    s.dev.mayBurst n k = true → s.dev.portBlank (portOfBridge k.desc.bridge.val) = true →
    s.dev.shutWait (portOfBridge k.desc.bridge.val) ≠ 0 →
    ∃ d : Dev, exec (.shutWaitTimeout n) s = .next { s with dev := d.settle } ∧ d.lanes[n].current = none ∧
      d.lanes[n].phase = .idle ∧ (∃ k', d.ticket t = some k' ∧ k'.stage = .committed ∧ k'.desc = k.desc) ∧
      d.rd (.laneResult n) = ratioLo voidRatio ∧ d.rdHi (.laneResult n) = ratioHi voidRatio)

/-- TURRET_BREAK, TURRET_SHORT_OPEN, TURRET_MAKE and TURRET_OPEN_IDLE (R295 to R298, R391, Table 7.9): the head ticket
of an idle lane takes the lane, its old input open unless its connection is kept; the short opens once the card's slot
is ready; the new input closes and the bursts may begin; an idle lane ends with no input closed. PORT_YIELD (R293): a
lane that converts nothing and holds a port another lane waits for opens its input there and breaks its slot. A head ticket
that has to wait opens the lane's old input all the same, which is the model's choice (log entry 122). -/
def Obligations.TurretsStep : Prop :=
  (∀ (s : State) (n : Fin 32) (t : Nat) (k : Ticket), s.running → s.dev.headOf n = some t → s.dev.ticket t = some k →
    (∀ x c m, extOfBridge k.desc.bridge.val = some (x, c, m) → s.dev.cardState x c = 1) → s.dev.mayConvert n k = true →
    ∃ d : Dev, exec (.turretBreak n) s = .next { s with dev := d.settle } ∧ d.lanes[n].current = some t ∧
      d.lanes[n].queue = s.dev.lanes[n].queue.filter (· ≠ t) ∧ d.lanes[n].gain = k.desc.gain ∧
      d.lanes[n].profile = k.desc.filter ∧
      (s.dev.keeps n k = false → d.lanes[n].closed = none ∧ d.lanes[n].step = .short ∧
        ∃ k', d.ticket t = some k' ∧ k'.stage = .turret) ∧
      (s.dev.keeps n k = true → d.lanes[n].closed = some k.desc.bridge ∧ d.lanes[n].step = .made ∧
        ∃ k', d.ticket t = some k' ∧ k'.stage = .bursts) ∧
      ∀ m, m ≠ n → d.lanes[m] = s.dev.lanes[m]) ∧
  (∀ (s : State) (n : Fin 32) (t : Nat) (k : Ticket) (b : Fin 2176), s.running → s.dev.headOf n = some t →
    s.dev.ticket t = some k → (∀ x c m, extOfBridge k.desc.bridge.val = some (x, c, m) → s.dev.cardState x c = 1) →
    s.dev.mayConvert n k = false → s.dev.lanes[n].closed = some b → b ≠ k.desc.bridge →
    ∃ d : Dev, exec (.turretBreak n) s = .next { s with dev := d.settle } ∧
      d.lanes = s.dev.lanes.set n { s.dev.lanes[n] with closed := none, step := .idle } ∧
      d = { s.dev with lanes := d.lanes, events := d.events }) ∧
  (∀ (s : State) (n : Fin 32) (t : Nat) (k : Ticket), s.running → s.dev.working n = some (t, k) → k.stage = .turret →
    s.dev.lanes[n].step = .short → s.dev.slotReady n k = true →
    exec (.turretShortOpen n) s = .next { s with dev := s.dev.setLane n { s.dev.lanes[n] with shortOpen := true } }) ∧
  (∀ (s : State) (n : Fin 32) (t : Nat) (k : Ticket), s.running → s.dev.working n = some (t, k) → k.stage = .turret →
    s.dev.lanes[n].shortOpen = true →
    ∃ d : Dev, exec (.turretMake n) s = .next { s with dev := d } ∧
      d.lanes = s.dev.lanes.set n { s.dev.lanes[n] with closed := some k.desc.bridge, step := .made, shortOpen := false } ∧
      d.ticket t = some { k with stage := .bursts } ∧ d = { s.dev with lanes := d.lanes, pool := d.pool }) ∧
  (∀ (s : State) (n : Fin 32), s.running → s.dev.lanes[n].current = none → s.dev.lanes[n].queue = [] →
    ∃ d : Dev, exec (.turretOpenIdle n) s = .next { s with dev := d } ∧
      d.lanes = s.dev.lanes.set n { s.dev.lanes[n] with closed := none, step := .idle } ∧
      (∀ x ∈ xportsOf (quadOf8 n.val), ∀ slot, s.dev.xports[x].holder = some n → s.dev.xports[x].breaking n = false →
        s.dev.xports[x].made = some slot → breakItem slot (.break_ n) ∈ d.xports[x].wanted) ∧
      d = { s.dev with lanes := d.lanes, xports := d.xports }) ∧
  (∀ (s : State) (x : Fin 8) (h : Fin 32) (slot : Fin 4 × Fin 64), s.running → s.dev.xports[x].holder = some h →
    s.dev.lanes[h].current = none → (s.dev.waiters x).any (fun w => decide (w.1 ≠ h)) = true →
    s.dev.xports[x].breaking h = false → s.dev.xports[x].made = some slot →
    (∀ t k, s.dev.lanes[h].runAhead = some t → s.dev.ticket t = some k → portOfBridge k.desc.bridge.val ≠ xPort x) →
    ∃ d : Dev, exec (.portYield x) s = .next { s with dev := d } ∧
      d.xports[x].wanted = s.dev.xports[x].wanted ++ [breakItem slot (.break_ h)] ∧
      (∀ b, d.lanes[h].closed = some b → portOfBridge b.val ≠ xPort x) ∧
      (∀ m, m ≠ h → d.lanes[m] = s.dev.lanes[m]) ∧ d = { s.dev with lanes := d.lanes, xports := d.xports })

/-- TB_BREAK, TB_DISCHARGE, TB_MAKE, TB_QUERY, TB_ID, TB_BREAK_A, TB_DISCHARGE_A and TB_MAKE_A (R309, R320, R321, Tables
7.3 and 7.5): on a bus that is open, or for a forced break, the command at the front of those to send goes out as its frame; a
new sequence number belongs to each new command that takes a reply, which is then outstanding, a repeat keeps its own, and the
others start a timed wait (what number a command without a reply carries is the model's choice, log entry 51); a ticket's
DISCHARGE or MAKE makes its lane the holder.
TB_PORT_RELEASE, TB_TIMED_WAIT_END and TB_BUS_RESET (R305, R318, R321, R333, R334): a released port is held by no lane
and holds no slot; the end of a timed wait stands for the reply; a bus reset opens every slot of the port. -/
def Obligations.BusFramesGoOut : Prop :=
  (∀ (s : State) (x : Fin 8) (err : Word) (c : BusCmd) (i : BusItem) (rest : List BusItem), s.quiet → s.dev.alive = true →
    s.dev.quads[quadOfXport x].barrierUp = true → s.dev.xports[x].wanted = i :: rest → s.dev.busForm x i = c →
    s.dev.busOpen x = true ∨ i.why = .safety → s.dev.breakWaits x i = false →
    ∃ (d : Dev) (seq : Fin 16) (more : List Output), exec (Machine.busRow x err c) s = .next { s with dev := d } ∧
      seq.val = (match i.seq with
        | some q => q.val
        | none => if c.replies then (s.dev.xports[x].seq.val + 1) % 16 else s.dev.xports[x].seq.val) ∧
      d.outputs = s.dev.outputs ++ .busFrame x (cmdFrame c i seq.val) :: more ∧ d.xports[x].wanted = rest ∧
      d.xports[x].seq = (if i.seq.isNone then seq else s.dev.xports[x].seq) ∧
      d.xports[x].outstanding = (if c.replies then some ({ i with seq := some seq }, cmdFrame c i seq.val) else none) ∧
      d.xports[x].timed = (if c.replies || decide (i.why = .safety) then none else some i) ∧
      d.xports[x].holder = (match i.why with
        | .connect n _ => some n
        | _ => s.dev.xports[x].holder) ∧
      (∀ y, y ≠ x → d.xports[y] = s.dev.xports[y]) ∧ d.regs = s.dev.regs ∧ d.lanes = s.dev.lanes) ∧
  (∀ (s : State) (x : Fin 8), s.quiet → s.dev.alive = true → s.dev.xports[x].releasing = true →
    s.dev.xports[x].resetWanted = false → s.dev.xports[x].wanted.all (fun i => decide (i.why ≠ .safety)) = true →
    ∃ d : Dev, exec (.tbPortRelease x) s = .next { s with dev := d.settle } ∧ d.xports[x].holder = none ∧
      d.xports[x].made = none ∧ d.xports[x].releasing = false ∧ ∀ y, quadOfXport y ≠ quadOfXport x → d.xports[y] = s.dev.xports[y]) ∧
  (∀ (s : State) (x : Fin 8) (i : BusItem), s.quiet → s.dev.alive = true → s.dev.xports[x].timed = some i →
    ∃ d : Dev, exec (.tbTimedWaitEnd x) s = .next { s with dev := d.settle } ∧ d.xports[x].timed = none ∧
      (i.cmd = .makeA → d.xports[x].made = some (i.card, i.slot)) ∧ (i.cmd = .breakA → s.dev.xports[x].madeElsewhere i.card = false → d.xports[x].made = none) ∧
      ∀ y, y ≠ x → d.xports[y] = s.dev.xports[y]) ∧
  (∀ (s : State) (x : Fin 8), s.quiet → s.dev.alive = true → s.dev.xports[x].resetWanted = true →
    s.dev.quads[quadOfXport x].barrierUp = true →
    ∃ d : Dev, exec (.tbBusReset x) s = .next { s with dev := d } ∧ d.outputs = s.dev.outputs ++ [.busReset x] ∧
      d.xports = s.dev.xports.set x { s.dev.xports[x] with resetWanted := false } ∧
      (∀ c : Fin 4, d.cards[cardIx x c] = s.dev.cards[cardIx x c].openAll) ∧
      d = { s.dev with xports := d.xports, cards := d.cards, outputs := d.outputs })

/-- TB_REPLY and TB_REPLY_TIMEOUT (R306, R323, R330 to R335): an answer ends the command it answers, a make's with the slot
made, a break's with none unless another card has the made slot, a discharge's with nothing else changed, and an identification's
with the next one or with CARD_INFO; another frame is counted and ends nothing; a missing one is counted and repeats the
command while retries are left, and then fails its card; a command refused with NAK_BAD is repeated after a BREAK_A of every
slot, and fails when no retry is left; NAK_FAULT fails the card at once. That an ACK with FAULT 0 ends a command whatever state its
DATA shows is the model's choice (log entry 135). -/
def Obligations.RepliesEndCommands : Prop :=
  (∀ (s : State) (x : Fin 8) (w sent : Word) (i : BusItem), s.quiet → s.dev.alive = true →
    s.dev.xports[x].outstanding = some (i, sent) → Machine.busAnswers i sent w →
    ∃ d : Dev, exec (.tbReply x w) s = .next { s with dev := d.settle } ∧
      (i.cmd = .makeA → d.xports[x].made = some (i.card, i.slot) ∧ d.xports[x].outstanding = none) ∧
      (i.cmd = .breakA → d.xports[x].outstanding = none ∧
        (s.dev.xports[x].madeElsewhere i.card = false → d.xports[x].made = none)) ∧
      (i.cmd = .dischargeA → d.xports[x].outstanding = none ∧ d.xports[x].wanted = s.dev.xports[x].wanted ∧
        d.xports[x].made = s.dev.xports[x].made ∧ d.xports[x].holder = s.dev.xports[x].holder ∧
        d = { s.dev with xports := d.xports }) ∧
      (i.cmd = .ident → s.dev.xports[x].ids.length < 2 → d.xports[x].outstanding = none ∧
        d.xports[x].ids = s.dev.xports[x].ids ++ [BitVec.ofNat 15 (Machine.fld w 5 15)] ∧
        d.xports[x].wanted = s.dev.xports[x].wanted ++ [identItem i.card (s.dev.xports[x].ids.length + 1)] ∧
        d = { s.dev with xports := d.xports }) ∧
      (∀ (w0 w1 : BitVec 15) (t : List (Fin 4)), i.cmd = .ident → s.dev.xports[x].ids = [w0, w1] →
        s.dev.xports[x].probing = i.card :: t → i.card ∉ t → d.xports[x].outstanding = none ∧
        d.rd (.cardInfo x i.card) = probeInfo w0 w1 (BitVec.ofNat 15 (Machine.fld w 5 15)) ∧ d.xports[x].probing = t ∧
        d.xports[x].wanted = s.dev.xports[x].wanted ++ (match t with
          | [] => []
          | c :: _ => [identItem c 0])) ∧
      (i.cmd = .query → d.xports[x].outstanding = none ∧ d.rd (.tbQueryResult x) =
        mkBit true 31 ||| at_ i.card.val 16 ||| at_ (Machine.fld w 5 15) 0)) ∧
  (∀ (s : State) (x : Fin 8) (w sent : Word) (i : BusItem), s.quiet → s.dev.alive = true →
    s.dev.xports[x].outstanding = some (i, sent) → w ≠ 0 → crc5 w ≠ Machine.fld w 0 5 →
    ∃ d : Dev, exec (.tbReply x w) s = .next { s with dev := d } ∧
      d.xports[x].outstanding = some (i, sent) ∧ d.xports[x].bad = true ∧
      d.fld (.tbErrors x) 0 16 = min (s.dev.fld (.tbErrors x) 0 16 + 1) 0xFFFF ∧
      d = { s.dev with xports := d.xports, regs := d.regs }) ∧
  (∀ (s : State) (x : Fin 8) (f : Word) (i : BusItem), s.quiet → s.dev.alive = true →
    s.dev.xports[x].outstanding = some (i, f) → i.tries < s.dev.fld (.tbCtrl x) 8 3 →
    ∃ d : Dev, exec (.tbReplyTimeout x) s = .next { s with dev := d } ∧
      d.xports[x].wanted = { i with tries := i.tries + 1 } :: s.dev.xports[x].wanted ∧
      d.xports[x].outstanding = none ∧ d.fld (.tbErrors x) 16 16 = min (s.dev.fld (.tbErrors x) 16 16 + 1) 0xFFFF ∧
      d = { s.dev with xports := d.xports, regs := d.regs }) ∧
  (∀ (s : State) (x : Fin 8) (f : Word) (i : BusItem), s.quiet → s.dev.alive = true →
    s.dev.xports[x].outstanding = some (i, f) → s.dev.fld (.tbCtrl x) 8 3 ≤ i.tries →
    i.cmd = .makeA ∨ i.cmd = .dischargeA →
    ∃ d : Dev, exec (.tbReplyTimeout x) s = .next { s with dev := d.settle } ∧ cardOutOfService d x i) ∧
  (∀ (s : State) (x : Fin 8) (w sent : Word) (i : BusItem), s.quiet → s.dev.alive = true →
    s.dev.xports[x].outstanding = some (i, sent) → Machine.busFaults i sent w →
    ∃ d : Dev, exec (.tbReply x w) s = .next { s with dev := d.settle } ∧ d.xports[x].outstanding = none ∧
      (i.cmd = .makeA ∨ i.cmd = .dischargeA → cardOutOfService d x i) ∧
      (i.cmd = .breakA → d.cardState x i.card = 2 ∧ d.xports[x].releasing = true ∧ d.xports[x].resetWanted = true ∧
        d.bit (.tbStatus x) 24 = true ∧ d.bit (.tbStatus x) 25 = true) ∧
      (i.cmd = .query → d.rd (.tbQueryResult x) =
        mkBit true 31 ||| at_ 2 18 ||| at_ i.card.val 16 ||| at_ (Machine.fld w 5 15) 0) ∧
      (∀ t, i.cmd = .ident → s.dev.xports[x].probing = i.card :: t → i.card ∉ t → d.cardState x i.card = 2)) ∧
  (∀ (s : State) (x : Fin 8) (w sent : Word) (i : BusItem), s.quiet → s.dev.alive = true →
    s.dev.xports[x].outstanding = some (i, sent) → Machine.busRefuses i sent w → s.dev.fld (.tbCtrl x) 8 3 ≤ i.tries →
    ∃ d : Dev, exec (.tbReply x w) s = .next { s with dev := d.settle } ∧ d.xports[x].outstanding = none ∧
      (i.cmd = .makeA ∨ i.cmd = .dischargeA → cardOutOfService d x i) ∧
      (i.cmd = .breakA → d.cardState x i.card = 2 ∧ d.xports[x].releasing = true ∧ d.xports[x].resetWanted = true ∧
        d.bit (.tbStatus x) 24 = true ∧ d.bit (.tbStatus x) 25 = true) ∧
      (i.cmd = .query → d.rd (.tbQueryResult x) = mkBit true 30 ||| at_ i.card.val 16) ∧
      (∀ t, i.cmd = .ident → s.dev.xports[x].probing = i.card :: t → i.card ∉ t → d.cardState x i.card = 2)) ∧
  (∀ (s : State) (x : Fin 8) (w sent : Word) (i : BusItem), s.quiet → s.dev.alive = true →
    s.dev.xports[x].outstanding = some (i, sent) → Machine.busRefuses i sent w → i.tries < s.dev.fld (.tbCtrl x) 8 3 →
    i.cmd ≠ .breakA →
    ∃ d : Dev, exec (.tbReply x w) s = .next { s with dev := d } ∧
      d.xports[x].wanted = { cmd := .breakA, card := i.card, slot := i.slot, all := true, why := .recover } ::
        { i with tries := i.tries + 1 } :: s.dev.xports[x].wanted ∧
      d.xports[x].outstanding = none ∧ (∀ y, y ≠ x → d.xports[y] = s.dev.xports[y]) ∧ d = { s.dev with xports := d.xports })

/-- TB_CMD_PROBE, TB_CMD_QUERY, TB_CMD_BUS_RESET and TB_CMD_CLR_CNT (R323, R336, R337): on a port that is neither held
nor waiting for a reply each command asks for its own bus traffic, and CLR_CNT clears the counts (that a card to be probed is PROBING
at once, and that commands wait their turn in one order, is the model's choice, log entries 50 and 52). CARD_ACTION_COMPLETE,
CARD_CLOCK_LOSS and CARD_POWER_LOSS (R314 to R318): a card finishes what it does, and a card that loses its clock or its
power opens every slot and owes no reply. -/
def Obligations.BusCommandsAndCards : Prop :=
  (∀ (s : State) (p : Path) (x : Fin 8) (c : Fin 4), s.takes p (.tbCmd x) (at_ c.val 4 ||| 1) → s.dev.busBusy x = false →
    ∃ d : Dev, exec (.tbCmdProbe p x c) s = .next { s with dev := d.settle } ∧ d.cardState x c = 3 ∧
      d.xports[x].probing = s.dev.xports[x].probing ++ [c] ∧
      (s.dev.xports[x].probing = [] → d.xports[x].wanted = s.dev.xports[x].wanted ++ [identItem c 0]) ∧
      d = { s.dev with xports := d.xports, regs := d.regs }) ∧
  (∀ (s : State) (p : Path) (x : Fin 8) (c : Fin 4), s.takes p (.tbCmd x) (at_ c.val 4 ||| 2) → s.dev.busBusy x = false →
    ∃ d : Dev, exec (.tbCmdQuery p x c) s = .next { s with dev := d.settle } ∧
      d.xports[x].wanted = s.dev.xports[x].wanted ++ [{ cmd := .query, card := c, slot := 0, why := .query }] ∧
      d = { s.dev with xports := d.xports, regs := d.regs }) ∧
  (∀ (s : State) (p : Path) (x : Fin 8), s.takes p (.tbCmd x) 4 → s.dev.busBusy x = false →
    ∃ d : Dev, exec (.tbCmdBusReset p x) s = .next { s with dev := d.settle } ∧
      d.xports = s.dev.xports.set x { s.dev.xports[x] with resetWanted := true } ∧
      d = { s.dev with xports := d.xports, regs := d.regs }) ∧
  (∀ (s : State) (p : Path) (x : Fin 8), s.takes p (.tbCmd x) 8 →
    ∃ d : Dev, exec (.tbCmdClrCnt p x) s = .next { s with dev := d.settle } ∧ d.rd (.tbErrors x) = 0 ∧
      d = { s.dev with regs := d.regs }) ∧
  (∀ (s : State) (x : Fin 8) (c : Fin 4), s.quiet → s.dev.cards[cardIx x c].opening.isSome = true →
    ∃ d : Dev, exec (.cardActionComplete x c) s = .next { s with dev := d } ∧ d.cards[cardIx x c].made = none ∧
      d.cards[cardIx x c].opening = none ∧ (∀ j, j ≠ cardIx x c → d.cards[j] = s.dev.cards[j]) ∧
      d = { s.dev with cards := d.cards, outputs := d.outputs }) ∧
  (∀ (s : State) (x : Fin 8) (c : Fin 4) (m : Fin 64), s.quiet → s.dev.cards[cardIx x c].opening = none →
    s.dev.cards[cardIx x c].discharging = false → s.dev.cards[cardIx x c].closing = some m →
    ∃ d : Dev, exec (.cardActionComplete x c) s = .next { s with dev := d } ∧ d.cards[cardIx x c].made = some m ∧
      d.cards[cardIx x c].closing = none ∧ (∀ j, j ≠ cardIx x c → d.cards[j] = s.dev.cards[j]) ∧
      d = { s.dev with cards := d.cards, outputs := d.outputs }) ∧
  (∀ (s : State) (x : Fin 8) (c : Fin 4), s.quiet →
    ∃ d : Dev, exec (.cardClockLoss x c) s = .next { s with dev := d } ∧
      exec (.cardPowerLoss x c) s = .next { s with dev := d } ∧ d.cards[cardIx x c].closing = none ∧
      d.cards[cardIx x c].owed = [] ∧ d.cards[cardIx x c].discharging = false ∧
      d.cards[cardIx x c].opening = s.dev.cards[cardIx x c].active ∧ d.cards[cardIx x c].made = s.dev.cards[cardIx x c].made ∧
      (∀ j, j ≠ cardIx x c → d.cards[j] = s.dev.cards[j]) ∧ d = { s.dev with cards := d.cards })

/-- SAMPLE_LEAVES_FILTER, MODULATOR_RESET and MODULATOR_RESET_END (R351, R353, R361, R362, R364): a sample shows in
LANE_SAMPLE and, once the settling samples are through, adds to the sum of its burst; a line-cycle window takes its target
from the axis at the boundary of the last discarded sample, ends at the boundary that reaches it, and is voided by a STALL at a
boundary (R354, R355, R357, R462: the position is that on the CCLK edge which acts on the boundary); a reset of a modulator that runs is counted once and kept, and marks the samples whose boundary
lies in its window. The model's choices are: which CCLK edge acts on a boundary or a sample (log entry 59), what decides the direction
of a sample that is OVR in several ways (60), LANE_SAMPLE of a reading that saturates (61), that a modulator without power or lock is not reset (63), and which tick
a command on an edge belongs to (123). -/
def Obligations.SamplesSum : Prop :=
  (∀ (s : State) (n : Fin 32) (m : SampleReading) (t : Nat) (k : Ticket), s.running → s.dev.working n = some (t, k) →
    s.dev.lanes[n].phase = .discard ∨ s.dev.lanes[n].phase = .integrate → s.dev.lanes[n].work.tail = false →
    s.dev.lanes[n].work.ended = false → s.dev.lanes[n].work.taken = false →
    s.dev.lanes[n].work.length = 0 ∨ s.dev.lanes[n].work.samples < (s.dev.filterFor n k).settle + s.dev.lanes[n].work.length →
    (∀ a f j, s.dev.lineNext n = some (a, f, j) → s.dev.lanes[n].work.samples + 1 < j) →
    ∃ d : Dev, exec (.sampleLeavesFilter n m) s = .next { s with dev := d.settle } ∧
      d.rd (.laneSample n) = ratioLo (satRatio m.value) ∧ d.rdHi (.laneSample n) = ratioHi (satRatio m.value) ∧
      ((s.dev.lanes[n].ovrDir m.value
          (s.dev.lanes[n].work.boundary (s.dev.filterFor n k) (s.dev.lanes[n].work.samples + 1))
          ((settleSamples (s.dev.filterFor n k).firSet * (s.dev.filterFor n k).totalDec : Nat) * modTick)).isSome = true →
        d.bit (.laneStatus n) 10 = true) ∧
      (m.ilim = true → d.bit (statusReg (portOfBridge k.desc.bridge.val)) 8 = true) ∧
      (s.dev.lanes[n].work.samples + 1 < (s.dev.filterFor n k).settle → d.lanes[n].work = { s.dev.lanes[n].work with
        samples := s.dev.lanes[n].work.samples + 1, ilim := s.dev.lanes[n].work.ilim || m.ilim }) ∧
      ((s.dev.filterFor n k).settle ≤ s.dev.lanes[n].work.samples → s.dev.lanes[n].work.neg = false →
        d.lanes[n].work.sumPos = s.dev.lanes[n].work.sumPos + m.value ∧
          d.lanes[n].work.samples = s.dev.lanes[n].work.samples + 1) ∧
      ((s.dev.filterFor n k).settle ≤ s.dev.lanes[n].work.samples → s.dev.lanes[n].work.neg = true →
        s.dev.lanes[n].work.samples + 1 < (s.dev.filterFor n k).settle + s.dev.lanes[n].work.length →
        d.lanes[n].work.sumNeg = s.dev.lanes[n].work.sumNeg + m.value)) ∧
  (∀ (s : State) (n : Fin 32) (m : SampleReading) (t : Nat) (k : Ticket) (a : Fin 8) (f : Filter) (j : Nat), s.running →
    s.dev.working n = some (t, k) → s.dev.lanes[n].work.ended = false → s.dev.lanes[n].work.taken = false →
    s.dev.lanes[n].work.tail = false → s.dev.lineNext n = some (a, f, j) → j = s.dev.lanes[n].work.samples + 1 →
    f.settle ≤ j →
    ∃ d : Dev, exec (.sampleLeavesFilter n m) s = .next { s with dev := d.settle } ∧
      (s.dev.axes[a].stall = true → d.bit (.laneStatus n) 11 = true ∧
        d.ports[portOfBridge k.desc.bridge.val].drive = .off ∧ d.lanes[n].inBurst = false) ∧
      (s.dev.axes[a].stall = false → j = f.settle → d.lanes[n].phase = .integrate ∧ d.lanes[n].work.target =
        some (s.dev.axisPos a + BitVec.ofNat 48 (f.lineCycles * 2 ^ 24))) ∧
      (s.dev.axes[a].stall = false → f.settle < j → s.dev.windowDone a
          (s.dev.axisPos a) (s.dev.lanes[n].work.target.getD 0) f.totalDec = true →
        d.lanes[n].work.length = j - f.settle ∧ d.rd (.laneLineN n) = at_ ((j - f.settle) % 65536) 0 ∧
          d.lanes[n].work.sumPos = s.dev.lanes[n].work.sumPos + m.value)) ∧
  (∀ (s : State) (n : Fin 32) (pos : Bool), s.running → s.dev.lanes[n].modReset = false → s.dev.modRuns n = true →
    ∃ d : Dev, exec (.modulatorReset n pos) s = .next { s with dev := d } ∧
      d.fld (.laneOvrCnt n) 0 16 = min (s.dev.fld (.laneOvrCnt n) 0 16 + 1) 0xFFFF ∧
      d.lanes = s.dev.lanes.set n { s.dev.lanes[n] with
        resets := { start := s.dev.lastTick n, stop := none, positive := pos } :: s.dev.lanes[n].resets.take 1 } ∧
      d = { s.dev with lanes := d.lanes, regs := d.regs }) ∧
  (∀ (s : State) (n : Fin 32), s.running → s.dev.modRuns n = true →
    exec (.modulatorResetEnd n) s = .next { s with dev := s.dev.setLane n { s.dev.lanes[n] with
      resets := s.dev.lanes[n].resets.map (fun r => { r with stop := some (r.stop.getD (s.dev.lastTick n)) }) } }) ∧
  (∀ (s : State) (n : Fin 32) (pos : Bool), s.running → s.dev.modRuns n = false →
    exec (.modulatorReset n pos) s = .next s ∧ exec (.modulatorResetEnd n) s = .next s)

/-- SUBMIT (R36, R372, R373, R376, R380, R387): an entry that passes every check of Table 9.2 takes an entry of the pool
that was free, keeps its descriptor, and queues at its bridge's lane at once when it is IMMEDIATE, or when it waits for a TRANSIT and the axis stands at its position or past
it (R383); one that fails a
check takes none, and its code is the lowest of those whose condition of Table 9.2 holds. The entry is consumed, and its COMPLETION carries the code. CANCEL (R394 to R398): a handle that names
a ticket which can be cancelled cancels it, a bridge or a tag cancels every ticket it hits, and the entry's COMPLETION
says so. -/
def Obligations.TicketsEnterAndLeave : Prop :=
  (∀ (s : State) (k : Fin 8) (bs : List Byte) (rest : List (List Byte)) (ds : Desc), s.running →
    s.dev.queues[k].fetched = bs :: rest → byteAt bs 0 = 0x10 → s.dev.submitCode bs = .ok → descOf bs = some ds →
    ∃ (d : Dev) (t : Nat) (e : Ticket), exec (.submit k) s = .next { s with dev := d.settle } ∧
      s.dev.inUse t = false ∧ t < 2048 ∧ d.queues[k].head = (s.dev.queues[k].head + 1) % s.dev.queueSize k ∧
      d.queues[k].fetched = rest ∧
      (ds.trigger = .immediate → d.ticket t = some e ∧ e.desc = ds ∧ e.stage = .queued ∧
        d.lanes[(fabricOf s.dev.alm ds.bridge.val).lane].queue =
          s.dev.lanes[(fabricOf s.dev.alm ds.bridge.val).lane].queue ++ [t]) ∧
      ((∀ a q, ds.trigger = .transit a q → atOrLater (s.dev.axisPos a) q = false) → ds.trigger ≠ .immediate →
        d.ticket t = some e ∧ e.desc = ds ∧ e.stage = .armed) ∧
      (∀ a q, ds.trigger = .transit a q → atOrLater (s.dev.axisPos a) q = true →
        s.dev.laneFull (fabricOf s.dev.alm ds.bridge.val).lane = false →
        d.ticket t = some e ∧ e.desc = ds ∧ e.stage = .queued ∧ e.late = laterThan (s.dev.axisPos a) q ∧
          d.lanes[(fabricOf s.dev.alm ds.bridge.val).lane].queue =
            s.dev.lanes[(fabricOf s.dev.alm ds.bridge.val).lane].queue ++ [t]) ∧
      (∀ a q, ds.trigger = .transit a q → atOrLater (s.dev.axisPos a) q = true →
        s.dev.laneFull (fabricOf s.dev.alm ds.bridge.val).lane = true →
        d.ticket t = none ∧ (∀ n : Fin 32, d.lanes[n].queue = s.dev.lanes[n].queue) ∧
          d.rd (.slipTotal (fabricOf s.dev.alm ds.bridge.val).lane) =
            satAdd (s.dev.rd (.slipTotal (fabricOf s.dev.alm ds.bridge.val).lane)) 1) ∧
      (byteAt bs 1 % 2 = 1 → ∃ r ∈ d.handed, r.kind = 0x03 ∧ r.idx = k.val ∧ r.w6 = d.handle t ∧ r.w7 = wordAt bs 4)) ∧
  (∀ (s : State) (k : Fin 8) (bs : List Byte) (rest : List (List Byte)), s.running →
    s.dev.queues[k].fetched = bs :: rest → byteAt bs 0 = 0x10 → s.dev.submitCode bs ≠ .ok →
    ∃ d : Dev, exec (.submit k) s = .next { s with dev := d.settle } ∧ d.pool = s.dev.pool ∧ d.lanes = s.dev.lanes ∧
      d.queues[k].fetched = rest ∧ ∃ r ∈ d.handed, r.kind = 0x03 ∧ Machine.fld r.w5 24 8 = (s.dev.submitCode bs).num) ∧
  (∀ (d : Dev) (bs : List Byte) (k : Desc), descOf bs = some k →
    (d.submitCode bs = .ok ↔ ∀ c, ¬ d.submitRefused bs k c) ∧
      (d.submitCode bs ≠ .ok → d.submitRefused bs k (d.submitCode bs)) ∧
      (∀ c, d.submitRefused bs k c → (d.submitCode bs).num ≤ c.num)) ∧
  (∀ (d : Dev) (bs : List Byte), descOf bs = none → d.submitCode bs = .range) ∧
  (∀ (s : State) (k : Fin 8) (bs : List Byte) (rest : List (List Byte)) (e : Ticket), s.running →
    s.dev.queues[k].fetched = bs :: rest → byteAt bs 0 = 0x11 → s.dev.boot.phase ≠ .safe → cancelCode bs = .ok →
    byteAt bs 1 = 0 → s.dev.ticket (Machine.fld (wordAt bs 4) 0 11) = some e → e.cancellable = true →
    tget 0 s.dev.incarn (Machine.fld (wordAt bs 4) 0 11) = Machine.fld (wordAt bs 4) 11 21 →
    ∃ d : Dev, exec (.cancel k) s = .next { s with dev := d.settle } ∧ d.queues[k].fetched = rest ∧
      (∀ f ∈ d.pool, f.1 = Machine.fld (wordAt bs 4) 0 11 → f.2.cancelled.isSome = true) ∧
      ∃ r ∈ d.handed, r.kind = 0x03 ∧ Machine.fld r.w5 24 8 = 0 ∧ r.w7 = wordAt bs 4) ∧
  (∀ (s : State) (k : Fin 8) (bs : List Byte) (rest : List (List Byte)), s.running → s.poolOk →
    s.dev.queues[k].fetched = bs :: rest → byteAt bs 0 = 0x11 → s.dev.boot.phase ≠ .safe → cancelCode bs = .ok →
    byteAt bs 1 ≠ 0 →
    ∃ d : Dev, exec (.cancel k) s = .next { s with dev := d.settle } ∧ d.queues[k].fetched = rest ∧
      (byteAt bs 1 = 1 → ∀ f ∈ d.pool, f.2.cancellable = true → f.2.desc.bridge.val ≠ field bs 2 2) ∧
      (byteAt bs 1 = 2 → ∀ f ∈ d.pool, f.2.cancellable = true →
        (f.2.desc.tag ^^^ wordAt bs 8) &&& wordAt bs 0x0C ≠ 0))

/-- SLIP_RECORD_TIMER, TRANSIT_TRIGGER, TICKET_EXPIRE and RUN_AHEAD_ENTRY (R36, R380, R383, R385, R390, R403, R432): the
timed events of the scheduler on the ticket or the lane they name (that the slip count returns to 0 with SLIP_LOG_EN 0 too is the
model's choice, log entry 66); an expiry in SLEEP is kept for the resume edge (R384). -/
def Obligations.SchedulerEvents : Prop :=
  (∀ (s : State) (n : Fin 32), s.running → 0 < s.dev.lanes[n].slips.count →
    ∃ d : Dev, exec (.slipRecordTimer n) s = .next { s with dev := d } ∧
      d.lanes = s.dev.lanes.set n { s.dev.lanes[n] with slips := {} } ∧
      (s.dev.bit .schedCtrl 4 = true → ∃ r ∈ d.handed, r.kind = 0x09 ∧ r.idx = n.val ∧
        r.w5 = at_ s.dev.lanes[n].slips.count 0 ∧ r.w7 = s.dev.lanes[n].slips.tag) ∧
      (s.dev.bit .schedCtrl 4 = false → d.handed = s.dev.handed) ∧ d = { s.dev with lanes := d.lanes, handed := d.handed }) ∧
  (∀ (s : State) (t : Fin 2048) (k : Ticket), s.running → s.dev.ticket t.val = some k → s.dev.transitDue k = true →
    s.dev.quads[k.quad].barrierUp = true → s.dev.qOff k.quad = false → s.dev.quads[k.quad].hotOff = false →
    s.dev.quarantined k.desc.bridge = false → s.dev.laneFull (fabricOf s.dev.alm k.desc.bridge.val).lane = false →
    ∃ d : Dev, exec (.transitTrigger t) s = .next { s with dev := d.settle } ∧
      d.ticket t.val = some { k with stage := .queued, lane := (fabricOf s.dev.alm k.desc.bridge.val).lane
                                     order := s.dev.queuings } ∧
      d.lanes[(fabricOf s.dev.alm k.desc.bridge.val).lane].queue =
        s.dev.lanes[(fabricOf s.dev.alm k.desc.bridge.val).lane].queue ++ [t.val] ∧
      d = { s.dev with pool := d.pool, lanes := d.lanes, queuings := d.queuings, events := d.events }) ∧
  (∀ (s : State) (t : Fin 2048) (k : Ticket), s.running → s.dev.ticket t.val = some k → k.stage = .armed →
    k.cancelled = none → k.desc.expireMs ≠ 0 →
    ∃ d : Dev, exec (.ticketExpire t) s = .next { s with dev := d } ∧ d.pool = tdel s.dev.pool t.val ∧
      (∃ r ∈ d.handed, r.kind = 0x02 ∧ r.w5 = k.desc.tag ∧ r.w6 = s.dev.handle t.val ∧ Machine.fld r.w7 28 4 = 5) ∧
      d = { s.dev with pool := d.pool, handed := d.handed }) ∧
  (∀ (s : State) (t : Fin 2048) (k : Ticket), s.quiet → s.dev.alive = true → s.dev.boot.phase = .sleep →
    s.dev.ticket t.val = some k → k.stage = .armed → k.desc.expireMs ≠ 0 →
    ∃ d : Dev, exec (.ticketExpire t) s = .next { s with dev := d } ∧ d.ticket t.val = some { k with lapsed := true } ∧
      d = { s.dev with pool := d.pool }) ∧
  (∀ (s : State) (n : Fin 32) (t : Nat) (q : List Nat) (k : Ticket), s.running → s.dev.lanes[n].queue = t :: q →
    s.dev.ticket t = some k → s.dev.lanes[n].current ≠ none → s.dev.lanes[n].runAhead = none →
    k.desc.noRunAhead = false →
    ∃ d : Dev, exec (.runAheadEntry n) s = .next { s with dev := d.settle } ∧
      d.lanes = s.dev.lanes.set n { s.dev.lanes[n] with runAhead := some t } ∧
      (∃ k', d.ticket t = some k' ∧ k'.stage = .runAhead ∧ k'.desc = k.desc) ∧
      tget 0 d.red.held k.desc.bridge.val = tget 0 s.dev.red.held k.desc.bridge.val + 1 ∧
      d = { s.dev with lanes := d.lanes, pool := d.pool, red := d.red, xports := d.xports, events := d.events })

/-- CACHE_FETCH_DONE, REDUCER_ENTRY, REDUCED_VALUE_OUT, PLATE_HANDOVER and RED_HOST_TEMP_WRITE (R43, R376, R414, R415,
R421, R432, R434, Table 10.1): a fetched line holds committed contents; a ratio with a valid line is settled and goes
down the pipeline; its value shows in the reducer's registers and its plate is the next to be handed over; on a later edge the
plate's record is handed over and its pool entry released; a host temperature is stored. That CACHE_FILLS counts every fetch that ends
is the model's choice (log entry 70), and that a hand-over before its edge, or with no plate, changes nothing is its own form of the
command (log entry 1). -/
def Obligations.ReducersWork : Prop :=
  (∀ (s : State) (b : Fin 2176), s.running → s.dev.lineFetching b = true →
    ∃ d : Dev, exec (.cacheFetchDone b) s = .next { s with dev := d } ∧
      (∀ l ∈ d.red.cache, l.bridge = b → l.fetching = false ∧ l.block = s.nv.coefBlock b.val ∧
        l.record = s.nv.thermRecord b.val) ∧
      (∀ l, l.bridge ≠ b → (l ∈ d.red.cache ↔ l ∈ s.dev.red.cache)) ∧
      d.rd .cacheFills = satAdd (s.dev.rd .cacheFills) 1 ∧ d = { s.dev with red := d.red, regs := d.regs }) ∧
  (∀ (s : State) (r : Fin 8) (p : Plate) (l : CacheLine) (rest : List Plate), s.running →
    s.dev.nextRatio s.dev.red.reducers[r].waiting = some (p, l, rest) →
    ∃ d : Dev, exec (.reducerEntry r) s = .next { s with dev := d } ∧
      d.red = { s.dev.red with
        reducers := s.dev.red.reducers.set r
          ({ waiting := rest, pipeline := s.dev.red.reducers[r].pipeline ++ [s.dev.settlePlate r p l] } : Reducer) } ∧
      d.rd (.redEvals r) = satAdd (s.dev.rd (.redEvals r)) 1 ∧ d = { s.dev with red := d.red, regs := d.regs }) ∧
  (∀ (s : State) (r : Fin 8) (p : Plate) (t : List Plate), s.running → s.dev.red.reducers[r].pipeline = p :: t →
    ∃ d : Dev, exec (.reducedValueOut r) s = .next { s with dev := d.settle } ∧ d.red.reducers[r].pipeline = t ∧
      d.red.plates = s.dev.red.plates ++ [{ p with reached := s.dev.clk.cycle }] ∧ d.rd (.redLastValue r) = ratioLo p.value ∧
      d.rdHi (.redLastValue r) = ratioHi p.value ∧ d.rd (.redLastTemp r) = tempWord p.temp ∧ d.pool = s.dev.pool) ∧
  (∀ (s : State) (p : Plate) (t : List Plate), s.running → s.dev.red.plates = p :: t → p.reached < s.dev.clk.cycle →
    exec .plateHandover s = .next { s with dev := { s.dev with
      red := { s.dev.red with plates := t },
      handed := insertRec { plateRecord p with cycle := s.dev.clk.cycle } s.dev.handed,
      pool := tdel s.dev.pool p.ticket } }) ∧
  (∀ (s : State), s.running → (∀ p ∈ s.dev.red.plates.head?, s.dev.clk.cycle ≤ p.reached) →
    exec .plateHandover s = .next s) ∧
  (∀ (s : State) (p : Path) (r : Fin 8) (w : Word), s.takes p (.redHostTemp r) w → tempWordOk w = true →
    ∃ d : Dev, exec (.redHostTempWrite p r w) s = .next { s with dev := d.settle } ∧ d.rd (.redHostTemp r) = w ∧
      d = { s.dev with regs := d.regs })

/-- REDUCER_ENTRY of a plate (R407 to R410, R423 to R427, Table 10.3, Table 17.6). A VOID raw ratio, a reserved coefficient and a
missing temperature each leave the result VOID, the latter two with COEF_BAD and TEMP_NONE, and the raw ratio as it is; a
saturated ratio takes the saturation code whose sign c_10 gives it, with RED_SAT; and otherwise the result is the polynomial,
rounded once and limited, with RED_SAT where the limit is reached. -/
def Obligations.ReducersSettle : Prop :=
  ∀ (d : Dev) (r : Fin 8) (p : Plate) (l : CacheLine),
    let e := reduceOf (d.bankOf p.old) r.val
    let f := fabricOf (d.bankOf p.old) p.bridge.val
    let cs := coefficients l.block e
    let x := d.settlePlate r p l
    (p.raw = voidRatio → x = { p with value := voidRatio }) ∧
    (p.raw ≠ voidRatio → (∃ c ∈ cs, c.2.2.1 = badMantissa) →
      x = { p with value := voidRatio, status := p.status ||| 8#16 }) ∧
    (p.raw ≠ voidRatio → (∀ c ∈ cs, c.2.2.1 ≠ badMantissa) → p.raw = satCode true →
      x = { p with value := satCode (!spanNegative l.block e), status := p.status ||| 4#16 }) ∧
    (p.raw ≠ voidRatio → (∀ c ∈ cs, c.2.2.1 ≠ badMantissa) → p.raw = satCode false →
      x = { p with value := satCode (spanNegative l.block e), status := p.status ||| 4#16 }) ∧
    (p.raw ≠ voidRatio → (∀ c ∈ cs, c.2.2.1 ≠ badMantissa) → p.raw ≠ satCode true → p.raw ≠ satCode false →
      e.maxJ = 0 → x.value = satRatio (polyMantissa cs p.raw.toInt 0 f.exponent) ∧ x.temp = noTemp ∧ x.raw = p.raw ∧
        x.status = p.status ||| (if ratioSaturates (polyMantissa cs p.raw.toInt 0 f.exponent) then 4#16 else 0)) ∧
    (p.raw ≠ voidRatio → (∀ c ∈ cs, c.2.2.1 ≠ badMantissa) → p.raw ≠ satCode true → p.raw ≠ satCode false →
      e.maxJ ≠ 0 → (d.plateTemp r p f l).word ≠ noTemp →
        x.value = satRatio (polyMantissa cs p.raw.toInt (d.plateTemp r p f l).word.toInt f.exponent) ∧
        x.temp = (d.plateTemp r p f l).word ∧ x.raw = p.raw ∧
        x.status = p.status ||| (if ratioSaturates (polyMantissa cs p.raw.toInt (d.plateTemp r p f l).word.toInt f.exponent)
          then 4#16 else 0) ||| (if (d.plateTemp r p f l).sat then 1#16 else 0)) ∧
    (p.raw ≠ voidRatio → (∀ c ∈ cs, c.2.2.1 ≠ badMantissa) → p.raw ≠ satCode true → p.raw ≠ satCode false →
      e.maxJ ≠ 0 → (d.plateTemp r p f l).word = noTemp →
        x = { p with value := voidRatio, status := p.status ||| 2#16 })

/-- COLL_RUN_START, COLL_STEP_END, COLL_DECISION, COLL_CMD and COLL_FAULTED_CLEAR (R439 to R447, R450, R454 to R457): a
run starts on the bridge that the engine chooses and takes its port, each step adds its reading or, with a ticket waiting for
the port, ends the run, the decision shows the
results and gives the run up, and software names a bridge and ends quarantines. That a run which yields is abandoned before its
decision, at step 7 too, and that the result registers change on the decision edge alone, are the model's choices (log entries 72 and
75). -/
def Obligations.CollimationRuns : Prop :=
  (∀ (s : State) (q : Fin 4) (b : Fin 2176), s.running → s.dev.collOn q = true → s.dev.collChooses q b = true →
    ∃ (d : Dev) (r : CollRun), exec (.collRunStart q b) s = .next { s with dev := d } ∧ d.colls[q].run = some r ∧
      r.bridge = b ∧ r.readings = [] ∧ r.window = s.nv.windowRecord b.val ∧
      r.step = (if (extOfBridge b.val).isSome then 0 else 1) ∧ d.colls[q].commanded = none ∧
      d.ports = s.dev.ports.set (portOfBridge b.val) { s.dev.ports[portOfBridge b.val] with collimated := true } ∧
      d = { s.dev with colls := d.colls, ports := d.ports, xports := d.xports, collStarts := d.collStarts }) ∧
  (∀ (s : State) (q : Fin 4) (w : Word) (r : CollRun), s.running → s.dev.colls[q].run = some r → 1 ≤ r.step →
    r.step ≤ 7 → r.yielding = false →
    ∃ d : Dev, exec (.collStepEnd q w) s = .next { s with dev := d } ∧
      d.colls[q].run = some { r with step := r.step + 1, readings := r.readings ++ [meterReading r.step w] } ∧
      (∀ j, j ≠ q → d.colls[j] = s.dev.colls[j]) ∧ d = { s.dev with colls := d.colls }) ∧
  (∀ (s : State) (q : Fin 4) (w : Word) (r : CollRun), s.running → s.dev.colls[q].run = some r → 1 ≤ r.step →
    r.step ≤ 7 → r.yielding = true →
    ∃ d : Dev, exec (.collStepEnd q w) s = .next { s with dev := d.settle } ∧ d.colls[q].run = none ∧
      d.rd .collAbandon = satAdd (s.dev.rd .collAbandon) 1 ∧ (∀ j, j ≠ q → d.colls[j] = s.dev.colls[j]) ∧
      d = { s.dev with colls := d.colls, regs := d.regs, ports := d.ports, xports := d.xports, events := d.events }) ∧
  (∀ (s : State) (q : Fin 4) (r : CollRun), s.running → s.dev.colls[q].run = some r → r.step = 8 →
    ∃ d : Dev, exec (.collDecision q) s = .next { s with dev := d.settle } ∧ d.colls[q].run = none ∧
      d.rd (.collRuns q) = satAdd (s.dev.rd (.collRuns q)) 1 ∧
      (∀ a : Fin 4, d.rd (.collArm q a) = (collResult r.readings).armWords.getD a.val beyond) ∧
      d.colls[q].lastMask = (if windowUsed r.window then
        collMask (collFaults (windowOf r.window) (collResult r.readings)) else 0) ∧
      (d.colls[q].lastMask ≠ 0 → (windowOf r.window).flags / 2 % 2 = 1 → d.quarantined r.bridge = true)) ∧
  (∀ (s : State) (p : Path) (w : Word), s.takes p .collCmd (w ||| mkBit true 31) → Machine.fld w 0 12 ≤ 2175 →
    s.dev.colls[quadOfBridge (Machine.fld w 0 12)].commanded = none →
    ∃ d : Dev, exec (.collCmd p w) s = .next { s with dev := d.settle } ∧
      d.colls = s.dev.colls.set (quadOfBridge (Machine.fld w 0 12)) { s.dev.colls[quadOfBridge (Machine.fld w 0 12)] with
        commanded := some (toFin 2175 (Machine.fld w 0 12)) } ∧
      d = { s.dev with colls := d.colls, regs := d.regs }) ∧
  (∀ (s : State) (p : Path) (i : Fin 68) (w : Word), s.takes p (.collFaulted i) w →
    ∃ d : Dev, exec (.collFaultedClear p i w) s = .next { s with dev := d.settle } ∧
      d.rd (.collFaulted i) = s.dev.rd (.collFaulted i) &&& ~~~w ∧ d = { s.dev with regs := d.regs })

/-- ENCODER_EDGE, INDEX_EDGE, LINE_CROSSING, AXIS_HOLD and AXIS_STALL (R468, R469, R472, R473, R476 to R479): the
accepted levels are kept, one line's change moves the counts by one edge in its direction, both lines at once only set
the error, an armed index homes the axis to a cycle's start, a line crossing is a forward edge of every axis on that
line, and HOLD and STALL take their values of R473. -/
def Obligations.AxesFollowEdges : Prop :=
  (∀ (s : State) (a : Fin 8) (la lb : Bool), s.running →
    ∃ d : Dev, exec (.encoderEdge a la lb) s = .next { s with dev := d.settle } ∧ d.axes[a].lineA = la ∧
      d.axes[a].lineB = lb ∧ (∀ b, b ≠ a → d.axes[b] = s.dev.axes[b]) ∧
      ((s.dev.axisEntry a).source = .encoder → s.dev.almValid = true → la ≠ s.dev.axes[a].lineA →
        lb ≠ s.dev.axes[a].lineB → d.bit (.axStatus a) 16 = true ∧ d.axes[a].c = s.dev.axes[a].c ∧
          d.axes[a].e = s.dev.axes[a].e) ∧
      ((s.dev.axisEntry a).source = .encoder → s.dev.almValid = true → s.dev.axes[a].known = true →
        la ≠ s.dev.axes[a].lineA → lb = s.dev.axes[a].lineB →
        (d.axes[a].c, d.axes[a].e) = if (decide (la ≠ lb)) != (s.dev.axisEntry a).reverse then
          edgeForward (s.dev.axisEntry a).counts s.dev.axes[a].c s.dev.axes[a].e
          else edgeReverse (s.dev.axisEntry a).counts s.dev.axes[a].c s.dev.axes[a].e) ∧
      d = { s.dev with axes := d.axes, regs := d.regs, events := d.events }) ∧
  (∀ (s : State) (a : Fin 8), s.running → s.dev.fld (.axCtrl a) 16 2 ≠ 0 → (s.dev.axisEntry a).source = .encoder →
    s.dev.almValid = true → s.dev.axes[a].known = true → s.dev.axes[a].e ≠ 0 → s.dev.axes[a].armed = true →
    ∃ d : Dev, exec (.indexEdge a) s = .next { s with dev := d.settle } ∧ d.axes[a].homed = true ∧ d.axes[a].e = 0 ∧
      d.axes[a].c = (if (s.dev.axisEntry a).counts ≤ 2 * s.dev.axes[a].e then (s.dev.axes[a].c + 1) % 2 ^ 24
        else s.dev.axes[a].c) ∧
      d.bit (.axStatus a) 19 = true ∧ (∀ b, b ≠ a → d.axes[b] = s.dev.axes[b]) ∧
      d = { s.dev with axes := d.axes, regs := d.regs, events := d.events }) ∧
  (∀ (s : State) (q : Fin 4) (age : Int), s.running → s.dev.quads[q].barrierUp = true → s.dev.almValid = true →
    ∃ d : Dev, exec (.lineCrossing q age) s = .next { s with dev := d.settle } ∧
      (∀ a : Fin 8, (s.dev.axisEntry a).source ≠ .line q → d.axes[a] = s.dev.axes[a]) ∧
      (∀ a : Fin 8, (s.dev.axisEntry a).source = .line q → d.axes[a].last = some (s.dev.clk.tau - age) ∧
        d.axes[a].forward = true ∧ (s.dev.axes[a].known = true → (d.axes[a].c, d.axes[a].e) =
          edgeForward (s.dev.axisEntry a).counts s.dev.axes[a].c s.dev.axes[a].e)) ∧
      d = { s.dev with axes := d.axes, regs := d.regs, events := d.events }) ∧
  (∀ (s : State) (a : Fin 8), s.running →
    ∃ d : Dev, exec (.axisHold a) s = .next { s with dev := d } ∧
      d.axes = s.dev.axes.set a { s.dev.axes[a] with hold := s.dev.atClamp a, stall := s.dev.overdue a } ∧
      (s.dev.overdue a = true → s.dev.axes[a].stall = false → d.bit (.axStatus a) 18 = true) ∧
      d = { s.dev with axes := d.axes, regs := d.regs } ∧ exec (.axisStall a) s = .next { s with dev := d })

/-- AX_SET_COMMIT (R484): an internal axis stands at the written position, an edge-driven one at the counts whose edge
position was written, and DISCONT is set (how the written position is reached exactly is the model's choice, log entry 77). ENTRY_FIRE (R490, R491): of the due entries the lowest fire, 8 on one edge at most, and
no other; each fires once and is counted; a one-shot entry is
spent, and a periodic one moves past its axis by k + 1 periods, with the k occurrences that it skips added to its SKIPS
and to EPH_SKIPS. -/
def Obligations.PositionsAndEntriesAct : Prop :=
  (∀ (s : State) (p : Path) (a : Fin 8) (w : Word), s.takesPair p (.axSet a) w → s.dev.almValid = true →
    (s.dev.axisEntry a).source = .internal →
    ∃ d : Dev, exec (.axSetCommit p a w) s = .next { s with dev := d.settle } ∧
      d.axisPos a = of48 w (s.dev.stagedHi p (.axSet a)) ∧ d.bit (.axStatus a) 19 = true ∧
      ∀ b, b ≠ a → d.axes[b] = s.dev.axes[b]) ∧
  (∀ (s : State) (p : Path) (a : Fin 8) (w : Word) (c i : Nat), s.takesPair p (.axSet a) w → s.dev.almValid = true →
    (s.dev.axisEntry a).source.edgeDriven = true →
    countsOf (s.dev.axisEntry a).counts (of48 w (s.dev.stagedHi p (.axSet a))) = some (c, i) →
    ∃ d : Dev, exec (.axSetCommit p a w) s = .next { s with dev := d.settle } ∧ d.axes[a].c = c ∧ d.axes[a].e = i ∧
      d.axes[a].known = true ∧ d.bit (.axStatus a) 19 = true ∧ ∀ b, b ≠ a → d.axes[b] = s.dev.axes[b]) ∧
  (∀ (s : State) (i : Fin 512) (e : SchedEntry) (k : Nat), s.running → i.val ∈ s.dev.firing →
    s.dev.sched? i.val = some e →
    k = (if (s.dev.schedEntry i.val).period = 0 then 0 else
      (s.dev.axisPos (s.dev.schedEntry i.val).axis - e.due).toNat / (s.dev.schedEntry i.val).period) →
    ∃ (d : Dev) (f : SchedEntry), exec (.entryFire i) s = .next { s with dev := d.settle } ∧ d.sched? i.val = some f ∧
      f.fires = min (e.fires + 1) 0xFFFFFFFF ∧ f.deferred = false ∧ f.defer_ = e.deferred ∧
      f.skips = min (e.skips + k) 0xFFFF ∧ d.rd .ephSkips = satAdd (s.dev.rd .ephSkips) k ∧
      ((s.dev.schedEntry i.val).period = 0 → f.spent = true ∧ f.due = e.due) ∧
      ((s.dev.schedEntry i.val).period ≠ 0 → f.spent = false ∧
        f.due = e.due + BitVec.ofNat 48 ((k + 1) * (s.dev.schedEntry i.val).period)) ∧
      d.rd .ephFires = satAdd (s.dev.rd .ephFires) 1 ∧ d.fired = s.dev.fired + 1 ∧
      ∀ j, j ≠ i.val → d.sched? j = s.dev.sched? j) ∧
  (∀ (s : State) (i : Fin 512), s.running → i.val ∉ s.dev.firing → exec (.entryFire i) s = .next s)

/-- CHR_CMD_ARM, CHR_ARM, CHR_CMD_STOP, CHR_COUNT_LOAD, CHR_TERM_WRITE and CHR_COMPARE_WRITE (R504 to R509, R526, R527):
an armed channel runs from 0, STOP keeps the count, a load sets it, and the terminal and compare values are stored and
decided at once. -/
def Obligations.ChronographsObeyWrites : Prop :=
  (∀ (s : State) (p : Path) (n : Fin 64), s.takes p (.chrCmd n) 1 → s.dev.chrOff n = false →
    ∃ d : Dev, exec (.chrCmdArm p n) s = .next { s with dev := d.settle } ∧ d.chronos[n].count = 0 ∧
      d.chronos[n].residue = 0 ∧ d.chronos[n].running = true ∧ d.chronos[n].interval = none ∧ d.chronos[n].edges = 0 ∧
      d.bit (.chrStatus n) 15 = false ∧ ∀ m, m ≠ n → d.chronos[m] = s.dev.chronos[m]) ∧
  (∀ (s : State) (p : Path) (w : Word), s.takesPair p .chrArm w →
    (∀ n : Fin 64, (if n.val < 32 then Machine.bit w n.val else Machine.bit (s.dev.stagedHi p .chrArm) (n.val - 32)) = true →
      s.dev.chrOff n = false) →
    ∃ d : Dev, exec (.chrArm p w) s = .next { s with dev := d.settle } ∧ ∀ n : Fin 64,
      if (if n.val < 32 then Machine.bit w n.val else Machine.bit (s.dev.stagedHi p .chrArm) (n.val - 32)) = true then
        d.chronos[n].count = 0 ∧ d.chronos[n].running = true ∧ d.chronos[n].interval = none
      else d.chronos[n] = s.dev.chronos[n]) ∧
  (∀ (s : State) (p : Path) (n : Fin 64), s.takes p (.chrCmd n) 2 →
    ∃ d : Dev, exec (.chrCmdStop p n) s = .next { s with dev := d.settle } ∧
      d.chronos = s.dev.chronos.set n { s.dev.chronos[n] with running := false, cuts := d.chronos[n].cuts } ∧
      d = { s.dev with chronos := d.chronos, regs := d.regs }) ∧
  (∀ (s : State) (p : Path) (n : Fin 64) (w : Word), s.takesPair p (.chrCount n) w → s.dev.chrOff n = false →
    ∃ d : Dev, exec (.chrCountLoad p n w) s = .next { s with dev := d.settle } ∧
      d.chronos[n].count = of48 w (s.dev.stagedHi p (.chrCount n)) ∧ d.chronos[n].residue = 0 ∧
      d.chronos[n].running = s.dev.chronos[n].running ∧ ∀ m, m ≠ n → d.chronos[m] = s.dev.chronos[m]) ∧
  (∀ (s : State) (p : Path) (n : Fin 64) (w : Word), s.takesPair p (.chrTerm n) w →
    of48 w (s.dev.stagedHi p (.chrTerm n)) ≠ 0 →
    ∃ d : Dev, exec (.chrTermWrite p n w) s = .next { s with dev := d.settle } ∧
      d.rd48 (.chrTerm n) = of48 w (s.dev.stagedHi p (.chrTerm n)) ∧ d.chronos[n].count = s.dev.chronos[n].count ∧
      (s.dev.chronos[n].running = true → (s.dev.chrEntry n).mode = 2 →
        atOrLater s.dev.chronos[n].count (of48 w (s.dev.stagedHi p (.chrTerm n))) = true →
        d.chronos[n].running = false ∧ d.bit (.chrStatus n) 7 = true) ∧
      ((s.dev.chronos[n].running && decide ((s.dev.chrEntry n).mode = 2) &&
          atOrLater s.dev.chronos[n].count (of48 w (s.dev.stagedHi p (.chrTerm n)))) = false →
        d = { s.dev with regs := d.regs })) ∧
  (∀ (s : State) (p : Path) (n : Fin 64) (w : Word), s.takesPair p (.chrCompare n) w → s.dev.chrOff n = false →
    ∃ d : Dev, exec (.chrCompareWrite p n w) s = .next { s with dev := d.settle } ∧
      d.chronos[n].count = s.dev.chronos[n].count ∧
      (laterThan (of48 w (s.dev.stagedHi p (.chrCompare n))) s.dev.chronos[n].count = true →
        d.rd48 (.chrCompare n) = of48 w (s.dev.stagedHi p (.chrCompare n)) ∧ d.chronos[n].armed = true) ∧
      (laterThan (of48 w (s.dev.stagedHi p (.chrCompare n))) s.dev.chronos[n].count = false →
        d.bit (.chrStatus n) 8 = true ∧ (s.dev.bit (.chrCtrl n) 23 = false → d.chronos[n].armed = false ∧
          d.rd48 (.chrCompare n) = of48 w (s.dev.stagedHi p (.chrCompare n)))))

/-- CHR_TERMINAL, CHR_MATCH, CAP_LEVEL_ACCEPT and CHR_CAPTURE_LOW_READ (R507, R513, R517, R518, R525 to R529, R532): a
terminal stops a one-shot counter, a match fires its compare and moves its pin two edges later, an accepted level that is an edge
captures the count of its sample edge, a pin that the device drives brings no other level (that a command which says otherwise changes
nothing is the model's choice, log entry 86), and reading the capture clears
CAP_NEW. -/
def Obligations.ChronographEvents : Prop :=
  (∀ (s : State) (n : Fin 64), s.running → s.dev.chronos[n].running = true → s.dev.chronos[n].moved = true →
    (s.dev.chrEntry n).mode = 2 → s.dev.chronos[n].count = s.dev.rd48 (.chrTerm n) →
    ∃ d : Dev, exec (.chrTerminal n) s = .next { s with dev := d.settle } ∧ d.chronos[n].running = false ∧
      d.chronos[n].count = s.dev.chronos[n].count ∧ d.bit (.chrStatus n) 7 = true ∧
      ∀ m, m ≠ n → (∀ h, (m, h) ∉ s.dev.caps) → d.chronos[m] = s.dev.chronos[m]) ∧
  (∀ (s : State) (n : Fin 64), s.running → s.dev.chronos[n].moved = true → s.dev.chronos[n].armed = true →
    s.dev.chronos[n].count = s.dev.chrCompareAt n →
    ∃ d : Dev, exec (.chrMatch n) s = .next { s with dev := d.settle } ∧ d.bit (.chrStatus n) 6 = true ∧
      d.chronos[n].matched = true ∧ d.chronos[n].count = s.dev.chronos[n].count ∧
      (s.dev.chrPinOut n = true → s.dev.fld (.chrCtrl n) 18 2 = 1 ∨ s.dev.fld (.chrCtrl n) 18 2 = 2 →
        d.chronos[n].pinNext = s.dev.chronos[n].pinNext ++
          [(s.dev.clk.cycle + 2, decide (s.dev.fld (.chrCtrl n) 18 2 = 1))] ∧ d.chronos[n].pin = s.dev.chronos[n].pin) ∧
      (s.dev.rd48 (.chrCmpPeriod n) = 0 → d.chronos[n].armed = false) ∧
      (s.dev.rd48 (.chrCmpPeriod n) ≠ 0 → d.chronos[n].armed = true ∧
        d.rd48 (.chrCompare n) = s.dev.chrCompareAt n + s.dev.rd48 (.chrCmpPeriod n))) ∧
  (∀ (s : State) (n : Fin 64) (h : Bool), s.running → (s.dev.chrEntry n).capSrc < 0x40 →
    s.dev.chrPinOut (toFin 63 (s.dev.chrEntry n).capSrc) = false ∨ s.dev.drivenDue n = some h →
    ∃ d : Dev, exec (.capLevelAccept n h) s = .next { s with dev := d.settle } ∧ d.chronos[n].level = h ∧
      (s.dev.chronos[n].level ≠ h → s.dev.chronos[n].running = true → s.dev.chrOff n = false →
        s.dev.bit (.chrCtrl n) 7 = false → s.dev.fld (.chrCtrl n) 8 2 = 2 ∨ h = decide (s.dev.fld (.chrCtrl n) 8 2 = 0) →
        max 1 (s.dev.chrEntry n).edgeDiv ≤ s.dev.chronos[n].edges + 1 →
        d.rd48 (.chrCapture n) = s.dev.chrCountOn n (s.dev.clk.cycle - ((s.dev.chrEntry n).filter - 1)) ∧
          d.chronos[n].capNew = true ∧ d.chronos[n].edges = 0 ∧ d.bit (.chrStatus n) 5 = true)) ∧
  (∀ (s : State) (n : Fin 64) (h : Bool), s.running → (s.dev.chrEntry n).capSrc < 0x40 →
    s.dev.chrPinOut (toFin 63 (s.dev.chrEntry n).capSrc) = true → s.dev.drivenDue n ≠ some h →
    exec (.capLevelAccept n h) s = .next s) ∧
  (∀ (s : State) (p : Path) (n : Fin 64), s.quiet → s.dev.boot.phase ≠ .sleep →
    (p = .pcie → s.dev.boot.sleeping = false) → s.dev.portOpen p = true →
    ∃ d : Dev, exec (.chrCaptureLowRead p n) s = .next { s with dev := d } ∧
      d.chronos = s.dev.chronos.set n { s.dev.chronos[n] with capNew := false } ∧
      d.outputs = s.dev.outputs ++ [.busData p (s.dev.rd (.chrCapture n))] ∧
      d = { s.dev with chronos := d.chronos, outputs := d.outputs, latches := d.latches })

/-- RANGE_STAGE_OFF, RANGE_STAGE_ON and RANGE_DONE (R563 to R565, Table 14.3): the three timed steps of a range change.
OUT_FAULT_DETECT, OUT_FAULT_RELEASE and OUT_CMD_RESUME (R573 to R579, Tables 14.4 and 14.7): a fault sets its sticky bit
and its flag, a protective one takes the channel to FAULT, and the channel leaves FAULT for its clear code, or stays at high
impedance when its range is 0. That OUT_SENSE takes the measurement which comes with the fault, and that the target is the clear value
on leaving FAULT, are the model's choices (log entries 88 and 89). -/
def Obligations.RangesAndFaultsAct : Prop :=
  (∀ (s : State) (n : Fin 32) (r : Ranging), s.dev.outs[n].ranging = some r → r.step = 1 →
    ∃ d : Dev, exec (.rangeStageOff n) s = .next { s with dev := d } ∧
      ((s.dev.fieldEntry n).range = 0 → d.outs[n].state = .off ∧ d.outs[n].ranging = none) ∧
      ((s.dev.fieldEntry n).range ≠ 0 → d.outs[n] = { s.dev.outs[n] with
        range := (s.dev.fieldEntry n).range, refGain := (s.dev.fieldEntry n).refGain,
        ranging := some { r with step := 3 } }) ∧
      (∀ m, m ≠ n → d.outs[m] = s.dev.outs[m]) ∧ d = { s.dev with outs := d.outs }) ∧
  (∀ (s : State) (n : Fin 32) (r : Ranging), s.dev.outs[n].ranging = some r → r.step = 3 →
    exec (.rangeStageOn n) s = .next { s with dev := { s.dev with outs := s.dev.outs.set n { s.dev.outs[n] with
      range := (s.dev.fieldEntry n).range, refGain := (s.dev.fieldEntry n).refGain,
      target := (s.dev.fieldEntry n).safe, ranging := some { r with step := 5 } } } }) ∧
  (∀ (s : State) (n : Fin 32) (r : Ranging), s.dev.outs[n].ranging = some r → r.step = 5 →
    ∃ d : Dev, exec (.rangeDone n) s = .next { s with dev := d } ∧
      d.outs = s.dev.outs.set n { s.dev.outs[n] with
        state := (if s.dev.clearHeld (quadOf8 n.val) then .clear else .drive),
        target := (if s.dev.clearHeld (quadOf8 n.val) || !r.byApply then (s.dev.fieldEntry n).clear
          else (s.dev.fieldEntry n).safe),
        ranging := none } ∧ d = { s.dev with outs := d.outs, handed := d.handed }) ∧
  (∀ (s : State) (n : Fin 32) (f : OutFault) (sense : Word), s.dev.alive = true → s.dev.faultEvaluated n f = true →
    ∃ d : Dev, exec (.outFaultDetect n f sense) s = .next { s with dev := d } ∧ d.rd (.outSense n) = sense ∧
      d.bit (.outStatus n) (faultBit f) = true ∧
      (s.dev.protective n f = true → d.outs[n].state = .fault) ∧
      (s.dev.protective n f = false → d.outs[n] = s.dev.outs[n].setNow f true) ∧
      (∀ m, m ≠ n → d.outs[m] = s.dev.outs[m]) ∧ d = { s.dev with outs := d.outs, handed := d.handed, regs := d.regs }) ∧
  (∀ (s : State) (n : Fin 32) (f : OutFault),
    (f = .overvolt ∧ s.dev.outs[n].state = .fault ∧ s.dev.outs[n].byOvervolt = true ∧ s.dev.bit (.outCtrl n) 8 = true → False) →
    exec (.outFaultRelease n f) s = .next { s with dev := { s.dev with
      outs := s.dev.outs.set n (s.dev.outs[n].setNow f false) } }) ∧
  (∀ (s : State) (n : Fin 32), s.dev.outs[n].state = .fault → s.dev.outs[n].byOvervolt = true →
    s.dev.bit (.outCtrl n) 8 = true →
    ∃ d : Dev, exec (.outFaultRelease n .overvolt) s = .next { s with dev := d } ∧
      d.outs[n].state = (if (s.dev.fieldEntry n).range = 0 then .off
        else if s.dev.clearHeld (quadOf8 n.val) then .clear else .drive) ∧
      ((s.dev.fieldEntry n).range ≠ 0 → d.outs[n].target = (s.dev.fieldEntry n).clear) ∧
      d.outs[n].range = (s.dev.fieldEntry n).range ∧ d.outs[n].overvoltNow = false ∧
      (∀ m, m ≠ n → d.outs[m] = s.dev.outs[m]) ∧ d = { s.dev with outs := d.outs, handed := d.handed }) ∧
  (∀ (s : State) (p : Path) (n : Fin 32), s.takes p (.outCmd n) 2 → s.dev.outs[n].state = .fault →
    s.dev.unconfigured n = false → s.dev.outs[n].overvoltNow = false →
    ∃ d : Dev, exec (.outCmdResume p n) s = .next { s with dev := d.settle } ∧
      d.outs[n].state = (if (s.dev.fieldEntry n).range = 0 then .off
        else if s.dev.clearHeld (quadOf8 n.val) then .clear else .drive) ∧
      ((s.dev.fieldEntry n).range ≠ 0 → d.outs[n].target = (s.dev.fieldEntry n).clear) ∧
      d.outs[n].range = (s.dev.fieldEntry n).range ∧ (∀ m, m ≠ n → d.outs[m] = s.dev.outs[m]) ∧
      d = { s.dev with outs := d.outs, handed := d.handed, regs := d.regs })

/-- OUT_SAMPLE_EVENT, OUT_VALUE_WRITE, OUT_QPUSH and OUT_CMD_ABORT (R79, R547 to R549, R553 to R558, R562, R582): in
direct mode a value is driven at once; in queue mode values wait in order and a sample event drives the next; an abort
empties the queue. -/
def Obligations.OutputsDriveTheirValues : Prop :=
  (∀ (s : State) (n : Fin 32) (v : Int) (t : List Int), (s.dev.outEntry n).clkSrc = 0 → s.dev.outs[n].state = .drive →
    s.dev.outputsStopped = false → (s.dev.outEntry n).bind = none → s.dev.bit (.outCtrl n) 0 = true →
    s.dev.outs[n].queue = v :: t →
    ∃ d : Dev, exec (.outSampleEvent n) s = .next { s with dev := d } ∧
      d.outs = s.dev.outs.set n { s.dev.outs[n] with target := v, queue := t } ∧
      d = { s.dev with outs := d.outs, handed := d.handed }) ∧
  (∀ (s : State) (n : Fin 32) (v : Int), (s.dev.outEntry n).clkSrc = 0 → s.dev.outs[n].state = .drive →
    s.dev.outputsStopped = false → (s.dev.outEntry n).bind.isSome = true → s.dev.bit (.outCtrl n) 11 = false →
    s.dev.outs[n].pending = some v →
    exec (.outSampleEvent n) s = .next { s with dev := { s.dev with outs := s.dev.outs.set n { s.dev.outs[n] with
      target := v, pending := none } } }) ∧
  (∀ (s : State) (p : Path) (n : Fin 32) (w : Word), s.takes p (.outValue n) w → s.dev.unconfigured n = false →
    s.dev.inLimits n w.toInt = true → s.dev.bit (.outCtrl n) 0 = false → s.dev.valueBlocked n = false →
    (s.dev.outEntry n).bind = none →
    ∃ d : Dev, exec (.outValueWrite p n w) s = .next { s with dev := d.settle } ∧ d.rd (.outValue n) = w ∧
      (s.dev.outs[n].state = .drive ∨ s.dev.outs[n].state = .off →
        d.outs = s.dev.outs.set n { s.dev.outs[n] with target := w.toInt }) ∧
      (s.dev.outs[n].state = .ranging → d.outs = s.dev.outs) ∧ d = { s.dev with outs := d.outs, regs := d.regs }) ∧
  (∀ (s : State) (p : Path) (n : Fin 32) (w : Word), s.takes p (.outQpush n) w → s.dev.unconfigured n = false →
    s.dev.inLimits n w.toInt = true → s.dev.bit (.outCtrl n) 0 = true → s.dev.valueBlocked n = false →
    (s.dev.outEntry n).bind = none → s.dev.outs[n].queue.length < 64 →
    ∃ d : Dev, exec (.outQpush p n w) s = .next { s with dev := d.settle } ∧
      d.outs = s.dev.outs.set n { s.dev.outs[n] with queue := s.dev.outs[n].queue ++ [w.toInt], dry := false } ∧
      d = { s.dev with outs := d.outs, regs := d.regs }) ∧
  (∀ (s : State) (p : Path) (n : Fin 32), s.takes p (.outCmd n) 1 → s.dev.bit (.outCtrl n) 0 = true →
    (s.dev.outEntry n).bind = none → s.dev.unconfigured n = false →
    ∃ d : Dev, exec (.outCmdAbort p n) s = .next { s with dev := d.settle } ∧ d.outs[n].queue = [] ∧
      (s.dev.outs[n].queue = [] → d.outs[n].abortResult = Code.alreadyDone.num ∧
        d.outs[n].target = s.dev.outs[n].target) ∧
      (s.dev.outs[n].queue ≠ [] → d.outs[n].abortResult = 0 ∧ d.outs[n].target =
        if s.dev.bit (.outCtrl n) 9 then (s.dev.outEntry n).safe else s.dev.outs[n].target) ∧
      (∀ m, m ≠ n → d.outs[m] = s.dev.outs[m]) ∧ d = { s.dev with outs := d.outs, handed := d.handed, regs := d.regs })

/-- CLR_N_ASSERT, CLR_N_RELEASE, OUT_QCLR_FORCE_WRITE and OUT_QCLR_TRIP_CLEAR (R567 to R572): a driving channel of the
quadrant goes to its clear code with its queue discarded, and the channels of a quadrant drive again once its last
source has gone; other quadrants keep their outputs. -/
def Obligations.ClearsReachTheirQuadrant : Prop :=
  (∀ (s : State) (q : Fin 4), s.dev.alive = true →
    ∃ d : Dev, exec (.clrNAssert q) s = .next { s with dev := d } ∧
      d.quads = s.dev.quads.set q { s.dev.quads[q] with clrLow := true } ∧
      (∀ n ∈ outsOf q, s.dev.outs[n].state = .drive → d.outs[n].state = .clear ∧ d.outs[n].queue = [] ∧
        d.outs[n].target = (s.dev.fieldEntry n).clear) ∧
      (∀ n, n ∉ outsOf q → d.outs[n] = s.dev.outs[n]) ∧
      d = { s.dev with quads := d.quads, outs := d.outs, handed := d.handed }) ∧
  (∀ (s : State) (q : Fin 4), s.dev.alive = true →
    ∃ d : Dev, exec (.clrNRelease q) s = .next { s with dev := d } ∧
      d.quads = s.dev.quads.set q { s.dev.quads[q] with clrLow := false } ∧
      (∀ n ∈ outsOf q, s.dev.outs[n].state = .clear → d.outs[n].state =
        if s.dev.bit .outQclrTrip q.val || s.dev.bit .outQclrForce q.val then .clear else .drive) ∧
      (∀ n, n ∉ outsOf q → d.outs[n] = s.dev.outs[n]) ∧
      d = { s.dev with quads := d.quads, outs := d.outs, handed := d.handed }) ∧
  (∀ (s : State) (p : Path) (w : Word), s.takes p .outQclrForce w →
    ∃ d : Dev, exec (.outQclrForceWrite p w) s = .next { s with dev := d.settle } ∧ d.rd .outQclrForce = w ∧
      (∀ q : Fin 4, Machine.bit w q.val = true → s.dev.bit .outQclrForce q.val = false →
        ∀ n ∈ outsOf q, s.dev.outs[n].state = .drive → d.outs[n].state = .clear) ∧
      (∀ q : Fin 4, Machine.bit w q.val = s.dev.bit .outQclrForce q.val → ∀ n ∈ outsOf q, d.outs[n] = s.dev.outs[n]) ∧
      d = { s.dev with outs := d.outs, handed := d.handed, regs := d.regs }) ∧
  (∀ (s : State) (p : Path) (w : Word), s.takes p .outQclrTrip w →
    ∃ d : Dev, exec (.outQclrTripClear p w) s = .next { s with dev := d.settle } ∧
      d.rd .outQclrTrip = s.dev.rd .outQclrTrip &&& ~~~w ∧
      (∀ q : Fin 4, s.dev.bit .outQclrTrip q.val = true → Machine.bit w q.val = true → s.dev.quads[q].clrLow = false →
        s.dev.bit .outQclrForce q.val = false → ∀ n ∈ outsOf q, s.dev.outs[n].state = .clear → d.outs[n].state = .drive) ∧
      d = { s.dev with outs := d.outs, handed := d.handed, regs := d.regs })

/-- The trip comparators (R590 to R592, R597, R602, Table 15.3): a value presented is taken up two edges later; a comparator
trips at its persistence, with its record then and its actions on the next edge, and returns inside the band. TRIP_HELD_CLEAR
(R599). -/
def Obligations.ComparatorsTripAndReturn : Prop :=
  (∀ (d : Dev) (i : Fin 64) (bytes : List Byte) (gen : Byte) (v : Ratio), d.cmps[i].entry = bytes →
    d.cmps[i].tripped = false → ((d.presentTo i bytes gen v).rd (.cmpLast i) = ratioLo v ∧
      (sideOf (tripFields bytes) v.toInt = .none → (d.presentTo i bytes gen v).cmps[i].tripped = false ∧
        (d.presentTo i bytes gen v).cmps[i].count = 0) ∧
      (sideOf (tripFields bytes) v.toInt ≠ .none → d.cmps[i].count + 1 < (tripFields bytes).persist →
        (d.presentTo i bytes gen v).cmps[i].tripped = false ∧
          (d.presentTo i bytes gen v).cmps[i].count = d.cmps[i].count + 1) ∧
      (sideOf (tripFields bytes) v.toInt ≠ .none → (tripFields bytes).persist ≤ d.cmps[i].count + 1 →
        (d.presentTo i bytes gen v).cmps[i].tripped = true ∧
          (d.presentTo i bytes gen v).cmps[i].side = sideOf (tripFields bytes) v.toInt ∧
          (d.clk.cycle + 1, .act i bytes) ∈ (d.presentTo i bytes gen v).tripJobs ∧
          (d.bit .tripCfg 27 = true → ∃ r ∈ (d.presentTo i bytes gen v).handed, r.idx = i.val ∧
            Machine.fld r.w5 24 8 = (sideOf (tripFields bytes) v.toInt).cause ∧ r.w6 = ratioLo v)))) ∧
  (∀ (d : Dev) (b : Fin 2176) (red old : Bool) (gen : Byte) (v : Ratio) (i : Fin 64), v ≠ voidRatio →
    (tripFields (entryOf (d.bankOf old).trip i.val)).en = true →
    (tripFields (entryOf (d.bankOf old).trip i.val)).bridge = b.val →
    (tripFields (entryOf (d.bankOf old).trip i.val)).reduced = red →
    (d.clk.cycle + 2, .value i (entryOf (d.bankOf old).trip i.val) gen v) ∈ (d.present b red gen old v).tripJobs ∧
      d.present b red gen old v = { d with tripJobs := (d.present b red gen old v).tripJobs }) ∧
  (∀ (d : Dev) (i : Fin 64) (bytes : List Byte), (tripFields bytes).actions % 2 = 1 →
    (d.tripJob (.act i bytes)).cmps[i].hold = some (tripFields bytes).pin) ∧
  (∀ (d : Dev) (i : Fin 64) (bytes : List Byte) (gen : Byte) (v : Ratio), d.cmps[i].entry = bytes →
    d.cmps[i].tripped = true → (d.presentTo i bytes gen v).cmps[i].tripped = !inBand (tripFields bytes) v.toInt) ∧
  (∀ (s : State) (p : Path) (w : Word), s.takes p .tripHeld w →
    ∃ d : Dev, exec (.tripHeldClear p w) s = .next { s with dev := d.settle } ∧
      (∀ k : Fin 8, d.bit .tripHeld (8 + k.val) = (s.dev.bit .tripHeld (8 + k.val) && !Machine.bit w (8 + k.val))) ∧
      (∀ k : Fin 8, Machine.bit w k.val = true → s.dev.cmpHolds k = false →
        (s.dev.bit .tripHeld (8 + k.val) && !Machine.bit w (8 + k.val)) = false → d.bit .tripHeld k.val = false) ∧
      (∀ k : Fin 8, s.dev.cmpHolds k = true → s.dev.bit .tripCfg (8 + k.val) = true → d.bit .tripHeld k.val = true) ∧
      d = { s.dev with regs := d.regs, events := d.events })

/-- REGISTER_WRITE, HIGH_HALF_STAGE, RL_LOW_READ and REJECT_LOG_WRITE (R26 to R28, R613, R616 to R622): a whole-word
write is the write of the register at its offset; a request that covers both halves of a two-half register stages the high half
before it commits the low one (R614); a high half waits in its path's staging word; the low half of a latched register goes out
and freezes its high half for that path; words of the vault window go out in order; a request that no BAR takes completes with
one Unsupported Request, whatever its length (R144); VALID is cleared by writing 1. -/
def Obligations.RegisterAccesses : Prop :=
  (∀ (s : State) (p : Path) (r : Reg) (off : BitVec 22) (w : Word), off.toNat = r.offset →
    exec (.registerWrite p off (0xF, w) []) s = writeRow s p r w) ∧
  (∀ (s : State) (p : Path) (r : Reg) (off : BitVec 22) (lo hi : Word), s.quiet → s.dev.boot.phase ≠ .sleep →
    (p = .pcie → s.dev.boot.sleeping = false) → s.dev.portOpen p = true → off.toNat = r.offset → r.offset % 8 = 0 →
    r.wide = true → r.access = .rw ∨ r.access = .wo → s.dev.gate p r (r.offset + 4) = .ok → hi &&& r.reservedHi = 0 →
    ∃ d : Dev, exec (.highHalfStage p (off + 4) hi) s = .next { s with dev := d } ∧
      exec (.registerWrite p off (0xF, lo) [(0xF, hi)]) s = exec (.registerWrite p off (0xF, lo) []) { s with dev := d }) ∧
  (∀ (s : State) (p : Path) (k : Fin 256) (i : Fin 16) (off : BitVec 22) (w : Word),
    off.toNat = (Reg.template k i).offset → s.takes p (.template k i) w →
    ∃ d : Dev, exec (.registerWrite p off (0xF, w) []) s = .next { s with dev := d.settle } ∧ d.rd (.template k i) = w ∧
      d = { s.dev with regs := d.regs }) ∧
  (∀ (s : State) (p : Path) (off : BitVec 22) (w : Word) (r : Reg) (slot : Nat), s.quiet → s.dev.boot.phase ≠ .sleep →
    (p = .pcie → s.dev.boot.sleeping = false) →
    s.dev.portOpen p = true → s.dev.msixWord off.toNat = none → Reg.ofOffset off.toNat = some (r, true) →
    r.wide = true → r.access = .rw ∨ r.access = .wo → s.dev.gate p r off.toNat = .ok → w &&& r.reservedHi = 0 →
    pathSlot p = some slot →
    ∃ d : Dev, exec (.highHalfStage p off w) s = .next { s with dev := d } ∧ d.stagedHi p r = w ∧
      d = { s.dev with staging := d.staging, regs := d.regs }) ∧
  (∀ (s : State) (p : Path) (off : BitVec 22) (r : Reg) (slot : Nat), s.quiet → s.dev.boot.phase ≠ .sleep →
    (p = .pcie → s.dev.boot.sleeping = false) →
    s.dev.portOpen p = true → s.dev.msixWord off.toNat = none → Reg.ofOffset off.toNat = some (r, false) →
    r.isRL = true → pathSlot p = some slot →
    ∃ d : Dev, exec (.rlLowRead p ⟨false, off, 1⟩) s = .next { s with dev := d } ∧
      d.outputs = s.dev.outputs ++ [.busData p (s.dev.readLo r)] ∧
      tget r.resetHi d.latches (halfKey r slot) = s.dev.readHi r ∧ d.regs = s.dev.regs ∧ d.boot = s.dev.boot) ∧
  (∀ (s : State) (p : Path) (off : BitVec 22) (n : Nat), s.quiet → s.dev.boot.phase ≠ .sleep →
    (p = .pcie → s.dev.boot.sleeping = false) → s.dev.bar2Open p = true →
    ∃ l : List Output, l = (List.range n).map (fun i => .busData p (s.dev.bar2Word s.nv (off.toNat + 4 * i))) ∧
      exec (.rlLowRead p ⟨true, off, n⟩) s = .next { s with dev := { s.dev with outputs := s.dev.outputs ++ l } }) ∧
  (∀ (s : State) (off : BitVec 22) (n : Nat) (w : BitVec 4 × Word) (ws : List (BitVec 4 × Word)), s.quiet → s.dev.alive = true →
    s.dev.boot.phase ≠ .sleep → s.dev.boot.sleeping = false → s.dev.boot.perstHigh = true →
    (s.dev.portOpen .pcie = false →
      exec (.registerWrite .pcie off w ws) s = .next { s with dev := { s.dev with outputs := s.dev.outputs ++ [.unsupported] } } ∧
      exec (.rlLowRead .pcie ⟨false, off, n⟩) s =
        .next { s with dev := { s.dev with outputs := s.dev.outputs ++ [.unsupported] } }) ∧
    (s.dev.bar2Open .pcie = false → exec (.rlLowRead .pcie ⟨true, off, n⟩) s =
      .next { s with dev := { s.dev with outputs := s.dev.outputs ++ [.unsupported] } })) ∧
  (∀ (s : State) (p : Path) (w : Word), s.quiet → s.dev.boot.phase ≠ .sleep →
    (p = .pcie → s.dev.boot.sleeping = false) → s.dev.portOpen p = true →
    Machine.bit w 31 = true →
    ∃ d : Dev, exec (.rejectLogWrite p w) s = .next { s with dev := d } ∧ d.rd .rejectLog = 0 ∧ d.rd .rejectOffset = 0 ∧
      d.rd .rejectValue = 0 ∧ d.rd .rejectValueHi = 0 ∧ d = { s.dev with regs := d.regs })

/-- Refused writes (R14, R16, R613, R621, R624, R805): a write that no register takes, that is misaligned, that sets a reserved bit, or that
enables only some bytes, changes nothing but the log of rejections, whose first entry holds its code, its offset and its
word; BAR2_WRITE (R611) is refused with STATE. -/
def Obligations.RefusedWritesAreLogged : Prop :=
  (∀ (s : State) (off : BitVec 22) (w : Word), s.quiet → s.dev.boot.phase = .run → s.dev.boot.sleeping = false →
    s.dev.portOpen .pcie = true → s.dev.bit .rejectLog 31 = false → s.dev.bit .hostIntCtrl 0 = false →
    s.dev.msixWord off.toNat = none → Reg.ofOffset off.toNat = none →
    ∃ d : Dev, exec (.registerWrite .pcie off (0xF, w) []) s = .next { s with dev := d } ∧ d.bit .rejectLog 31 = true ∧
      d.fld .rejectLog 0 8 = (if off.toNat % 4 = 0 then Code.notPresent.num else Code.align.num) ∧ d.rd .rejectOffset = off.setWidth 32 ∧ d.rd .rejectValue = w ∧
      (∀ q : Reg, q.offset ≠ Reg.offset .rejectLog → q.offset ≠ Reg.offset .rejectOffset →
        q.offset ≠ Reg.offset .rejectValue → q.offset ≠ Reg.offset .rejectValueHi → d.rd q = s.dev.rd q) ∧
      d = { s.dev with regs := d.regs }) ∧
  (∀ (s : State) (k : Fin 256) (i : Fin 16) (off : BitVec 22) (be : BitVec 4) (w : Word), s.quiet →
    s.dev.boot.phase = .run → s.dev.boot.sleeping = false → s.dev.portOpen .pcie = true → s.dev.bit .rejectLog 31 = false →
    s.dev.bit .hostIntCtrl 0 = false → off.toNat = (Reg.template k i).offset → be ≠ 0xF →
    w &&& (Reg.template k i).reservedLo = 0 →
    ∃ d : Dev, exec (.registerWrite .pcie off (be, w) []) s = .next { s with dev := d } ∧
      d.fld .rejectLog 0 8 = Code.align.num ∧ d.rd (.template k i) = s.dev.rd (.template k i) ∧
      d = { s.dev with regs := d.regs }) ∧
  (∀ (s : State) (off : BitVec 20) (w : Word), s.quiet → s.dev.boot.phase ≠ .sleep → s.dev.boot.sleeping = false →
    s.dev.alive = true →
    s.dev.boot.perstHigh = true → s.dev.boot.memSpace = true → s.dev.boot.bar2.isSome = true →
    s.dev.bit .rejectLog 31 = false → s.dev.bit .hostIntCtrl 0 = false →
    ∃ d : Dev, exec (.bar2Write .pcie off w) s = .next { s with dev := d } ∧ d.fld .rejectLog 0 8 = Code.state.num ∧
      d.rd .rejectOffset = off.setWidth 32 ∧ d.rd .rejectValue = w ∧ d = { s.dev with regs := d.regs }) ∧
  (∀ (s : State) (off : BitVec 22) (w : Word) (r : Reg), s.quiet → s.dev.boot.phase ≠ .sleep →
    s.dev.boot.sleeping = false → s.dev.portOpen .pcie = true → s.dev.bit .rejectLog 31 = false → s.dev.bit .hostIntCtrl 0 = false →
    s.dev.msixWord off.toNat = none → Reg.ofOffset off.toNat = some (r, false) → r.wide = false → r.access ≠ .ro →
    r ≠ .rejectLog → w &&& r.reservedLo ≠ 0 →
    ∃ d : Dev, exec (.registerWrite .pcie off (0xF, w) []) s = .next { s with dev := d } ∧ d.bit .rejectLog 31 = true ∧
      d.fld .rejectLog 0 8 ≠ 0 ∧ d.rd .rejectValue = w ∧
      (∀ q : Reg, q.offset ≠ Reg.offset .rejectLog → q.offset ≠ Reg.offset .rejectOffset →
        q.offset ≠ Reg.offset .rejectValue → q.offset ≠ Reg.offset .rejectValueHi → d.rd q = s.dev.rd q) ∧
      d = { s.dev with regs := d.regs })

/-- Q_CTRL_ENABLE, Q_CTRL_DISABLE, Q_DOORBELL, ENTRY_FETCH_DONE, QUEUE_FETCH_ERROR and Q_HEAD_WRITEBACK (R627 to R634):
a queue starts empty, takes its tail and asks for the entry at its head, takes its entries in order, and writes its head back
unless Q_HEAD_WB is 0; a failed fetch stops it. The model's choices are: one fetch is outstanding at a time, so that a doorbell brings
one host read; a failed fetch that outlived a disabling of its queue, or waits behind fetched entries when the queue is disabled, is
told at once (log entry 27); and a write that would enable a queue while PERST_N is low leaves it disabled (log entry 129). -/
def Obligations.QueuesRun : Prop :=
  (∀ (s : State) (p : Path) (k : Fin 8) (w : Word), s.takes p (.qCtrl k) (w ||| mkBit true 31) →
    s.dev.queueOn k = false → 4 ≤ Machine.fld w 0 4 → Machine.fld w 0 4 ≤ 12 → s.dev.boot.perstHigh = false →
    ∃ d : Dev, exec (.qCtrlEnable p k w) s = .next { s with dev := d.settle } ∧ d.queueOn k = false ∧
      d = { s.dev with regs := d.regs }) ∧
  (∀ (s : State) (p : Path) (k : Fin 8) (w : Word), s.takes p (.qCtrl k) (w ||| mkBit true 31) →
    s.dev.queueOn k = false → 4 ≤ Machine.fld w 0 4 → Machine.fld w 0 4 ≤ 12 → s.dev.boot.perstHigh = true →
    ∃ d : Dev, exec (.qCtrlEnable p k w) s = .next { s with dev := d.settle } ∧ d.rd (.qCtrl k) = w ||| mkBit true 31 ∧
      d.queues = s.dev.queues.set k { s.dev.queues[k].stopped with head := 0, tail := 0 } ∧
      d = { s.dev with queues := d.queues, regs := d.regs }) ∧
  (∀ (s : State) (p : Path) (k : Fin 8) (w : Word), s.takes p (.qCtrl k) (w &&& ~~~(mkBit true 31)) →
    s.dev.queueOn k = true → 4 ≤ Machine.fld w 0 4 → Machine.fld w 0 4 ≤ 12 →
    Machine.fld w 0 4 = s.dev.fld (.qCtrl k) 0 4 → Machine.fld w 16 4 = s.dev.fld (.qCtrl k) 16 4 →
    ∃ d : Dev, exec (.qCtrlDisable p k w) s = .next { s with dev := d.settle } ∧ d.queueOn k = false ∧
      d.queues = s.dev.queues.set k s.dev.queues[k].stopped ∧
      (s.dev.queues[k].failed = true → d.bit (.qStatus k) 30 = true) ∧
      (s.dev.queues[k].failed = false → d.outputs = s.dev.outputs ∧ d.boot = s.dev.boot) ∧
      d = { s.dev with
        queues := d.queues, regs := d.regs, outputs := d.outputs, boot := { s.dev.boot with msixPending := d.boot.msixPending } }) ∧
  (∀ (s : State) (p : Path) (k : Fin 8) (w : Word), s.takes p (.qDoorbell k) w → s.dev.queueOn k = true →
    Machine.fld w 0 12 < s.dev.queueSize k →
    ∃ d : Dev, exec (.qDoorbell p k w) s = .next { s with dev := d.settle } ∧ d.queues[k].tail = Machine.fld w 0 12 ∧
      d.queues[k].head = s.dev.queues[k].head ∧ d.queues[k].fetched = s.dev.queues[k].fetched ∧
      (s.dev.canMaster = true → s.dev.queues[k].fetching = false → s.dev.queues[k].failed = false →
        s.dev.queues[k].fetched = [] → s.dev.queues[k].head < s.dev.queueSize k →
        Machine.fld w 0 12 ≠ s.dev.queues[k].head → d.queues[k].fetching = true ∧
          d.outputs = s.dev.outputs ++ [.hostRead (s.dev.rd64 (.qBase k) + 64 * s.dev.queues[k].head) 64]) ∧
      (∀ j, j ≠ k → d.queues[j] = s.dev.queues[j]) ∧
      d = { s.dev with queues := d.queues, regs := d.regs, outputs := d.outputs }) ∧
  (∀ (s : State) (k : Fin 8) (bs : List Byte), s.quiet → s.dev.alive = true → s.dev.queues[k].fetching = true →
    s.dev.queues[k].stale = false →
    ∃ d : Dev, exec (.entryFetchDone k bs) s = .next { s with dev := d } ∧
      d.queues[k].fetched = s.dev.queues[k].fetched ++ [bs] ∧ d.queues[k].head = s.dev.queues[k].head ∧
      (∀ j, j ≠ k → d.queues[j] = s.dev.queues[j]) ∧ d = { s.dev with queues := d.queues, outputs := d.outputs }) ∧
  (∀ (s : State) (k : Fin 8), s.quiet → s.dev.alive = true → s.dev.queues[k].fetching = true →
    s.dev.queues[k].stale = false → s.dev.queues[k].fetched = [] → s.dev.bit (.qCtrl k) 7 = false →
    ∃ d : Dev, exec (.queueFetchError k) s = .next { s with dev := d } ∧ d.queueOn k = false ∧
      d.bit (.qStatus k) 30 = true ∧ d.queues[k].fetching = false ∧ (∀ j, j ≠ k → d.queues[j] = s.dev.queues[j]) ∧
      d = { s.dev with queues := d.queues, regs := d.regs }) ∧
  (∀ (s : State) (k : Fin 8), s.quiet → s.dev.alive = true → s.dev.queues[k].fetching = true →
    s.dev.queues[k].stale = true → s.dev.bit (.qCtrl k) 7 = false →
    ∃ d : Dev, exec (.queueFetchError k) s = .next { s with dev := d } ∧ d.queueOn k = false ∧
      d.bit (.qStatus k) 30 = true ∧ d.queues[k].fetching = false ∧ (∀ j, j ≠ k → d.queues[j] = s.dev.queues[j]) ∧
      d = { s.dev with queues := d.queues, regs := d.regs }) ∧
  (∀ (s : State) (k : Fin 8), s.running → s.dev.queues[k].owed = true → s.dev.canMaster = true →
    s.dev.rd64 (.qHeadWb k) ≠ 0 →
    exec (.qHeadWriteback k) s = .next { s with dev := { s.dev with
      outputs := s.dev.outputs ++ [.hostWrite (s.dev.rd64 (.qHeadWb k)) [at_ s.dev.queues[k].head 0]]
      queues := s.dev.queues.set k { s.dev.queues[k] with owed := false } } }) ∧
  (∀ (s : State) (k : Fin 8), s.running → s.dev.rd64 (.qHeadWb k) = 0 →
    exec (.qHeadWriteback k) s = .next { s with dev := { s.dev with
      queues := s.dev.queues.set k { s.dev.queues[k] with owed := false } } })

/-- NOP, MARK, REG_WRITE, REG_READ and BAD_OPCODE (R636 to R641, R685, R686): an entry is consumed once, its COMPLETION
carries its code and its words, a MARK comes to wait at the logbooks it names, and a register is written or read as on
any other path. -/
def Obligations.EntriesAreProcessed : Prop :=
  (∀ (s : State) (k : Fin 8) (bs : List Byte) (rest : List (List Byte)), s.running →
    s.dev.queues[k].fetched = bs :: rest → byteAt bs 0 = 0x01 → entryReserved bs [(0, 1), (4, 4)] = false →
    ∃ d : Dev, exec (.nop k) s = .next { s with dev := d } ∧ d.queues[k].fetched = rest ∧
      d.queues[k].head = (s.dev.queues[k].head + 1) % s.dev.queueSize k ∧
      (∃ r ∈ d.handed, r.kind = 0x03 ∧ r.idx = k.val ∧ Machine.fld r.w5 24 8 = 0 ∧ r.w7 = wordAt bs 4) ∧
      d.pool = s.dev.pool ∧ d.lanes = s.dev.lanes) ∧
  (∀ (s : State) (k : Fin 8) (bs : List Byte) (rest : List (List Byte)), s.running →
    s.dev.queues[k].fetched = bs :: rest → byteAt bs 0 = 0x12 → field bs 2 2 ≠ 0 → entryReserved bs [(0, 8)] = false →
    byteAt bs 1 < 2 → s.dev.boot.phase ≠ .safe → s.dev.apply.phase = .idle →
    ∃ d : Dev, exec (.mark k) s = .next { s with dev := d.settle } ∧ d.marks = s.dev.marks + 1 ∧
      d.queues[k].fetched = rest ∧
      (∀ b : Fin 16, field bs 2 2 / 2 ^ b.val % 2 = 1 → s.dev.logs[b].waiting = [] →
        ∃ r, d.logs[b].waiting = [.mark s.dev.marks k r .waits] ∧ r.kind = 0x04 ∧ r.log = b ∧ r.w5 = wordAt bs 4) ∧
      (∀ b : Fin 16, field bs 2 2 / 2 ^ b.val % 2 = 0 → d.logs[b].waiting = s.dev.logs[b].waiting)) ∧
  (∀ (s : State) (k : Fin 8) (bs : List Byte) (rest : List (List Byte)) (t : Fin 256) (i : Fin 16), s.running →
    s.dev.queues[k].fetched = bs :: rest → byteAt bs 0 = 0x20 → byteAt bs 1 = 0 →
    field bs 4 4 = (Reg.template t i).offset → wordAt bs 12 = 0 → regForm bs false [(0, 2), (4, 16)] = .ok →
    s.dev.gate (.queue k) (.template t i) (Reg.template t i).offset = .ok →
    wordAt bs 8 &&& (Reg.template t i).reservedLo = 0 →
    ∃ d : Dev, exec (.regWrite k) s = .next { s with dev := d } ∧ d.rd (.template t i) = wordAt bs 8 ∧
      d.queues[k].fetched = rest ∧
      ∃ r ∈ d.handed, r.kind = 0x03 ∧ Machine.fld r.w5 24 8 = 0 ∧ r.w7 = wordAt bs 0x10) ∧
  (∀ (s : State) (k : Fin 8) (bs : List Byte) (rest : List (List Byte)) (r : Reg), s.running →
    s.dev.queues[k].fetched = bs :: rest → byteAt bs 0 = 0x21 → byteAt bs 1 = 0 →
    Reg.ofOffset (field bs 4 4) = some (r, false) → s.dev.msixWord (field bs 4 4) = none →
    regForm bs false [(0, 2), (4, 4), (0x10, 4)] = .ok →
    ∃ d : Dev, exec (.regRead k) s = .next { s with dev := d } ∧ d.queues[k].fetched = rest ∧
      ∃ c ∈ d.handed, c.kind = 0x03 ∧ Machine.fld c.w5 24 8 = 0 ∧ c.w6 = s.dev.readLo r) ∧
  (∀ (s : State) (k : Fin 8) (bs : List Byte) (rest : List (List Byte)), s.running →
    s.dev.queues[k].fetched = bs :: rest → byteAt bs 0 ∉ opcodes →
    ∃ d : Dev, exec (.badOpcode k) s = .next { s with dev := d } ∧ d.queues[k].fetched = rest ∧
      (∃ r ∈ d.handed, r.kind = 0x03 ∧ Machine.fld r.w5 24 8 = Code.badOpcode.num) ∧ d.pool = s.dev.pool ∧
      d.lanes = s.dev.lanes)

/-- SPI_WRITE_INC, SPI_WRITE_FIX, SPI_READ_INC, SPI_READ_FIX, SPI_STATUS_CMD, SPI_BAD_CMD and SPI_CS_RISE (R643 to
R649): frames of the service port in RUN. Written words land at rising offsets or at one, as many words come back as
were clocked, behind 0x00 bytes and the token, which is among the first 16 bytes unless CCLK runs from the low-power oscillator (how
many 0x00 bytes there are is free, log entry 2), and SPI_STATUS counts, reports and flags. -/
def Obligations.ServicePortFrames : Prop :=
  (∀ (s : State) (a : BitVec 24) (k : Fin 256) (i j : Fin 16) (w x : Word), s.quiet → s.dev.boot.phase = .run →
    s.dev.boot.sleeping = false → s.dev.fuse 64 12 1 = 0 → s.dev.spiHeld = none → j.val = i.val + 1 →
    a.toNat = (Reg.template k i).offset → w &&& (Reg.template k i).reservedLo = 0 → x &&& (Reg.template k j).reservedLo = 0 →
    ∃ d : Dev, exec (.spiWriteInc a [w, x]) s = .next { s with dev := d } ∧ d.rd (.template k i) = w ∧
      d.rd (.template k j) = x ∧ d.fld .spiStatus 0 16 = 2 ∧ d = { s.dev with regs := d.regs }) ∧
  (∀ (s : State) (a : BitVec 24) (k : Fin 256) (i : Fin 16) (ws : List Word) (w : Word), s.quiet →
    s.dev.boot.phase = .run → s.dev.boot.sleeping = false → s.dev.fuse 64 12 1 = 0 → s.dev.spiHeld = none →
    a.toNat = (Reg.template k i).offset → (∀ x ∈ ws ++ [w], x &&& (Reg.template k i).reservedLo = 0) →
    ∃ d : Dev, exec (.spiWriteFix a (ws ++ [w])) s = .next { s with dev := d } ∧ d.rd (.template k i) = w ∧
      d.fld .spiStatus 0 16 = min (ws.length + 1) 0xFFFF ∧ d = { s.dev with regs := d.regs }) ∧
  (∀ (s : State) (a : BitVec 24) (n : Nat), s.quiet → s.dev.boot.phase = .run → s.dev.boot.sleeping = false →
    s.dev.spiHeld = none → ∃ (d : Dev) (z : Nat) (ws : List Word), exec (.spiReadInc a n) s = .next { s with dev := d } ∧
      ws.length = n ∧ d.outputs = s.dev.outputs ++ [.spiReply z (spiBytes ws)] ∧ (s.dev.clk.now ≠ .lpo → z < 16) ∧
      d.pool = s.dev.pool ∧ d.boot = s.dev.boot) ∧
  (∀ (s : State) (a : BitVec 24) (k : Fin 256) (i : Fin 16), s.quiet → s.dev.boot.phase = .run →
    s.dev.boot.sleeping = false → s.dev.spiHeld = none → a.toNat = (Reg.template k i).offset →
    ∃ (d : Dev) (z : Nat), exec (.spiReadFix a 1) s = .next { s with dev := d } ∧
      d.outputs = s.dev.outputs ++ [.spiReply z (0xA5 :: (leBytes 4 (s.dev.rd (.template k i)).toNat).reverse)] ∧
      (s.dev.clk.now ≠ .lpo → z < 16) ∧ d = { s.dev with regs := d.regs, outputs := d.outputs, free := d.free }) ∧
  (∀ s : State, s.quiet → s.dev.boot.phase = .run → s.dev.boot.sleeping = false → s.dev.spiHeld = none →
    ∃ z f : Nat, (s.dev.clk.now ≠ .lpo → z < 16) ∧ exec .spiStatusCmd s = .next { s with dev := { s.dev with
      outputs := s.dev.outputs ++ [.spiReply z (0xA5 :: (leBytes 4 (s.dev.rd .spiStatus).toNat).reverse)], free := f } }) ∧
  (∀ (s : State) (c : Byte), s.quiet → s.dev.boot.phase = .run → s.dev.boot.sleeping = false → s.dev.spiHeld = none →
    spiListed c = false → exec (.spiBadCmd c) s = .next { s with dev := s.dev.wr .spiStatus (mkBit true 29) }) ∧
  (∀ (s : State) (cut : Bool), s.quiet → s.dev.boot.phase = .run → s.dev.spiHeld = none →
    exec (.spiCsRise cut) s = .next { s with
      dev := if cut then s.dev.setBits .spiStatus (mkBit true 30) else s.dev })

/-- MSIX_SEND and CONFIGURATION_REQUEST (R142 to R144, R606, R609, R610, R625, R626): a pending message leaves once its
vector is open, behind the tail write-backs that its logbooks still owe (R659); a configuration request meets CRS while the boot loads, and reads or writes its field otherwise (where the fields
stand in configuration space is the model's choice, log entry 3, and the bits that Table 16.1 does not give are free). -/
def Obligations.EndpointAnswers : Prop :=
  (∀ (s : State) (v : Fin 64), s.quiet → s.dev.alive = true → s.dev.boot.msixPending.getLsbD v.val = true →
    s.dev.canMaster = true → s.dev.vectorOpen v = true →
    ∃ (d : Dev) (l : List Output), exec (.msixSend v) s = .next { s with dev := d } ∧
      d.outputs = s.dev.outputs ++ l ++ [.msix v] ∧
      d.boot = { s.dev.boot with msixPending := s.dev.boot.msixPending &&& ~~~(1#64 <<< v.val) } ∧
      (∀ b : Fin 16, d.logs[b] = if s.dev.vecOf (.lbCtrl b) = v then { s.dev.logs[b] with owed := false } else s.dev.logs[b]) ∧
      (∀ b : Fin 16, s.dev.vecOf (.lbCtrl b) = v → s.dev.logs[b].owed = true → s.dev.rd64 (.lbTailWb b) ≠ 0 →
        .hostWrite (s.dev.rd64 (.lbTailWb b)) [at_ s.dev.logs[b].tail 0, s.dev.logs[b].lastSeq] ∈ l) ∧
      ((∀ b : Fin 16, s.dev.vecOf (.lbCtrl b) = v → s.dev.logs[b].owed = false) → l = []) ∧
      d = { s.dev with boot := d.boot, logs := d.logs, outputs := d.outputs }) ∧
  (∀ (s : State) (r : CfgRequest), s.quiet → s.dev.alive = true → s.dev.boot.phase ≠ .sleep →
    s.dev.boot.sleeping = false → s.dev.boot.perstHigh = true → s.dev.boot.linkUp = true → s.dev.answersCrs = true →
    exec (.configurationRequest r) s = .next { s with dev := { s.dev with outputs := s.dev.outputs ++ [.cfgCrs] } }) ∧
  (∀ s : State, s.quiet → s.dev.alive = true → s.dev.boot.phase ≠ .sleep → s.dev.boot.sleeping = false →
    s.dev.boot.perstHigh = true → s.dev.boot.linkUp = true → s.dev.answersCrs = false →
    (∀ n, ∃ (w : Word) (f : Nat), w &&& (s.dev.cfgDword n).2 = (s.dev.cfgDword n).1 &&& (s.dev.cfgDword n).2 ∧
      exec (.configurationRequest (.read n)) s =
        .next { s with dev := { s.dev with outputs := s.dev.outputs ++ [.cfgData w], free := f } }) ∧
    (∀ c n, ∃ (w : Word) (f : Nat), w &&& (s.dev.cfgCapDword c n).2 = (s.dev.cfgCapDword c n).1 &&& (s.dev.cfgCapDword c n).2 ∧
      exec (.configurationRequest (.readCap c n)) s =
        .next { s with dev := { s.dev with outputs := s.dev.outputs ++ [.cfgData w], free := f } }) ∧
    (∀ b, exec (.configurationRequest (.writeMaxPayload b)) s =
      .next { s with dev := { s.dev with boot := { s.dev.boot with payload256 := b } } }) ∧
    exec (.configurationRequest .initiateFlr) s = exec .functionLevelReset s ∧
    (∀ a : BitVec 64, exec (.configurationRequest (.writeBar0 a)) s = .next { s with dev := { s.dev with boot :=
      { s.dev.boot with bar0 := some (a.toNat / 0x400000 * 0x400000) } } }) ∧
    (∀ a : BitVec 64, exec (.configurationRequest (.writeBar2 a)) s = .next { s with dev := { s.dev with boot :=
      { s.dev.boot with bar2 := some (a.toNat / 0x100000 * 0x100000) } } }) ∧
    (∀ e m, exec (.configurationRequest (.writeMsix e m)) s = .next { s with dev := { s.dev with boot :=
      { s.dev.boot with msixEnable := e, msixMask := m } } }) ∧
    (∀ m b, ∃ d : Dev, exec (.configurationRequest (.writeCommand m b)) s = .next { s with dev := d } ∧
      d.boot.memSpace = m ∧ d.boot.busMaster = b ∧ d.boot.phase = s.dev.boot.phase ∧ d.pool = s.dev.pool))

/-- RECORD_ADMIT and LOSS_RUN_CLOSE (R653, R660 to R667): the first record handed over takes its logbook's next number;
it goes to the slot at TAIL while the ring is open and nothing of the logbook is buffered, to the buffer while there is
room, and is counted as lost otherwise; with room for two, a loss run ends with its LOST record. That each record is a host write of
its own is the model's choice (log entry 19). -/
def Obligations.RecordsAreAdmitted : Prop :=
  (∀ (s : State) (r : Rec) (t : List Rec), s.dev.handed = r :: t → s.dev.logs[r.log].waiting = [] →
    ∃ d : Dev, exec .recordAdmit s = .next { s with dev := d } ∧ d.handed = t ∧
      d.logs[r.log].seq = s.dev.logs[r.log].seq + 1 ∧ (∀ b, b ≠ r.log → d.logs[b] = s.dev.logs[b]) ∧
      (s.dev.ringOpen r.log = true → s.dev.buffered r.log = 0 →
        d.logs[r.log].tail = (s.dev.logs[r.log].tail + 1) % s.dev.ringSize r.log ∧
        ∃ more, d.outputs = s.dev.outputs ++ .hostWrite (s.dev.rd64 (.lbBase r.log) + 32 * s.dev.logs[r.log].tail)
          (r.words s.dev.logs[r.log].seq false) :: more) ∧
      (s.dev.ringOpen r.log = false → s.dev.bufRoom r.log 1 = true →
        d.logs[r.log].buffer = s.dev.logs[r.log].buffer ++ [(r, s.dev.logs[r.log].seq)]) ∧
      (s.dev.ringOpen r.log = false → s.dev.bufRoom r.log 1 = false →
        d.rd (.lbDrops r.log) = satAdd (s.dev.rd (.lbDrops r.log)) 1 ∧ d.bit (.lbStatus r.log) 29 = true ∧
        d.logs[r.log].loss.isSome = true)) ∧
  (∀ (s : State) (b : Fin 16) (l : LossRun), s.dev.logs[b].loss = some l → s.dev.bufRoom b 2 = true →
    s.dev.logs[b].waiting = [] → s.dev.ringOpen b = false →
    ∃ (d : Dev) (r : Rec), exec (.lossRunClose b) s = .next { s with dev := d } ∧ d.logs[b].loss = none ∧
      d.logs[b].buffer = s.dev.logs[b].buffer ++ [(r, s.dev.logs[b].seq)] ∧ r.kind = 0x0A ∧ r.w5 = at_ l.count 0 ∧
      r.w6 = l.first ∧ r.w7 = l.types ∧ ∀ j, j ≠ b → d.logs[j] = s.dev.logs[j])

/-- MARK_ADMIT, TAIL_WRITEBACK, LB_MOD_TIMEOUT, LB_HEAD_WRITE and LB_CTRL_ENABLE (R651, R652, R654, R656, R657, R686,
R687): a MARK whose before set is complete leaves with the records behind it up to the next mark; the tail is written
back; a signal restarts the count; HEAD is taken; and an enabled logbook starts at slot 0, while a write that would enable one with
PERST_N low leaves it disabled (the model's choice, log entry 129). -/
def Obligations.LogbooksMoveOn : Prop :=
  (∀ (s : State) (b : Fin 16) (m : Nat) (k : Fin 8) (r : Rec) (place : MarkPlace) (t : List Waiting),
    s.dev.logs[b].waiting = .mark m k r place :: t → r.log = b → (∀ w ∈ t, ∀ x, w = .held x → x.log = b) →
    s.dev.beforeOpen b m k = false →
    ∃ d : Dev, exec (.markAdmit b) s = .next { s with dev := d } ∧
      d.logs[b].waiting = t.dropWhile (fun w => match w with
        | .mark _ _ _ _ => false
        | _ => true) ∧
      (t = [] → d.logs[b].seq = s.dev.logs[b].seq + 1) ∧ (∀ j, j ≠ b → d.logs[j] = s.dev.logs[j])) ∧
  (∀ (s : State) (b : Fin 16), s.dev.rd64 (.lbTailWb b) = 0 →
    exec (.tailWriteback b) s = .next { s with dev := { s.dev with
      logs := s.dev.logs.set b { s.dev.logs[b] with owed := false } } }) ∧
  (∀ (s : State) (b : Fin 16), s.dev.logs[b].owed = true → s.dev.canMaster = true → s.dev.rd64 (.lbTailWb b) ≠ 0 →
    exec (.tailWriteback b) s = .next { s with dev := { s.dev with
      outputs := s.dev.outputs ++ [.hostWrite (s.dev.rd64 (.lbTailWb b)) [at_ s.dev.logs[b].tail 0, s.dev.logs[b].lastSeq]]
      logs := s.dev.logs.set b { s.dev.logs[b] with owed := false } } }) ∧
  (∀ (s : State) (b : Fin 16), s.dev.bit (.lbCtrl b) 7 = true → s.dev.fld (.lbMod b) 16 16 ≠ 0 →
    0 < s.dev.logs[b].since → s.dev.boot.perstHigh = true →
    ∃ d : Dev, exec (.lbModTimeout b) s = .next { s with dev := d } ∧ d.logs[b].since = 0 ∧
      d.logs[b].tail = s.dev.logs[b].tail ∧
      (.msix (s.dev.vecOf (.lbCtrl b)) ∈ d.outputs ∨ d.boot.msixPending.getLsbD (s.dev.vecOf (.lbCtrl b)).val = true)) ∧
  (∀ (s : State) (p : Path) (b : Fin 16) (w : Word), s.takes p (.lbHead b) w → s.dev.logOn b = true →
    Machine.fld w 0 16 < s.dev.ringSize b →
    (Machine.fld w 0 16 + s.dev.ringSize b - s.dev.ringHead b) % s.dev.ringSize b ≤
      (s.dev.logs[b].tail + s.dev.ringSize b - s.dev.ringHead b) % s.dev.ringSize b →
    ∃ d : Dev, exec (.lbHeadWrite p b w) s = .next { s with dev := d.settle } ∧ d.rd (.lbHead b) = w ∧
      (∀ j, j ≠ b → d.logs[j] = s.dev.logs[j]) ∧ d.pool = s.dev.pool) ∧
  (∀ (s : State) (p : Path) (b : Fin 16) (w : Word), s.takes p (.lbCtrl b) (w ||| mkBit true 31) → s.dev.logOn b = false →
    6 ≤ Machine.fld w 0 5 → Machine.fld w 0 5 ≤ 16 → s.dev.boot.perstHigh = false →
    ∃ d : Dev, exec (.lbCtrlEnable p b w) s = .next { s with dev := d.settle } ∧ d.logOn b = false ∧
      d = { s.dev with regs := d.regs }) ∧
  (∀ (s : State) (p : Path) (b : Fin 16) (w : Word), s.takes p (.lbCtrl b) (w ||| mkBit true 31) → s.dev.logOn b = false →
    6 ≤ Machine.fld w 0 5 → Machine.fld w 0 5 ≤ 16 → s.dev.boot.perstHigh = true →
    ∃ d : Dev, exec (.lbCtrlEnable p b w) s = .next { s with dev := d.settle } ∧ d.rd (.lbCtrl b) = w ||| mkBit true 31 ∧
      d.rd (.lbHead b) = 0 ∧ (s.dev.logs[b].buffer = [] → d.logs[b].tail = 0) ∧
      ∀ j, j ≠ b → d.logs[j] = s.dev.logs[j])

/-- LINK_PORT_UP and LINK_PORT_DOWN (R694, R702, R710, R723, R735): a port that comes up clears the acceptance tables; a
port that goes down forgets its delay and opens the ring; both changes are recorded while LOG_EN is 1. That a port needs an answer
since it went down to come up is the model's choice (log entry 128), and so are the unit of TURN (103) and when code violations that
take no port down are counted: with the next DELAY_REQ (109). DELAY_REQ_SEND,
DELAY_REQ and DELAY_RESP (R700, R710): a request carries the next number, is answered on its hop with the node and its
turn-round time, and the answer to the outstanding request gives a measurement and the neighbour. -/
def Obligations.LinkPortsChange : Prop :=
  (∀ (s : State) (e : LinkPort), s.quiet → s.dev.alive = true → s.dev.linkLive e = true → (s.dev.link.side e).up = false →
    (s.dev.link.side e).delays ≠ [] →
    ∃ d : Dev, exec (.linkPortUp e) s = .next { s with dev := d } ∧ (d.link.side e).up = true ∧
      d.link.side (otherPort e) = s.dev.link.side (otherPort e) ∧ d.link.urgentSeen = [] ∧ d.link.normalSeen = [] ∧
      (s.dev.bit .lkCtrl 27 = true → ∃ r ∈ d.handed, r.kind = 0x0F ∧ r.idx = (portNo e).val ∧ Machine.fld r.w5 24 8 = 1) ∧
      d = { s.dev with link := d.link, handed := d.handed }) ∧
  (∀ (s : State) (e : LinkPort) (cause : Fin 4), s.quiet → s.dev.alive = true → (s.dev.link.side e).up = true →
    (cause = 3 → s.dev.linkLive e = false) →
    ∃ d : Dev, exec (.linkPortDown e cause) s = .next { s with dev := d } ∧ (d.link.side e).up = false ∧
      (d.link.side e).delays = [] ∧ d.link.side (otherPort e) = s.dev.link.side (otherPort e) ∧
      d.link.ringClosed = false ∧
      (s.dev.bit .lkCtrl 27 = true → ∃ r ∈ d.handed, r.kind = 0x0F ∧ r.idx = (portNo e).val ∧
        Machine.fld r.w5 24 8 = 2 ∧ r.w6 = at_ cause.val 0) ∧
      (cause ≠ 0 → d.regs = s.dev.regs) ∧
      d = { s.dev with link := d.link, handed := d.handed, outputs := d.outputs, regs := d.regs, free := d.free }) ∧
  (∀ (s : State) (e : LinkPort), s.quiet → s.dev.alive = true → s.dev.linkLive e = true →
    ∃ d : Dev, exec (.delayReqSend e) s = .next { s with dev := d } ∧
      (∃ q : Byte, q = BitVec.ofNat 8 (s.dev.link.side e).delaySeq ∧
        d.outputs = s.dev.outputs ++ [.linkFrame e [.k28_3, .data q, .data (crc8 [q])]]) ∧
      d.link.side e = { s.dev.link.side e with
        delaySeq := ((s.dev.link.side e).delaySeq + 1) % 256, delayWaits := true } ∧
      d.link.side (otherPort e) = s.dev.link.side (otherPort e) ∧
      s.dev.fld (.lkPortErr (portNo e)) 0 16 ≤ d.fld (.lkPortErr (portNo e)) 0 16 ∧
      d.fld (.lkPortErr (portNo e)) 16 16 = s.dev.fld (.lkPortErr (portNo e)) 16 16 ∧
      (∀ q : Reg, q.offset ≠ Reg.offset (.lkPortErr (portNo e)) → d.rd q = s.dev.rd q) ∧
      d = { s.dev with link := d.link, outputs := d.outputs, regs := d.regs, free := d.free }) ∧
  (∀ (s : State) (e : LinkPort) (q c : Byte) (turn : Word), s.quiet → s.dev.alive = true → s.dev.linkLive e = true →
    crc8 [q] = c →
    ∃ h : List Byte, h = [q, BitVec.ofNat 8 s.dev.link.node, if s.dev.link.idValid then 1 else 0] ++ leBytes 4 turn.toNat ∧
      exec (.delayReq e q c turn) s = .next { s with dev := { s.dev with
        outputs := s.dev.outputs ++ [.linkFrame e (.k28_4 :: (h ++ [crc8 h]).map .data)] } }) ∧
  (∀ (s : State) (e : LinkPort) (f : DelayRespFrame), s.quiet → s.dev.alive = true → s.dev.linkLive e = true →
    crc8 ([f.seq, f.node, f.flags] ++ leBytes 4 f.turn.toNat) = f.crc → (s.dev.link.side e).delayWaits = true →
    (f.seq.toNat + 1) % 256 = (s.dev.link.side e).delaySeq →
    ∃ d : Dev, exec (.delayResp e f) s = .next { s with dev := d } ∧
      d.link.side e = { s.dev.link.side e with
        delays := (((f.roundTrip : Int) - f.turn.toNat) :: (s.dev.link.side e).delays).take 16, delayWaits := false,
        neighbour := if f.flags.getLsbD 0 then some f.node.toNat else none } ∧
      d.link.side (otherPort e) = s.dev.link.side (otherPort e) ∧ d = { s.dev with link := d.link }) ∧
  (∀ (s : State) (e : LinkPort) (q c : Byte) (turn : Word), s.quiet → s.dev.alive = true → s.dev.linkLive e = true →
    crc8 [q] ≠ c →
    ∃ d : Dev, exec (.delayReq e q c turn) s = .next { s with dev := d } ∧
      d.fld (.lkPortErr (portNo e)) 16 16 = min (s.dev.fld (.lkPortErr (portNo e)) 16 16 + 1) 0xFFFF ∧
      (∀ a, s.dev.link.access = some a → d.link.access = some { a with failed := true }) ∧
      d = { s.dev with regs := d.regs, link := { s.dev.link with access := d.link.access } })

/-- URGENT_TRIGGER, URGENT_BLANK, URGENT_CLEAR, URGENT_ISSUE, URGENT_TRIP, URGENT_WAKE and LK_SHUT_LINK_CLEAR (R701,
R702, R708, R709, R601, R375): an accepted urgent frame goes on to the other port one hop further, is accepted once, and
acts by its kind; an ISSUE in RUN makes a ticket of its template, which the pool reserve and a full lane queue slip and a failing check
stops with its code in SCHED_STATUS (R374, R378, R388), and outside RUN it is dropped and counted (in SLEEP too, by the model's
choice, log entry 127); software releases the lines that the link holds. That the acceptance table follows frames that do not address
this node, and that the reserved bits of KIND are ignored, are the model's choices (log entries 99 and 100). -/
def Obligations.UrgentFramesAct : Prop :=
  (∀ (s : State) (e : LinkPort) (k : UrgentKind) (f : UrgentFrame), s.takesUrgent e k f → f.hops ≠ 255 →
    (urgentDirected k f && decide (f.target.toNat = s.dev.link.node)) = false →
    ∃ d : Dev, exec (urgentRow e f k) s = .next { s with dev := d.settle } ∧
      seqNew d.link.urgentSeen f.origin.toNat f.seq.toNat 256 = false ∧
      ((s.dev.link.side (otherPort e)).up = true →
        d.outputs = s.dev.outputs ++ [.linkFrame (otherPort e) (urgentSymbols { f with hops := f.hops + 1 })])) ∧
  (∀ (s : State) (e : LinkPort) (f : UrgentFrame), s.takesUrgent e .trigger f → s.dev.boot.phase = .run → s.poolOk →
    ∃ d : Dev, exec (.urgentTrigger e f) s = .next { s with dev := d.settle } ∧
      ∀ t ∈ d.pool, t.2.stage = .armed → t.2.cancelled = none → t.2.desc.trigger ≠ .link f.code) ∧
  (∀ (s : State) (e : LinkPort) (f : UrgentFrame), s.takesUrgent e .blank f → f.code.toNat < 8 →
    s.dev.boot.phase = .held ∨ s.dev.boot.phase = .run ∨ s.dev.boot.phase = .safe →
    s.dev.bit .lkRx f.code.toNat = true →
    ∃ d : Dev, exec (.urgentBlank e f) s = .next { s with dev := d.settle } ∧
      d.rd .lkShutLink = s.dev.rd .lkShutLink ||| mkBit true f.code.toNat ∧ d.lineBlank f.code.toNat = true) ∧
  (∀ (s : State) (e : LinkPort) (f : UrgentFrame), s.takesUrgent e .clear f → f.code.toNat < 8 →
    s.dev.boot.phase = .held ∨ s.dev.boot.phase = .run ∨ s.dev.boot.phase = .safe →
    s.dev.bit .lkRx f.code.toNat = true →
    ∃ d : Dev, exec (.urgentClear e f) s = .next { s with dev := d.settle } ∧
      d.rd .lkShutLink = s.dev.rd .lkShutLink &&& ~~~(mkBit true f.code.toNat)) ∧
  (∀ (s : State) (e : LinkPort) (f : UrgentFrame), s.takesUrgent e .issue f → f.target.toNat = s.dev.link.node →
    s.dev.boot.phase ≠ .run ∨ s.dev.boot.holding = true →
    ∃ d : Dev, exec (.urgentIssue e f) s = .next { s with dev := d } ∧ d.pool = s.dev.pool ∧
      d.fld .schedStatus 0 8 = min (s.dev.fld .schedStatus 0 8 + 1) 255 ∧ d = { s.dev with link := d.link, regs := d.regs }) ∧
  (∀ (s : State) (e : LinkPort) (f : UrgentFrame) (bs : List Byte) (k : Desc), s.takesUrgent e .issue f →
    f.target.toNat = s.dev.link.node → s.dev.boot.phase = .run → s.dev.boot.holding = false →
    bs = s.dev.templateBytes f.code.toNat → descOf bs = some k → k.trigger = .immediate → lowest (s.dev.submitChecks bs) = .ok →
    ∃ d : Dev, exec (.urgentIssue e f) s = .next { s with dev := d.settle } ∧
      (s.dev.fld .poolReserve 0 12 < s.dev.poolFree → s.dev.laneFull (fabricOf s.dev.alm k.bridge.val).lane = false →
        ∃ (t : Nat) (x : Ticket), s.dev.inUse t = false ∧ t < 2048 ∧ d.ticket t = some x ∧ x.desc = k ∧ x.stage = .queued ∧
          d.lanes[(fabricOf s.dev.alm k.bridge.val).lane].queue =
            s.dev.lanes[(fabricOf s.dev.alm k.bridge.val).lane].queue ++ [t]) ∧
      (s.dev.poolFree ≤ s.dev.fld .poolReserve 0 12 ∨ s.dev.laneFull (fabricOf s.dev.alm k.bridge.val).lane = true →
        (∀ t, d.inUse t = s.dev.inUse t) ∧ (∀ n : Fin 32, d.lanes[n].queue = s.dev.lanes[n].queue) ∧
          d.rd (.slipTotal (fabricOf s.dev.alm k.bridge.val).lane) =
            satAdd (s.dev.rd (.slipTotal (fabricOf s.dev.alm k.bridge.val).lane)) 1)) ∧
  (∀ (s : State) (e : LinkPort) (f : UrgentFrame) (bs : List Byte) (c : Code), s.takesUrgent e .issue f →
    f.target.toNat = s.dev.link.node → s.dev.boot.phase = .run → s.dev.boot.holding = false →
    bs = s.dev.templateBytes f.code.toNat →
    c = (if byteAt bs 0x12 = 0 then lowest (s.dev.submitChecks bs) else .range) → c ≠ .ok →
    ∃ d : Dev, exec (.urgentIssue e f) s = .next { s with dev := d.settle } ∧ d.bit .schedStatus 8 = true ∧
      d.fld .schedStatus 24 8 = c.num ∧ d.fld .schedStatus 16 8 = f.code.toNat ∧
      d.fld .schedStatus 0 8 = s.dev.fld .schedStatus 0 8 ∧ d = { s.dev with link := d.link, regs := d.regs }) ∧
  (∀ (s : State) (e : LinkPort) (f : UrgentFrame), s.takesUrgent e .trip f → f.code.toNat < 8 →
    s.dev.boot.phase = .held ∨ s.dev.boot.phase = .run ∨ s.dev.boot.phase = .safe →
    s.dev.bit .tripRx f.code.toNat = true →
    ∃ d : Dev, exec (.urgentTrip e f) s = .next { s with dev := d.settle } ∧
      d.bit .tripHeld (8 + f.code.toNat) = true) ∧
  (∀ (s : State) (e : LinkPort) (f : UrgentFrame), s.takesUrgent e .wake f → s.dev.boot.phase = .sleep →
    s.dev.wakeEnabled 3 = true → urgentAll f = true ∨ f.target.toNat = s.dev.link.node →
    ∃ d : Dev, exec (.urgentWake e f) s = .next { s with dev := d } ∧ d.clk = { s.dev.clk with waking := true } ∧
      d.bit .wakeStatus 3 = true ∧ d.boot = s.dev.boot) ∧
  (∀ (s : State) (p : Path) (w : Word), s.takes p .lkShutLink w →
    ∃ d : Dev, exec (.lkShutLinkClear p w) s = .next { s with dev := d.settle } ∧
      d.rd .lkShutLink = s.dev.rd .lkShutLink &&& ~~~(w &&& 0xFF) ∧ d = { s.dev with regs := d.regs, events := d.events })

/-- BEACON, BEACON_SEND and BEACON_LOSS (R711 to R717): a copy that is adopted corrects ring time by its error, at once,
by holding, or by its rate, as the error's size says (that the rate takes 10 µs is the model's choice, log entry 102); a copy of the
beacon adopted is not adopted again, and one that is worse than the copy of the beacon before waits for a better one, ring time
as it is (how the best copy is known is the model's choice, log entry 101); the timekeeper's beacon leaves on both ports that are up;
and without a beacon a follower loses its alignment. -/
def Obligations.BeaconsSetRingTime : Prop :=
  (∀ (s : State) (e : LinkPort) (f : BeaconFrame) (err : Int), s.takesBeacon e f →
    s.dev.newTimekeeper f.tk.toNat = true ∨ (s.dev.nextBeacon e f ∧ noWorse (f.hops.toNat, e) s.dev.link.seen = true) →
    err = ((f.rho.toNat : Int) + f.corr.toNat + ((s.dev.link.side e).delay).getD 0) * 4096 -
      (s.dev.link.rho - (f.age : Int) * 4096) →
    ∃ d : Dev, exec (.beacon e f) s = .next { s with dev := d.settle } ∧ d.link.tkNode = f.tk.toNat ∧
      d.link.tkHops = f.hops.toNat ∧ d.link.adopted = true ∧ d.link.lastRho = f.rho.toNat ∧ d.link.spare = none ∧
      d.rd .lkCorr = BitVec.ofInt 32 (roundDiv err 4096) ∧
      (s.dev.link.fresh = true ∨ err < -ns 1000000 → d.link.rho = s.dev.link.rho + err ∧ d.link.mode = .running 0 0) ∧
      (s.dev.link.fresh = false → ns 5 < err → d.link.rho = s.dev.link.rho + err ∧ d.link.mode = .running 0 0) ∧
      (s.dev.link.fresh = false → -ns 1000000 ≤ err → err < -ns 5 → d.link.rho = s.dev.link.rho ∧
        d.link.mode = .holding (s.dev.link.rho + err)) ∧
      (s.dev.link.fresh = false → -ns 5 ≤ err → err ≤ ns 5 → d.link.rho = s.dev.link.rho ∧
        d.link.mode = .running err (ns 10000).toNat) ∧
      (s.dev.isTimekeeper = true → d.link.yielded = true ∧ d.bit .lkStatus 18 = true)) ∧
  (∀ (s : State) (e : LinkPort) (f : BeaconFrame), s.takesBeacon e f → s.dev.nextBeacon e f →
    noWorse (f.hops.toNat, e) s.dev.link.seen = false →
    ∃ d : Dev, exec (.beacon e f) s = .next { s with dev := d } ∧ d.link.rho = s.dev.link.rho ∧
      d.link.mode = s.dev.link.mode ∧ d.link.tkHops = s.dev.link.tkHops ∧ d.link.lastRho = f.rho.toNat ∧
      (∃ err, d.link.spare = some (f, e, err)) ∧ d = { s.dev with link := d.link, outputs := d.outputs }) ∧
  (∀ (s : State) (e : LinkPort) (f : BeaconFrame), s.takesBeacon e f → s.dev.newTimekeeper f.tk.toNat = false →
    s.dev.isTimekeeper = true ∨ f.tk.toNat ≠ s.dev.link.tkNode ∨
      (f.rho.toNat = s.dev.link.lastRho ∧ s.dev.link.spare = none) →
    ∃ d : Dev, exec (.beacon e f) s = .next { s with dev := d } ∧
      d.link = { s.dev.link with seen := d.link.seen } ∧ d = { s.dev with link := d.link, outputs := d.outputs }) ∧
  (∀ s : State, s.running → s.dev.isTimekeeper = true → s.dev.link.idValid = true →
    ∃ l : List LinkSymbol, l = beaconSymbols (BitVec.ofInt 64 (roundDiv s.dev.link.rho 4096)) 0
        (BitVec.ofNat 8 s.dev.link.node) 0 ∧
      exec .beaconSend s = .next { s with dev := { s.dev with
        outputs := s.dev.outputs ++ (if s.dev.link.east.up then [.linkFrame .east l] else []) ++
          (if s.dev.link.west.up then [.linkFrame .west l] else []) } }) ∧
  (∀ s : State, s.quiet → s.dev.alive = true → s.dev.isTimekeeper = false →
    ∃ d : Dev, exec .beaconLoss s = .next { s with dev := d } ∧
      d.link = { s.dev.link with aligned := false, good := 0, adopted := false, spare := none } ∧
      (s.dev.link.aligned = true → d.bit .lkStatus 16 = true) ∧
      d = { s.dev with link := d.link, regs := d.regs, handed := d.handed })

/-- MBOX, MBOX_ACK, LK_MBOX_SEND and MBOX_RESEND_TIMEOUT (R724 to R726): a directed message is recorded once and
acknowledged, the acknowledgement of the outstanding message ends it with its code, a send takes the next number, and
after three unanswered sends a message ends with NOT_PRESENT. -/
def Obligations.MailboxDelivers : Prop :=
  (∀ (s : State) (e : LinkPort) (f : NormalFrame), s.takesNormal e .mbox f → normalDirected f = true →
    s.dev.bit .lkCtrl 27 = true →
    ∃ d : Dev, exec (.mbox e f) s = .next { s with dev := d } ∧
      (s.dev.link.mboxSeen.find? (·.1 = f.origin.toNat) ≠ some (f.origin.toNat, Machine.fld f.arg 0 8) →
        ∃ r ∈ d.handed, r.kind = 0x0F ∧ Machine.fld r.w5 24 8 = 6 ∧ r.w6 = wordAt f.payload 0 ∧ r.w7 = wordAt f.payload 4) ∧
      (s.dev.link.mboxSeen.find? (·.1 = f.origin.toNat) = some (f.origin.toNat, Machine.fld f.arg 0 8) →
        d.handed = s.dev.handed) ∧
      d.link.mboxSeen.find? (·.1 = f.origin.toNat) = some (f.origin.toNat, Machine.fld f.arg 0 8) ∧
      (s.dev.link.east.up = true → ∃ g : NormalFrame, .linkFrame .east (normalSymbols .mboxAck g) ∈ d.outputs ∧
        g.dest = f.origin ∧ g.arg = at_ (Machine.fld f.arg 0 8) 0) ∧
      d = { s.dev with link := d.link, outputs := d.outputs, handed := d.handed }) ∧
  (∀ (s : State) (e : LinkPort) (f : NormalFrame) (m : MboxSend), s.takesNormal e .mboxAck f →
    s.dev.link.mbox = some m → m.node = f.origin.toNat → m.mid = Machine.fld f.arg 0 8 →
    ∃ d : Dev, exec (.mboxAck e f) s = .next { s with dev := d } ∧ d.link.mbox = none ∧
      d.link.mboxCode = Machine.fld f.arg 8 8 ∧ d.bit .lkMboxStatus 30 = true ∧
      d = { s.dev with link := d.link, regs := d.regs, outputs := d.outputs }) ∧
  (∀ (s : State) (p : Path) (bcast : Bool) (node : Byte),
    s.takes p .lkMboxSend (mkBit true 31 ||| mkBit bcast 16 ||| node.setWidth 32) → s.dev.link.idValid = true →
    s.dev.link.mbox = none →
    ∃ d : Dev, exec (.lkMboxSend p bcast node) s = .next { s with dev := d.settle } ∧
      d.link.mid = (s.dev.link.mid + 1) % 256 ∧
      (bcast = false → d.link.mbox = some {
        node := node.toNat, mid := (s.dev.link.mid + 1) % 256, lo := s.dev.rd .lkMboxData,
        hi := s.dev.rdHi .lkMboxData, sends := 1 }) ∧
      (bcast = true → d.link.mbox = none ∧ d.link.mboxCode = 0 ∧ d.bit .lkMboxStatus 30 = true) ∧
      d = { s.dev with link := d.link, regs := d.regs, outputs := d.outputs }) ∧
  (∀ (s : State) (m : MboxSend), s.running → s.dev.link.mbox = some m →
    ∃ d : Dev, exec .mboxResendTimeout s = .next { s with dev := d } ∧
      (m.sends < 3 → d.link.mbox = some { m with sends := m.sends + 1 }) ∧
      (3 ≤ m.sends → d.link.mbox = none ∧ d.link.mboxCode = Code.notPresent.num ∧ d.bit .lkMboxStatus 30 = true) ∧
      d = { s.dev with link := d.link, regs := d.regs, outputs := d.outputs })

/-- LR_CMD_GO, RRA_REQ, RRA_RESP and RRA_RETRY_TIMEOUT (R727 to R731): an access leaves with the next number, or runs at
once when it names this node; a request reads or writes a register here, with the key that LK_RKEY asks for, and is
answered; the answer completes the access; and the third silence ends it. -/
def Obligations.RemoteAccessesRun : Prop :=
  (∀ (s : State) (p : Path) (two write : Bool) (node : Byte),
    s.takes p .lrCmd (mkBit true 31 ||| mkBit two 17 ||| mkBit write 16 ||| node.setWidth 32) →
    s.dev.link.idValid = true → s.dev.link.access = none → node.toNat ≠ s.dev.link.node →
    ∃ (d : Dev) (a : RemoteAccess), exec (.lrCmdGo p two write node) s = .next { s with dev := d.settle } ∧
      d.link.access = some a ∧ a.node = node.toNat ∧ a.rid = (s.dev.link.rid + 1) % 256 ∧ a.write = write ∧
      a.twoHalf = two ∧ a.bar2 = s.dev.bit .lrOffset 31 ∧ a.offset = s.dev.fld .lrOffset 0 22 ∧
      a.lo = s.dev.rd .lrData ∧ a.hi = s.dev.rdHi .lrData ∧ a.key = s.dev.rd .lrKey ∧ d.link.tries = 1 ∧
      d = { s.dev with link := d.link, regs := d.regs, outputs := d.outputs }) ∧
  (∀ (s : State) (p : Path) (node : Byte) (k : Fin 256) (i : Fin 16),
    s.takes p .lrCmd (mkBit true 31 ||| mkBit false 17 ||| mkBit false 16 ||| node.setWidth 32) →
    s.dev.link.idValid = true → s.dev.link.access = none → node.toNat = s.dev.link.node →
    s.dev.bit .lrOffset 31 = false → s.dev.fld .lrOffset 0 22 = (Reg.template k i).offset →
    ∃ d : Dev, exec (.lrCmdGo p false false node) s = .next { s with dev := d.settle } ∧ d.link.access = none ∧
      d.link.accessCode = 0 ∧ d.rd .lrData = s.dev.rd (.template k i) ∧ d.bit .lrStatus 30 = true ∧
      d = { s.dev with link := d.link, regs := d.regs }) ∧
  (∀ (s : State) (e : LinkPort) (f : NormalFrame) (k : Fin 256) (i : Fin 16), s.takesNormal e .rraReq f →
    normalDirected f = true →
    s.dev.link.answered.find? (fun x => decide (x.1 = f.origin.toNat ∧ x.2.1 = Machine.fld f.arg 0 8)) = none →
    Machine.fld f.arg 8 3 = 0 → field f.payload 0 4 = (Reg.template k i).offset →
    ∃ d : Dev, exec (.rraReq e f) s = .next { s with dev := d } ∧
      (s.dev.link.east.up = true → ∃ g : NormalFrame, .linkFrame .east (normalSymbols .rraResp g) ∈ d.outputs ∧
        g.dest = f.origin ∧ g.arg = at_ (Machine.fld f.arg 0 8) 0 ∧
        g.payload = leBytes 4 (s.dev.rd (.template k i)).toNat ++ leBytes 4 0) ∧
      d = { s.dev with link := d.link, outputs := d.outputs }) ∧
  (∀ (s : State) (e : LinkPort) (f : NormalFrame) (k : Fin 256) (i : Fin 16), s.takesNormal e .rraReq f →
    normalDirected f = true →
    s.dev.link.answered.find? (fun x => decide (x.1 = f.origin.toNat ∧ x.2.1 = Machine.fld f.arg 0 8)) = none →
    Machine.fld f.arg 8 3 = 1 → field f.payload 0 4 = (Reg.template k i).offset →
    wordAt f.payload 4 &&& (Reg.template k i).reservedLo = 0 →
    s.dev.gate .link (.template k i) (Reg.template k i).offset = .ok →
    ∃ d : Dev, exec (.rraReq e f) s = .next { s with dev := d } ∧
      (s.dev.keyOk (wordAt f.payload 12) = true → d.rd (.template k i) = wordAt f.payload 4) ∧
      (s.dev.keyOk (wordAt f.payload 12) = false → d.rd (.template k i) = s.dev.rd (.template k i)) ∧
      d.pool = s.dev.pool ∧ d.lanes = s.dev.lanes) ∧
  (∀ (s : State) (e : LinkPort) (f : NormalFrame) (a : RemoteAccess), s.takesNormal e .rraResp f →
    s.dev.link.access = some a → a.node = f.origin.toNat → a.rid = Machine.fld f.arg 0 8 →
    ∃ d : Dev, exec (.rraResp e f) s = .next { s with dev := d } ∧ d.link.access = none ∧
      d.link.accessCode = Machine.fld f.arg 8 8 ∧ d.bit .lrStatus 30 = true ∧
      (a.write = false → Machine.fld f.arg 8 8 = 0 → d.rd .lrData = wordAt f.payload 0 ∧
        d.rdHi .lrData = wordAt f.payload 4) ∧
      d = { s.dev with link := d.link, regs := d.regs, outputs := d.outputs }) ∧
  (∀ (s : State) (a : RemoteAccess), s.running → s.dev.link.access = some a →
    ∃ d : Dev, exec .rraRetryTimeout s = .next { s with dev := d } ∧
      (a.tries < 3 → d.link.access = some { a with tries := a.tries + 1 } ∧ d.link.tries = a.tries + 1) ∧
      (3 ≤ a.tries → d.link.access = none ∧ d.bit .lrStatus 30 = true ∧ d.link.accessCode =
        (if a.failed then Code.crc.num else Code.notPresent.num)) ∧
      d = { s.dev with link := d.link, regs := d.regs, outputs := d.outputs })

/-- BOOT_DATA, BOOT_ACK, LK_BOOT_CTRL_BEGIN, LK_BOOT_DATA_WRITE and BOOT_RESEND_TIMEOUT (R732 to R734): a node that
loads by the link takes frames in offset order; the pusher's words make frames of 256 bytes and a last one, which stay until they are acknowledged,
are sent at most three times, each in its turn, and end the push when the last is acknowledged or an answer carries an error. -/
def Obligations.LinkBootRuns : Prop :=
  (∀ (s : State) (e : LinkPort) (f : NormalFrame) (l : Load), s.takesNormal e .bootData f → normalDirected f = true →
    s.dev.boot.load = some l → l.source = .link → l.image.ended = false → f.arg.toNat = l.image.bytes.length →
    s.dev.link.bootOrigin = some f.origin.toNat ∨ (s.dev.link.bootOrigin = none ∧ f.arg = 0) →
    (∀ r, Image.scan { l.image with bytes := l.image.bytes ++ f.payload, ended := f.flags.getLsbD 1 } ≠ .fail r) →
    ∃ d : Dev, exec (.bootData e f) s = .next { s with dev := d } ∧ d.link.bootOrigin = some f.origin.toNat ∧
      d.boot.load = some { l with image :=
        { l.image with bytes := l.image.bytes ++ f.payload, ended := f.flags.getLsbD 1 } } ∧
      d = { s.dev with link := d.link, boot := d.boot, outputs := d.outputs }) ∧
  (∀ (s : State) (e : LinkPort) (f : NormalFrame) (q : BootPush), s.takesNormal e .bootAck f →
    s.dev.link.push = some q → q.node = f.origin.toNat →
    ∃ d : Dev, exec (.bootAck e f) s = .next { s with dev := d } ∧
      (Machine.fld f.arg 24 8 ≠ 0 → d.link.push = none ∧ d.link.pushDone = true ∧
        d.link.pushCode = Machine.fld f.arg 24 8) ∧
      (Machine.fld f.arg 24 8 = 0 → q.sent ≠ q.length → d.link.push = some { q with
        frames := q.frames.filter (fun x => decide (Machine.fld f.arg 0 24 < x.1 + x.2.1.length)),
        acked := max q.acked (min (Machine.fld f.arg 0 24) q.sent) }) ∧
      (Machine.fld f.arg 24 8 = 0 → q.sent = q.length →
        (∀ x ∈ q.frames, x.1 + x.2.1.length ≤ Machine.fld f.arg 0 24) →
        d.link.push = none ∧ d.link.pushDone = true ∧ d.link.pushCode = 0) ∧
      d = { s.dev with link := d.link, outputs := d.outputs }) ∧
  (∀ (s : State) (p : Path) (node : Byte), s.takes p .lkBootCtrl (mkBit true 31 ||| node.setWidth 32) →
    s.dev.rd .lkBootLen ≠ 0 → s.dev.link.idValid = true → s.dev.link.push = none →
    ∃ d : Dev, exec (.lkBootCtrlBegin p node) s = .next { s with dev := d.settle } ∧
      d.link = { s.dev.link with
        push := some {
          node := node.toNat, length := (s.dev.rd .lkBootLen).toNat, open_ := [], frames := [], sent := 0, acked := 0 },
        pushDone := false, pushCode := 0, pushAcked := 0 } ∧
      d = { s.dev with link := d.link, regs := d.regs }) ∧
  (∀ (s : State) (p : Path) (w : Word) (q : BootPush), s.takes p .lkBootData w → s.dev.link.push = some q →
    q.sent + q.open_.length < q.length → q.frames.length < 8 →
    ∃ d : Dev, exec (.lkBootDataWrite p w) s = .next { s with dev := d.settle } ∧
      (q.open_.length + 4 ≠ 256 → q.sent + q.open_.length + 4 ≠ q.length →
        d.link.push = some { q with open_ := q.open_ ++ leBytes 4 w.toNat }) ∧
      (q.sent + q.open_.length + 4 = q.length → d.link.push = some { q with
        open_ := [], frames := q.frames ++ [(q.sent, q.open_ ++ leBytes 4 w.toNat, true, 1)], sent := q.length }) ∧
      (q.open_.length + 4 = 256 → q.sent + 256 ≠ q.length → d.link.push = some { q with
        open_ := [], frames := q.frames ++ [(q.sent, q.open_ ++ leBytes 4 w.toNat, false, 1)], sent := q.sent + 256 }) ∧
      (q.open_.length + 4 = 256 ∨ q.sent + q.open_.length + 4 = q.length → s.dev.link.idValid = true →
        s.dev.link.east.up = true → ∃ g : NormalFrame, .linkFrame .east (normalSymbols .bootData g) ∈ d.outputs ∧
          g.dest.toNat = q.node % 256 ∧ g.arg = at_ q.sent 0 ∧ g.payload = q.open_ ++ leBytes 4 w.toNat ∧
          g.flags.getLsbD 1 = decide (q.sent + q.open_.length + 4 = q.length)) ∧
      d = { s.dev with link := d.link, regs := d.regs, outputs := d.outputs }) ∧
  (∀ (s : State) (q : BootPush) (o : Nat) (bs : List Byte) (last : Bool) (n : Nat) (t : List (Nat × List Byte × Bool × Nat)),
    s.running → s.dev.link.push = some q → q.frames = (o, bs, last, n) :: t →
    ∃ d : Dev, exec .bootResendTimeout s = .next { s with dev := d } ∧
      (n < 3 → d.link.push = some { q with frames := t ++ [(o, bs, last, n + 1)] }) ∧
      (3 ≤ n → d.link.push = none ∧ d.link.pushDone = true ∧ d.link.pushCode = Code.notPresent.num) ∧
      d = { s.dev with link := d.link, outputs := d.outputs })

/-- ENUM, CENSUS, CENSUS_DONE, RING_OPEN, LK_CMD_ENUMERATE, LK_CMD_CENSUS, LK_CMD_WAKE, ENUM_TIMEOUT and
CENSUS_AUTO_START (R708, R719 to R723): a node without a fused ID takes the ID that passes and hands on the next, and loses
its ID to an ENUM that carries none (its record of that is the model's choice, log entry 104); the
starter's ENUM comes back and starts its census, whose return closes the ring with its count; and a run that does not
come back sets ENUM_FAIL. -/
def Obligations.RingIsCounted : Prop :=
  (∀ (s : State) (e : LinkPort) (f : NormalFrame), s.quiet → s.dev.alive = true → s.dev.linkLive e = true →
    normalOk .enum f = true → s.dev.isOwn f.origin = false → s.dev.boot.phase ≠ .sleep → s.dev.nodeFused = false →
    seqNew s.dev.link.normalSeen f.origin.toNat f.seq.toNat 65536 = true → Machine.bit f.arg 8 = false →
    ∃ d : Dev, exec (.enum e f) s = .next { s with dev := d } ∧ d.link.idValid = true ∧
      d.link.node = Machine.fld f.arg 0 8 ∧
      ((s.dev.link.side (otherPort e)).up = true → ∃ g : NormalFrame, g.origin = f.origin ∧ g.seq = f.seq ∧
        g.arg = at_ ((Machine.fld f.arg 0 8 + 1) % 256) 0 ||| mkBit (decide (Machine.fld f.arg 0 8 = 255)) 8 ∧
        d.outputs = s.dev.outputs ++ [.linkFrame (otherPort e) (normalSymbols .enum g)]) ∧
      d = { s.dev with link := d.link, outputs := d.outputs, handed := d.handed }) ∧
  (∀ (s : State) (e : LinkPort) (f : NormalFrame), s.quiet → s.dev.alive = true → s.dev.linkLive e = true →
    normalOk .enum f = true → s.dev.isOwn f.origin = false → s.dev.boot.phase ≠ .sleep → s.dev.nodeFused = false →
    seqNew s.dev.link.normalSeen f.origin.toNat f.seq.toNat 65536 = true → Machine.bit f.arg 8 = true →
    s.dev.link.idValid = true →
    ∃ d : Dev, exec (.enum e f) s = .next { s with dev := d } ∧ d.link.idValid = false ∧
      d.link.urgentSeen = [] ∧ d.link.normalSeen = [] ∧
      (s.dev.bit .lkCtrl 27 = true → ∃ r ∈ d.handed, r.kind = 0x0F ∧ Machine.fld r.w5 24 8 = 5 ∧
        Machine.fld r.w5 0 16 = 0xFFFF) ∧
      d = { s.dev with link := d.link, outputs := d.outputs, handed := d.handed }) ∧
  (∀ (s : State) (e : LinkPort) (f : NormalFrame), s.quiet → s.dev.alive = true → s.dev.linkLive e = true →
    normalOk .enum f = true → s.dev.isOwn f.origin = true → s.dev.boot.phase ≠ .sleep → s.dev.link.enumRunning = true →
    ∃ d : Dev, exec (.enum e f) s = .next { s with dev := d } ∧ d.link.enumRunning = false ∧
      d.link.censusRunning = true ∧ d = { s.dev with link := d.link, outputs := d.outputs, regs := d.regs }) ∧
  (∀ (s : State) (e : LinkPort) (f : NormalFrame), s.quiet → s.dev.alive = true → s.dev.linkLive e = true →
    normalOk .census f = true → s.dev.isOwn f.origin = false → normalDirected f = false →
    (s.dev.link.side (otherPort e)).up = true →
    ∃ (d : Dev) (g : NormalFrame), exec (.census e f) s = .next { s with dev := d } ∧
      g.arg = at_ ((Machine.fld f.arg 0 9 + 1) % 512) 0 ∧ g.origin = f.origin ∧ g.seq = f.seq ∧
      d.outputs = s.dev.outputs ++ [.linkFrame (otherPort e) (normalSymbols .census g)] ∧
      d = { s.dev with link := d.link, outputs := d.outputs }) ∧
  (∀ (s : State) (e : LinkPort) (f : NormalFrame), s.quiet → s.dev.alive = true → s.dev.linkLive e = true →
    normalOk .census f = true → s.dev.isOwn f.origin = true → s.dev.boot.phase ≠ .sleep →
    s.dev.link.censusRunning = true →
    ∃ d : Dev, exec (.census e f) s = .next { s with dev := d } ∧ d.link.censusRunning = false ∧
      d.link.ringClosed = true ∧ d.link.nodes = Machine.fld f.arg 0 9 ∧
      ((linkOf s.dev.alm).ringSize ≠ 0 → (linkOf s.dev.alm).ringSize ≠ Machine.fld f.arg 0 9 →
        d.bit .lkStatus 17 = true)) ∧
  (∀ (s : State) (e : LinkPort) (f : NormalFrame), s.takesNormal e .censusDone f →
    ∃ d : Dev, exec (.censusDone e f) s = .next { s with dev := d } ∧ d.link.ringClosed = true ∧
      d.link.nodes = Machine.fld f.arg 0 9 ∧
      d = { s.dev with link := d.link, outputs := d.outputs, handed := d.handed, regs := d.regs }) ∧
  (∀ (s : State) (e : LinkPort) (f : NormalFrame), s.takesNormal e .ringOpen f →
    ∃ d : Dev, exec (.ringOpen e f) s = .next { s with dev := d } ∧ d.link.ringClosed = false ∧
      d.link.nodes = s.dev.link.nodes ∧ d = { s.dev with link := d.link, outputs := d.outputs, handed := d.handed }) ∧
  (∀ (s : State) (p : Path), s.takes p .lkCmd (mkBit true 16) → s.dev.almValid = true →
    (linkOf s.dev.alm).enumerate = true → s.dev.enumBusy = false →
    ∃ d : Dev, exec (.lkCmdEnumerate p) s = .next { s with dev := d.settle } ∧ d.link.enumRunning = true ∧
      (s.dev.nodeFused = false → d.link.idValid = true ∧ d.link.node = 0) ∧
      d = { s.dev with link := d.link, outputs := d.outputs, handed := d.handed, regs := d.regs }) ∧
  (∀ (s : State) (p : Path), s.takes p .lkCmd (mkBit true 18) → s.dev.link.idValid = true → s.dev.enumBusy = false →
    ∃ d : Dev, exec (.lkCmdCensus p) s = .next { s with dev := d.settle } ∧ d.link.censusRunning = true ∧
      d = { s.dev with link := d.link, outputs := d.outputs, regs := d.regs }) ∧
  (∀ (s : State) (p : Path) (all : Bool) (node : Byte),
    s.takes p .lkCmd (mkBit true 17 ||| mkBit all 8 ||| node.setWidth 32) → s.dev.link.idValid = true →
    s.dev.link.urgentFree ≤ s.dev.clk.tau → s.dev.link.urgentWait = [] →
    ∃ d : Dev, exec (.lkCmdWake p all node) s = .next { s with dev := d.settle } ∧
      d.link.urgentSeq = (s.dev.link.urgentSeq + 1) % 256 ∧
      (s.dev.link.east.up = true → ∃ g : UrgentFrame, .linkFrame .east (urgentSymbols g) ∈ d.outputs ∧
        g.kind = (if all then 0x85 else 0x05) ∧ g.target = (if all then 0 else node) ∧ g.hops = 0) ∧
      d = { s.dev with link := d.link, outputs := d.outputs, regs := d.regs }) ∧
  (∀ s : State, s.running → s.dev.link.enumRunning = true ∨ s.dev.link.censusRunning = true →
    ∃ d : Dev, exec .enumTimeout s = .next { s with dev := d } ∧
      d.link = { s.dev.link with enumRunning := false, censusRunning := false } ∧ d.bit .lkStatus 20 = true ∧
      d = { s.dev with link := d.link, regs := d.regs }) ∧
  (∀ s : State, s.running → s.dev.link.east.up = true → s.dev.link.west.up = true → s.dev.link.idValid = true →
    s.dev.link.censusRunning = false →
    ∃ d : Dev, exec .censusAutoStart s = .next { s with dev := d } ∧ d.link.censusRunning = true ∧
      d = { s.dev with link := d.link, outputs := d.outputs })

/-- VLT_OPEN, VLT_LOAD, VLT_PUT, VLT_COMMIT, VLT_ABORT and VLT_BUF_WRITE (R744 to R757): what each command of a
transaction does to the vault's control side, by the owner and while no page operation is in progress. -/
def Obligations.VaultCommandsAct : Prop :=
  (∀ (s : State) (p : Path), s.takes p .vltCmd 1 → s.dev.boot.phase = .held ∨ s.dev.boot.phase = .run →
    s.dev.vaultOff = false → s.dev.vault.phase = .idle → s.dev.vault.op = none →
    ∃ d : Dev, exec (.vltOpen p) s = .next { s with dev := d.settle } ∧
      d.vault = { s.dev.vault with
        phase := .open_, owner := p, op := some .openDesc, slots := [], toCopy := [], aborting := false,
        committedLast := false } ∧
      d = { s.dev with vault := d.vault, regs := d.regs }) ∧
  (∀ (s : State) (p : Path) (page : BitVec 12), s.takes p .vltCmd (at_ page.toNat 16 ||| 16) →
    s.dev.vault.phase = .open_ → s.dev.vault.owner = p → s.dev.vault.op = none →
    ∃ d : Dev, exec (.vltLoad p page) s = .next { s with dev := d.settle } ∧
      d.vault = { s.dev.vault with op := some (.load (toFin 4095 page.toNat)) } ∧
      d = { s.dev with vault := d.vault, regs := d.regs }) ∧
  (∀ (s : State) (p : Path) (page : BitVec 12), s.takes p .vltCmd (at_ page.toNat 16 ||| 2) →
    s.dev.vault.phase = .open_ → s.dev.vault.owner = p → s.dev.vault.op = none →
    page.toNat ∈ s.dev.vault.slots ∨ s.dev.vault.slots.length < 64 →
    ∃ d : Dev, exec (.vltPut p page) s = .next { s with dev := d.settle } ∧
      d.vault = { s.dev.vault with
        op := some (.put (toFin 4095 page.toNat) s.dev.vaultBuffer),
        slots := if page.toNat ∈ s.dev.vault.slots then s.dev.vault.slots else s.dev.vault.slots ++ [page.toNat] } ∧
      d = { s.dev with vault := d.vault, regs := d.regs }) ∧
  (∀ (s : State) (p : Path), s.takes p .vltCmd 4 → s.dev.vault.phase = .open_ → s.dev.vault.slots ≠ [] →
    s.dev.vault.owner = p → s.dev.vault.op = none →
    ∃ d : Dev, exec (.vltCommit p) s = .next { s with dev := d.settle } ∧
      d.vault = { s.dev.vault with phase := .committing } ∧ d = { s.dev with vault := d.vault, regs := d.regs }) ∧
  (∀ (s : State) (p : Path), s.takes p .vltCmd 8 → s.dev.vault.owner = p →
    s.dev.vault.phase ≠ .idle ∨ s.dev.vault.committedLast = true →
    ∃ d : Dev, exec (.vltAbort p) s = .next { s with dev := d.settle } ∧
      (s.dev.vault.phase = .open_ → d.vault = { s.dev.vault with
        aborting := true, op := if s.dev.vault.op.isSome then s.dev.vault.op else some .closing }) ∧
      (s.dev.vault.phase ≠ .open_ → d.vault = { s.dev.vault with abortResult := Code.alreadyDone.num }) ∧
      d = { s.dev with vault := d.vault, regs := d.regs }) ∧
  (∀ (s : State) (p : Path) (i : Fin 64) (w : Word), s.takes p (.vltBuf i) w → s.dev.vault.phase = .open_ →
    s.dev.vault.owner = p → (∀ q, s.dev.vault.op ≠ some (.load q)) →
    ∃ d : Dev, exec (.vltBufWrite p i w) s = .next { s with dev := d.settle } ∧ d.rd (.vltBuf i) = w ∧
      d = { s.dev with regs := d.regs })

/-- R746 and R751: while PAGE_BUSY is 1, OPEN, LOAD, PUT and COMMIT are rejected with BUSY, and while PHASE is not IDLE
every VLT_CMD and VLT_BUF write from another path than the owner's is. The other conditions of each write hold, so that
no lower code applies (R18): STATE would outrank BUSY. -/
def Obligations.VaultRefusesWhileBusy : Prop :=
  (∀ (s : State) (p : Path), s.takes p .vltCmd 1 → s.dev.boot.phase = .held ∨ s.dev.boot.phase = .run →
    s.dev.vaultOff = false → s.dev.pageBusy = true ∨ s.dev.notOwner p = true → refusedWith s (.vltOpen p) .busy) ∧
  (∀ (s : State) (p : Path) (page : BitVec 12), s.takes p .vltCmd (at_ page.toNat 16 ||| 16) →
    s.dev.vault.phase = .open_ → s.dev.pageBusy = true ∨ s.dev.notOwner p = true →
    refusedWith s (.vltLoad p page) .busy) ∧
  (∀ (s : State) (p : Path) (page : BitVec 12), s.takes p .vltCmd (at_ page.toNat 16 ||| 2) →
    s.dev.vault.phase = .open_ → page.toNat ∈ s.dev.vault.slots ∨ s.dev.vault.slots.length < 64 →
    s.dev.pageBusy = true ∨ s.dev.notOwner p = true → refusedWith s (.vltPut p page) .busy) ∧
  (∀ (s : State) (p : Path), s.takes p .vltCmd 4 → s.dev.vault.phase = .open_ → s.dev.vault.slots ≠ [] →
    s.dev.pageBusy = true ∨ s.dev.notOwner p = true → refusedWith s (.vltCommit p) .busy) ∧
  (∀ (s : State) (p : Path), s.takes p .vltCmd 8 → s.dev.notOwner p = true → refusedWith s (.vltAbort p) .busy) ∧
  (∀ (s : State) (p : Path) (i : Fin 64) (w : Word), s.takes p (.vltBuf i) w → s.dev.vault.phase = .open_ →
    s.dev.notOwner p = true → refusedWith s (.vltBufWrite p i w) .busy)

/-- VAULT_PAGE_WRITE_DONE, VAULT_COMMIT_POINT and VAULT_CLOSE (R741, R747, R748, R750, R753 to R756, R759): a descriptor
that has been written is in force with the next number, a LOAD fills the buffer, a PUT fills its page's slot, a copy
puts a slot into its home page and nothing else, the commit point makes the slots the committed contents, and the close
ends the transaction; once PD5 has gone off, no page is written (R195). -/
def Obligations.VaultOperationsComplete : Prop :=
  (∀ (s : State), s.quiet → s.dev.alive = true → s.dev.vault.op = some .openDesc → s.dev.vault.stopping = false →
    ∃ d : Dev, exec .vaultPageWriteDone s = .next { s with
        dev := d, nv := { s.nv with kind := .open_, seq := s.nv.seq + 1, journal := [] } } ∧
      d.vault = { s.dev.vault with op := if s.dev.vault.aborting then some .closing else none } ∧
      d.rd .vltJseq = s.nv.seq + 1 ∧ d = { s.dev with vault := d.vault, regs := d.regs }) ∧
  (∀ (s : State) (page : Fin 4096), s.quiet → s.dev.alive = true → s.dev.vault.op = some (.load page) →
    s.dev.vault.stopping = false →
    ∃ d : Dev, exec .vaultPageWriteDone s = .next { s with dev := d } ∧
      (∀ i : Fin 64, d.rd (.vltBuf i) = wordAt (if page.val ∈ s.dev.vault.slots then
        (slotOf s.nv.journal page.val).getD [] else s.nv.read (256 * page.val) 256) (4 * i.val)) ∧
      d.vault = { s.dev.vault with op := if s.dev.vault.aborting then some .closing else none } ∧
      d = { s.dev with vault := d.vault, regs := d.regs }) ∧
  (∀ (s : State) (page : Fin 4096) (bs : List Byte), s.quiet → s.dev.alive = true →
    s.dev.vault.op = some (.put page bs) → s.dev.vault.stopping = false →
    ∃ (d : Dev) (v : NonVolatile), exec .vaultPageWriteDone s = .next { s with dev := d, nv := v } ∧
      slotOf v.journal page.val = some (bs.take 256) ∧
      (∀ q, q ≠ page.val → slotOf v.journal q = slotOf s.nv.journal q) ∧ v = { s.nv with journal := v.journal } ∧
      d = { s.dev with vault := { s.dev.vault with op := if s.dev.vault.aborting then some .closing else none } }) ∧
  (∀ (s : State), s.quiet → s.dev.alive = true → s.dev.vault.op = some .closing →
    ∃ d : Dev, exec .vaultPageWriteDone s = .next { s with
        dev := d, nv := { s.nv with kind := .closed, seq := s.nv.seq + 1, journal := [] } } ∧
      d.vault.phase = .idle ∧ d.vault.slots = [] ∧ d.vault.abortResult = 0 ∧ d.bit .vltStatus 1 = true ∧
      d = { s.dev with vault := d.vault, regs := d.regs, boot := d.boot, outputs := d.outputs }) ∧
  (∀ (s : State) (q : Nat) (t : List Nat) (bs : List Byte), s.quiet → s.dev.alive = true → s.dev.vault.op = none →
    s.dev.vault.phase = .copying → s.dev.vault.toCopy = q :: t → s.dev.vault.stopping = false → s.dev.vault.ready = true →
    slotOf s.nv.journal q = some bs →
    ∃ v : NonVolatile, exec .vaultPageWriteDone s = .next { s with
        dev := { s.dev with vault := { s.dev.vault with toCopy := t } }, nv := v } ∧
      (∀ i, i < bs.length → homeByte v.home (256 * q + i) = bs.getD i 0) ∧
      (∀ a, a < 256 * q ∨ 256 * q + bs.length ≤ a → homeByte v.home a = homeByte s.nv.home a) ∧
      v = { s.nv with home := v.home }) ∧
  (∀ (s : State), s.quiet → s.dev.alive = true → s.dev.vault.op = none → s.dev.vault.ready = false →
    exec .vaultPageWriteDone s = .next s ∧ exec .vaultCommitPoint s = .next s ∧ exec .vaultClose s = .next s) ∧
  (∀ (s : State), s.quiet → s.dev.alive = true → s.dev.vault.phase = .committing → s.dev.vault.ready = true →
    s.dev.vault.stopping = false →
    ∃ d : Dev, exec .vaultCommitPoint s = .next { s with
        dev := d, nv := { s.nv with kind := .committed, seq := s.nv.seq + 1 } } ∧
      d.vault = { s.dev.vault with phase := .copying, toCopy := sortPages s.dev.vault.slots } ∧
      (∀ a bs, slotOf s.nv.journal (a / 256) = some bs →
        NonVolatile.committed { s.nv with kind := .committed, seq := s.nv.seq + 1 } a = bs.getD (a % 256) 0) ∧
      d = { s.dev with vault := d.vault, regs := d.regs, red := d.red }) ∧
  (∀ (s : State), s.quiet → s.dev.alive = true → s.dev.vault.phase = .copying → s.dev.vault.toCopy = [] →
    s.dev.vault.ready = true →
    ∃ d : Dev, exec .vaultClose s = .next { s with
        dev := d, nv := { s.nv with kind := .closed, seq := s.nv.seq + 1, journal := [] } } ∧
      d.vault.phase = .idle ∧ d.vault.slots = [] ∧ d.vault.committedLast = true ∧ d.bit .vltStatus 0 = true ∧
      d.rd .vltCommits = satAdd (s.dev.rd .vltCommits) 1 ∧
      d = { s.dev with vault := d.vault, regs := d.regs, boot := d.boot, outputs := d.outputs })

/-- A step with the command `c` at the front of the queue is `exec` of `c` on the state with the queue's rest. -/
def Obligations.StepRunsTheFront : Prop :=
  ∀ (c : Instr) (s : State), step { s with pending := c :: s.pending } = exec c s

/-- On an empty queue the present edge is brought to its end, and then the next one comes (the model's choice, log entry 16):
nothing without a clock; a ledger tick in SLEEP; and otherwise the commands that the edge makes due, or one CCLK edge, which
takes ephemeris time to the next multiple of the period unless CCLK runs from the low-power oscillator (R461). -/
def Obligations.IdleStepPassesAnEdge : Prop :=
  (∀ s : State, s.pending = [] → s.dev.alive = false → step s = .next s) ∧
  (∀ s : State, s.pending = [] → s.dev.alive = true → s.dev.boot.phase = .sleep →
    ∃ t : State, step s = .next t ∧ t.nv = s.nv ∧ t.dev = { s.dev with clk := t.dev.clk } ∧
      t.dev.clk.ledger = (if s.dev.clk.ledgerRun = true ∧ s.dev.clk.ledger < ledgerMax then s.dev.clk.ledger + 1
        else s.dev.clk.ledger)) ∧
  (∀ s : State, s.pending = [] → s.dev.clocked = true →
    ∃ t : State, step s = .next t ∧ t.nv = s.nv ∧ t.dev.alm = s.dev.alm ∧ t.dev.boot = s.dev.boot ∧
      t.dev.vault = s.dev.vault ∧ t.dev.stage = s.dev.stage ∧
      (s.dev.onEdge.2 ≠ [] → t.pending = s.dev.onEdge.2 ∧ t.dev.clk = s.dev.clk) ∧
      (s.dev.onEdge.2 = [] →
        t.dev.clk = { s.dev.clk with cycle := s.dev.clk.cycle + 1, tau := s.dev.clk.tau + s.dev.edgeLen } ∧
        (s.dev.clk.now ≠ .lpo → t.dev.clk.tau % (s.dev.period : Int) = 0 ∧ s.dev.clk.tau < t.dev.clk.tau ∧
          t.dev.clk.tau ≤ s.dev.clk.tau + s.dev.period) ∧
        (s.dev.clk.now = .lpo → t.dev.clk.tau = s.dev.clk.tau + s.dev.period)))

/-- Right after reset (R7, R104, R109, R461, R488, R799): the device is in FUSING on REFCLK, time stands at 0, nothing
is queued, staged or applied, no almanac is valid, no transaction is open, and every register holds its reset word. The
phase in which the queue, the vault's cells and the wires start is the model's own (log entries 1, 5 and 10). The
invariants hold right after reset: no wire is left over, pool indexes differ, and the vault's cells and journal are in
form (the contents of the cells are the model's choice, log entries 5 and 10). -/
def Obligations.ResetLeaves : Prop :=
  (State.reset.dev.boot.phase = .fusing ∧ State.reset.dev.clk.now = .refclk ∧ State.reset.dev.clk.cycle = 0 ∧
    State.reset.dev.clk.tau = 0 ∧ State.reset.dev.almValid = false ∧ State.reset.dev.apply.phase = .idle ∧
    State.reset.dev.stage.state = .empty ∧ State.reset.dev.pool = [] ∧ State.reset.dev.schedRun = false ∧
    State.reset.dev.vault.phase = .idle ∧ State.reset.dev.handed = [] ∧ State.reset.dev.outputs = [] ∧
    State.reset.pending = [] ∧ (∀ r : Reg, State.reset.dev.rd r = resetWord r.offset) ∧
    State.reset.dev.rd .id = 0x2176C000) ∧
  (State.reset.quiet ∧ State.reset.poolOk ∧ State.reset.cellsOk ∧ State.reset.vaultOk)

/-- Every command and every step answers a next state: the block has no state in which it stops (log entry 1). A command
changes the queue of no other command: the queue's rest is what it was (the model's own form of a block). -/
def Obligations.EveryStepGoesOn : Prop :=
  (∀ (c : Instr) (s : State), ∃ t, exec c s = .next t) ∧ ∀ s : State, s.goesOn ∧
  (∀ (c : Instr) (s t : State), exec c s = .next t → t.pending = s.pending)

/-- Every step works off the wires that it raises (the model's own rule, log entry 15). What the wires between engines
cannot reach (log entry 15): the almanac, boot and clocks, staging, the vault, the quadrants, the logbooks and request
queues, the cards, the schedule table and the access paths. -/
def Obligations.WiresAreWorkedOff : Prop :=
  (∀ s t : State, s.quiet → step s = .next t → t.quiet) ∧
  (∀ d : Dev, d.settle.alm = d.alm ∧ d.settle.oldAlm = d.oldAlm ∧ d.settle.almValid = d.almValid ∧
    d.settle.boot = d.boot ∧ d.settle.clk = d.clk ∧ d.settle.stage = d.stage ∧ d.settle.vault = d.vault ∧
    d.settle.quads = d.quads ∧ d.settle.logs = d.logs ∧ d.settle.queues = d.queues ∧ d.settle.cards = d.cards ∧
    d.settle.sched = d.sched ∧ d.settle.schedRun = d.schedRun ∧ d.settle.shut = d.shut ∧
    d.settle.staging = d.staging ∧ d.settle.latches = d.latches ∧ d.settle.spiHeld = d.spiHeld ∧
    d.settle.marks = d.marks ∧ d.settle.collMasks = d.collMasks ∧ d.settle.collStarts = d.collStarts ∧
    d.settle.tripCfgWritten = d.tripCfgWritten ∧ d.settle.caps = d.caps ∧ d.settle.worked = d.worked ∧
    d.settle.fired = d.fired ∧ d.settle.tripOut = d.tripOut)

/-- R122: a fuse bit that is 1 stays 1 over every step. -/
def Obligations.FusesStay : Prop :=
  ∀ (s t : State) (i : Nat), step s = .next t → s.nv.fuses.getLsbD i = true → t.nv.fuses.getLsbD i = true

/-- No two entries of the pool share an index, over every step (R376). The home pages and the journal keep their form
over every step (R739, R750). -/
def Obligations.TablesKeepTheirForm : Prop :=
  (∀ s t : State, s.poolOk → step s = .next t → t.poolOk) ∧
  (∀ s t : State, s.cellsOk → step s = .next t → t.cellsOk)

/-- R752, and R754, R758: over every step the vault keeps its promises; its home pages change only while the descriptor
in force is COMMITTED, that is after a commit point; and what a read of the vault returns changes only at a commit
point. No reset, loss of supply, abort, copy or recovery changes it. -/
def Obligations.OnlyCommitPointsChangeTheVault : Prop :=
  ∀ s t : State, s.vaultOk → step s = .next t → t.vaultOk ∧
    (t.nv.home ≠ s.nv.home → s.nv.kind = .committed) ∧
    ((∀ a, t.nv.committed a = s.nv.committed a) ∨ ∃ rest, s.pending = .vaultCommitPoint :: rest)

/-- R796, R797: every register answers at its own offset, a two-half register at its high half as well, and so no two
registers share one. -/
def Obligations.RegistersHaveTheirOffsets : Prop :=
  (∀ r : Reg, Reg.ofOffset r.offset = some (r, false)) ∧
    (∀ r : Reg, r.wide = true → Reg.ofOffset (r.offset + 4) = some (r, true)) ∧
    ∀ r q : Reg, r.offset = q.offset → r = q
end

