-- ==== Sys2Proof/Laws/State.lean ====
section
/-! SUPPORT. What each update of the device does to each part of it: one lemma per part per update. -/
namespace Sys2Proof.Machine

/-! `Dev.setWord` -/

@[simp] theorem Dev.setWord_regs (d : Dev) (off : Nat) (w : Word) : (d.setWord off w).regs = tset (resetWord off) d.regs off w := rfl
@[simp] theorem Dev.setWord_staging (d : Dev) (off : Nat) (w : Word) : (d.setWord off w).staging = d.staging := rfl
@[simp] theorem Dev.setWord_latches (d : Dev) (off : Nat) (w : Word) : (d.setWord off w).latches = d.latches := rfl
@[simp] theorem Dev.setWord_spiHeld (d : Dev) (off : Nat) (w : Word) : (d.setWord off w).spiHeld = d.spiHeld := rfl
@[simp] theorem Dev.setWord_boot (d : Dev) (off : Nat) (w : Word) : (d.setWord off w).boot = d.boot := rfl
@[simp] theorem Dev.setWord_clk (d : Dev) (off : Nat) (w : Word) : (d.setWord off w).clk = d.clk := rfl
@[simp] theorem Dev.setWord_quads (d : Dev) (off : Nat) (w : Word) : (d.setWord off w).quads = d.quads := rfl
@[simp] theorem Dev.setWord_alm (d : Dev) (off : Nat) (w : Word) : (d.setWord off w).alm = d.alm := rfl
@[simp] theorem Dev.setWord_oldAlm (d : Dev) (off : Nat) (w : Word) : (d.setWord off w).oldAlm = d.oldAlm := rfl
@[simp] theorem Dev.setWord_almValid (d : Dev) (off : Nat) (w : Word) : (d.setWord off w).almValid = d.almValid := rfl
@[simp] theorem Dev.setWord_stage (d : Dev) (off : Nat) (w : Word) : (d.setWord off w).stage = d.stage := rfl
@[simp] theorem Dev.setWord_apply (d : Dev) (off : Nat) (w : Word) : (d.setWord off w).apply = d.apply := rfl
@[simp] theorem Dev.setWord_logs (d : Dev) (off : Nat) (w : Word) : (d.setWord off w).logs = d.logs := rfl
@[simp] theorem Dev.setWord_queues (d : Dev) (off : Nat) (w : Word) : (d.setWord off w).queues = d.queues := rfl
@[simp] theorem Dev.setWord_handed (d : Dev) (off : Nat) (w : Word) : (d.setWord off w).handed = d.handed := rfl
@[simp] theorem Dev.setWord_marks (d : Dev) (off : Nat) (w : Word) : (d.setWord off w).marks = d.marks := rfl
@[simp] theorem Dev.setWord_pool (d : Dev) (off : Nat) (w : Word) : (d.setWord off w).pool = d.pool := rfl
@[simp] theorem Dev.setWord_incarn (d : Dev) (off : Nat) (w : Word) : (d.setWord off w).incarn = d.incarn := rfl
@[simp] theorem Dev.setWord_lanes (d : Dev) (off : Nat) (w : Word) : (d.setWord off w).lanes = d.lanes := rfl
@[simp] theorem Dev.setWord_ports (d : Dev) (off : Nat) (w : Word) : (d.setWord off w).ports = d.ports := rfl
@[simp] theorem Dev.setWord_queuings (d : Dev) (off : Nat) (w : Word) : (d.setWord off w).queuings = d.queuings := rfl
@[simp] theorem Dev.setWord_rests (d : Dev) (off : Nat) (w : Word) : (d.setWord off w).rests = d.rests := rfl
@[simp] theorem Dev.setWord_shut (d : Dev) (off : Nat) (w : Word) : (d.setWord off w).shut = d.shut := rfl
@[simp] theorem Dev.setWord_xports (d : Dev) (off : Nat) (w : Word) : (d.setWord off w).xports = d.xports := rfl
@[simp] theorem Dev.setWord_cards (d : Dev) (off : Nat) (w : Word) : (d.setWord off w).cards = d.cards := rfl
@[simp] theorem Dev.setWord_red (d : Dev) (off : Nat) (w : Word) : (d.setWord off w).red = d.red := rfl
@[simp] theorem Dev.setWord_colls (d : Dev) (off : Nat) (w : Word) : (d.setWord off w).colls = d.colls := rfl
@[simp] theorem Dev.setWord_collMasks (d : Dev) (off : Nat) (w : Word) : (d.setWord off w).collMasks = d.collMasks := rfl
@[simp] theorem Dev.setWord_collStarts (d : Dev) (off : Nat) (w : Word) : (d.setWord off w).collStarts = d.collStarts := rfl
@[simp] theorem Dev.setWord_axes (d : Dev) (off : Nat) (w : Word) : (d.setWord off w).axes = d.axes := rfl
@[simp] theorem Dev.setWord_sched (d : Dev) (off : Nat) (w : Word) : (d.setWord off w).sched = d.sched := rfl
@[simp] theorem Dev.setWord_schedRun (d : Dev) (off : Nat) (w : Word) : (d.setWord off w).schedRun = d.schedRun := rfl
@[simp] theorem Dev.setWord_chronos (d : Dev) (off : Nat) (w : Word) : (d.setWord off w).chronos = d.chronos := rfl
@[simp] theorem Dev.setWord_outs (d : Dev) (off : Nat) (w : Word) : (d.setWord off w).outs = d.outs := rfl
@[simp] theorem Dev.setWord_cmps (d : Dev) (off : Nat) (w : Word) : (d.setWord off w).cmps = d.cmps := rfl
@[simp] theorem Dev.setWord_tripCfgWritten (d : Dev) (off : Nat) (w : Word) : (d.setWord off w).tripCfgWritten = d.tripCfgWritten := rfl
@[simp] theorem Dev.setWord_fired (d : Dev) (off : Nat) (w : Word) : (d.setWord off w).fired = d.fired := rfl
@[simp] theorem Dev.setWord_worked (d : Dev) (off : Nat) (w : Word) : (d.setWord off w).worked = d.worked := rfl
@[simp] theorem Dev.setWord_caps (d : Dev) (off : Nat) (w : Word) : (d.setWord off w).caps = d.caps := rfl
@[simp] theorem Dev.setWord_tripJobs (d : Dev) (off : Nat) (w : Word) : (d.setWord off w).tripJobs = d.tripJobs := rfl
@[simp] theorem Dev.setWord_tripOut (d : Dev) (off : Nat) (w : Word) : (d.setWord off w).tripOut = d.tripOut := rfl
@[simp] theorem Dev.setWord_link (d : Dev) (off : Nat) (w : Word) : (d.setWord off w).link = d.link := rfl
@[simp] theorem Dev.setWord_vault (d : Dev) (off : Nat) (w : Word) : (d.setWord off w).vault = d.vault := rfl
@[simp] theorem Dev.setWord_outputs (d : Dev) (off : Nat) (w : Word) : (d.setWord off w).outputs = d.outputs := rfl
@[simp] theorem Dev.setWord_events (d : Dev) (off : Nat) (w : Word) : (d.setWord off w).events = d.events := rfl
@[simp] theorem Dev.setWord_free (d : Dev) (off : Nat) (w : Word) : (d.setWord off w).free = d.free := rfl

/-! `Dev.wr` -/

@[simp] theorem Dev.wr_regs (d : Dev) (r : Reg) (w : Word) : (d.wr r w).regs = tset (resetWord r.offset) d.regs r.offset w := rfl
@[simp] theorem Dev.wr_staging (d : Dev) (r : Reg) (w : Word) : (d.wr r w).staging = d.staging := rfl
@[simp] theorem Dev.wr_latches (d : Dev) (r : Reg) (w : Word) : (d.wr r w).latches = d.latches := rfl
@[simp] theorem Dev.wr_spiHeld (d : Dev) (r : Reg) (w : Word) : (d.wr r w).spiHeld = d.spiHeld := rfl
@[simp] theorem Dev.wr_boot (d : Dev) (r : Reg) (w : Word) : (d.wr r w).boot = d.boot := rfl
@[simp] theorem Dev.wr_clk (d : Dev) (r : Reg) (w : Word) : (d.wr r w).clk = d.clk := rfl
@[simp] theorem Dev.wr_quads (d : Dev) (r : Reg) (w : Word) : (d.wr r w).quads = d.quads := rfl
@[simp] theorem Dev.wr_alm (d : Dev) (r : Reg) (w : Word) : (d.wr r w).alm = d.alm := rfl
@[simp] theorem Dev.wr_oldAlm (d : Dev) (r : Reg) (w : Word) : (d.wr r w).oldAlm = d.oldAlm := rfl
@[simp] theorem Dev.wr_almValid (d : Dev) (r : Reg) (w : Word) : (d.wr r w).almValid = d.almValid := rfl
@[simp] theorem Dev.wr_stage (d : Dev) (r : Reg) (w : Word) : (d.wr r w).stage = d.stage := rfl
@[simp] theorem Dev.wr_apply (d : Dev) (r : Reg) (w : Word) : (d.wr r w).apply = d.apply := rfl
@[simp] theorem Dev.wr_logs (d : Dev) (r : Reg) (w : Word) : (d.wr r w).logs = d.logs := rfl
@[simp] theorem Dev.wr_queues (d : Dev) (r : Reg) (w : Word) : (d.wr r w).queues = d.queues := rfl
@[simp] theorem Dev.wr_handed (d : Dev) (r : Reg) (w : Word) : (d.wr r w).handed = d.handed := rfl
@[simp] theorem Dev.wr_marks (d : Dev) (r : Reg) (w : Word) : (d.wr r w).marks = d.marks := rfl
@[simp] theorem Dev.wr_pool (d : Dev) (r : Reg) (w : Word) : (d.wr r w).pool = d.pool := rfl
@[simp] theorem Dev.wr_incarn (d : Dev) (r : Reg) (w : Word) : (d.wr r w).incarn = d.incarn := rfl
@[simp] theorem Dev.wr_lanes (d : Dev) (r : Reg) (w : Word) : (d.wr r w).lanes = d.lanes := rfl
@[simp] theorem Dev.wr_ports (d : Dev) (r : Reg) (w : Word) : (d.wr r w).ports = d.ports := rfl
@[simp] theorem Dev.wr_queuings (d : Dev) (r : Reg) (w : Word) : (d.wr r w).queuings = d.queuings := rfl
@[simp] theorem Dev.wr_rests (d : Dev) (r : Reg) (w : Word) : (d.wr r w).rests = d.rests := rfl
@[simp] theorem Dev.wr_shut (d : Dev) (r : Reg) (w : Word) : (d.wr r w).shut = d.shut := rfl
@[simp] theorem Dev.wr_xports (d : Dev) (r : Reg) (w : Word) : (d.wr r w).xports = d.xports := rfl
@[simp] theorem Dev.wr_cards (d : Dev) (r : Reg) (w : Word) : (d.wr r w).cards = d.cards := rfl
@[simp] theorem Dev.wr_red (d : Dev) (r : Reg) (w : Word) : (d.wr r w).red = d.red := rfl
@[simp] theorem Dev.wr_colls (d : Dev) (r : Reg) (w : Word) : (d.wr r w).colls = d.colls := rfl
@[simp] theorem Dev.wr_collMasks (d : Dev) (r : Reg) (w : Word) : (d.wr r w).collMasks = d.collMasks := rfl
@[simp] theorem Dev.wr_collStarts (d : Dev) (r : Reg) (w : Word) : (d.wr r w).collStarts = d.collStarts := rfl
@[simp] theorem Dev.wr_axes (d : Dev) (r : Reg) (w : Word) : (d.wr r w).axes = d.axes := rfl
@[simp] theorem Dev.wr_sched (d : Dev) (r : Reg) (w : Word) : (d.wr r w).sched = d.sched := rfl
@[simp] theorem Dev.wr_schedRun (d : Dev) (r : Reg) (w : Word) : (d.wr r w).schedRun = d.schedRun := rfl
@[simp] theorem Dev.wr_chronos (d : Dev) (r : Reg) (w : Word) : (d.wr r w).chronos = d.chronos := rfl
@[simp] theorem Dev.wr_outs (d : Dev) (r : Reg) (w : Word) : (d.wr r w).outs = d.outs := rfl
@[simp] theorem Dev.wr_cmps (d : Dev) (r : Reg) (w : Word) : (d.wr r w).cmps = d.cmps := rfl
@[simp] theorem Dev.wr_tripCfgWritten (d : Dev) (r : Reg) (w : Word) : (d.wr r w).tripCfgWritten = d.tripCfgWritten := rfl
@[simp] theorem Dev.wr_fired (d : Dev) (r : Reg) (w : Word) : (d.wr r w).fired = d.fired := rfl
@[simp] theorem Dev.wr_worked (d : Dev) (r : Reg) (w : Word) : (d.wr r w).worked = d.worked := rfl
@[simp] theorem Dev.wr_caps (d : Dev) (r : Reg) (w : Word) : (d.wr r w).caps = d.caps := rfl
@[simp] theorem Dev.wr_tripJobs (d : Dev) (r : Reg) (w : Word) : (d.wr r w).tripJobs = d.tripJobs := rfl
@[simp] theorem Dev.wr_tripOut (d : Dev) (r : Reg) (w : Word) : (d.wr r w).tripOut = d.tripOut := rfl
@[simp] theorem Dev.wr_link (d : Dev) (r : Reg) (w : Word) : (d.wr r w).link = d.link := rfl
@[simp] theorem Dev.wr_vault (d : Dev) (r : Reg) (w : Word) : (d.wr r w).vault = d.vault := rfl
@[simp] theorem Dev.wr_outputs (d : Dev) (r : Reg) (w : Word) : (d.wr r w).outputs = d.outputs := rfl
@[simp] theorem Dev.wr_events (d : Dev) (r : Reg) (w : Word) : (d.wr r w).events = d.events := rfl
@[simp] theorem Dev.wr_free (d : Dev) (r : Reg) (w : Word) : (d.wr r w).free = d.free := rfl

/-! `Dev.wrHi` -/

@[simp] theorem Dev.wrHi_regs (d : Dev) (r : Reg) (w : Word) : (d.wrHi r w).regs = tset (resetWord (r.offset + 4)) d.regs (r.offset + 4) w := rfl
@[simp] theorem Dev.wrHi_staging (d : Dev) (r : Reg) (w : Word) : (d.wrHi r w).staging = d.staging := rfl
@[simp] theorem Dev.wrHi_latches (d : Dev) (r : Reg) (w : Word) : (d.wrHi r w).latches = d.latches := rfl
@[simp] theorem Dev.wrHi_spiHeld (d : Dev) (r : Reg) (w : Word) : (d.wrHi r w).spiHeld = d.spiHeld := rfl
@[simp] theorem Dev.wrHi_boot (d : Dev) (r : Reg) (w : Word) : (d.wrHi r w).boot = d.boot := rfl
@[simp] theorem Dev.wrHi_clk (d : Dev) (r : Reg) (w : Word) : (d.wrHi r w).clk = d.clk := rfl
@[simp] theorem Dev.wrHi_quads (d : Dev) (r : Reg) (w : Word) : (d.wrHi r w).quads = d.quads := rfl
@[simp] theorem Dev.wrHi_alm (d : Dev) (r : Reg) (w : Word) : (d.wrHi r w).alm = d.alm := rfl
@[simp] theorem Dev.wrHi_oldAlm (d : Dev) (r : Reg) (w : Word) : (d.wrHi r w).oldAlm = d.oldAlm := rfl
@[simp] theorem Dev.wrHi_almValid (d : Dev) (r : Reg) (w : Word) : (d.wrHi r w).almValid = d.almValid := rfl
@[simp] theorem Dev.wrHi_stage (d : Dev) (r : Reg) (w : Word) : (d.wrHi r w).stage = d.stage := rfl
@[simp] theorem Dev.wrHi_apply (d : Dev) (r : Reg) (w : Word) : (d.wrHi r w).apply = d.apply := rfl
@[simp] theorem Dev.wrHi_logs (d : Dev) (r : Reg) (w : Word) : (d.wrHi r w).logs = d.logs := rfl
@[simp] theorem Dev.wrHi_queues (d : Dev) (r : Reg) (w : Word) : (d.wrHi r w).queues = d.queues := rfl
@[simp] theorem Dev.wrHi_handed (d : Dev) (r : Reg) (w : Word) : (d.wrHi r w).handed = d.handed := rfl
@[simp] theorem Dev.wrHi_marks (d : Dev) (r : Reg) (w : Word) : (d.wrHi r w).marks = d.marks := rfl
@[simp] theorem Dev.wrHi_pool (d : Dev) (r : Reg) (w : Word) : (d.wrHi r w).pool = d.pool := rfl
@[simp] theorem Dev.wrHi_incarn (d : Dev) (r : Reg) (w : Word) : (d.wrHi r w).incarn = d.incarn := rfl
@[simp] theorem Dev.wrHi_lanes (d : Dev) (r : Reg) (w : Word) : (d.wrHi r w).lanes = d.lanes := rfl
@[simp] theorem Dev.wrHi_ports (d : Dev) (r : Reg) (w : Word) : (d.wrHi r w).ports = d.ports := rfl
@[simp] theorem Dev.wrHi_queuings (d : Dev) (r : Reg) (w : Word) : (d.wrHi r w).queuings = d.queuings := rfl
@[simp] theorem Dev.wrHi_rests (d : Dev) (r : Reg) (w : Word) : (d.wrHi r w).rests = d.rests := rfl
@[simp] theorem Dev.wrHi_shut (d : Dev) (r : Reg) (w : Word) : (d.wrHi r w).shut = d.shut := rfl
@[simp] theorem Dev.wrHi_xports (d : Dev) (r : Reg) (w : Word) : (d.wrHi r w).xports = d.xports := rfl
@[simp] theorem Dev.wrHi_cards (d : Dev) (r : Reg) (w : Word) : (d.wrHi r w).cards = d.cards := rfl
@[simp] theorem Dev.wrHi_red (d : Dev) (r : Reg) (w : Word) : (d.wrHi r w).red = d.red := rfl
@[simp] theorem Dev.wrHi_colls (d : Dev) (r : Reg) (w : Word) : (d.wrHi r w).colls = d.colls := rfl
@[simp] theorem Dev.wrHi_collMasks (d : Dev) (r : Reg) (w : Word) : (d.wrHi r w).collMasks = d.collMasks := rfl
@[simp] theorem Dev.wrHi_collStarts (d : Dev) (r : Reg) (w : Word) : (d.wrHi r w).collStarts = d.collStarts := rfl
@[simp] theorem Dev.wrHi_axes (d : Dev) (r : Reg) (w : Word) : (d.wrHi r w).axes = d.axes := rfl
@[simp] theorem Dev.wrHi_sched (d : Dev) (r : Reg) (w : Word) : (d.wrHi r w).sched = d.sched := rfl
@[simp] theorem Dev.wrHi_schedRun (d : Dev) (r : Reg) (w : Word) : (d.wrHi r w).schedRun = d.schedRun := rfl
@[simp] theorem Dev.wrHi_chronos (d : Dev) (r : Reg) (w : Word) : (d.wrHi r w).chronos = d.chronos := rfl
@[simp] theorem Dev.wrHi_outs (d : Dev) (r : Reg) (w : Word) : (d.wrHi r w).outs = d.outs := rfl
@[simp] theorem Dev.wrHi_cmps (d : Dev) (r : Reg) (w : Word) : (d.wrHi r w).cmps = d.cmps := rfl
@[simp] theorem Dev.wrHi_tripCfgWritten (d : Dev) (r : Reg) (w : Word) : (d.wrHi r w).tripCfgWritten = d.tripCfgWritten := rfl
@[simp] theorem Dev.wrHi_fired (d : Dev) (r : Reg) (w : Word) : (d.wrHi r w).fired = d.fired := rfl
@[simp] theorem Dev.wrHi_worked (d : Dev) (r : Reg) (w : Word) : (d.wrHi r w).worked = d.worked := rfl
@[simp] theorem Dev.wrHi_caps (d : Dev) (r : Reg) (w : Word) : (d.wrHi r w).caps = d.caps := rfl
@[simp] theorem Dev.wrHi_tripJobs (d : Dev) (r : Reg) (w : Word) : (d.wrHi r w).tripJobs = d.tripJobs := rfl
@[simp] theorem Dev.wrHi_tripOut (d : Dev) (r : Reg) (w : Word) : (d.wrHi r w).tripOut = d.tripOut := rfl
@[simp] theorem Dev.wrHi_link (d : Dev) (r : Reg) (w : Word) : (d.wrHi r w).link = d.link := rfl
@[simp] theorem Dev.wrHi_vault (d : Dev) (r : Reg) (w : Word) : (d.wrHi r w).vault = d.vault := rfl
@[simp] theorem Dev.wrHi_outputs (d : Dev) (r : Reg) (w : Word) : (d.wrHi r w).outputs = d.outputs := rfl
@[simp] theorem Dev.wrHi_events (d : Dev) (r : Reg) (w : Word) : (d.wrHi r w).events = d.events := rfl
@[simp] theorem Dev.wrHi_free (d : Dev) (r : Reg) (w : Word) : (d.wrHi r w).free = d.free := rfl

/-! `Dev.wr48` -/

@[simp] theorem Dev.wr48_staging (d : Dev) (r : Reg) (v : W48) : (d.wr48 r v).staging = d.staging := rfl
@[simp] theorem Dev.wr48_latches (d : Dev) (r : Reg) (v : W48) : (d.wr48 r v).latches = d.latches := rfl
@[simp] theorem Dev.wr48_spiHeld (d : Dev) (r : Reg) (v : W48) : (d.wr48 r v).spiHeld = d.spiHeld := rfl
@[simp] theorem Dev.wr48_boot (d : Dev) (r : Reg) (v : W48) : (d.wr48 r v).boot = d.boot := rfl
@[simp] theorem Dev.wr48_clk (d : Dev) (r : Reg) (v : W48) : (d.wr48 r v).clk = d.clk := rfl
@[simp] theorem Dev.wr48_quads (d : Dev) (r : Reg) (v : W48) : (d.wr48 r v).quads = d.quads := rfl
@[simp] theorem Dev.wr48_alm (d : Dev) (r : Reg) (v : W48) : (d.wr48 r v).alm = d.alm := rfl
@[simp] theorem Dev.wr48_oldAlm (d : Dev) (r : Reg) (v : W48) : (d.wr48 r v).oldAlm = d.oldAlm := rfl
@[simp] theorem Dev.wr48_almValid (d : Dev) (r : Reg) (v : W48) : (d.wr48 r v).almValid = d.almValid := rfl
@[simp] theorem Dev.wr48_stage (d : Dev) (r : Reg) (v : W48) : (d.wr48 r v).stage = d.stage := rfl
@[simp] theorem Dev.wr48_apply (d : Dev) (r : Reg) (v : W48) : (d.wr48 r v).apply = d.apply := rfl
@[simp] theorem Dev.wr48_logs (d : Dev) (r : Reg) (v : W48) : (d.wr48 r v).logs = d.logs := rfl
@[simp] theorem Dev.wr48_queues (d : Dev) (r : Reg) (v : W48) : (d.wr48 r v).queues = d.queues := rfl
@[simp] theorem Dev.wr48_handed (d : Dev) (r : Reg) (v : W48) : (d.wr48 r v).handed = d.handed := rfl
@[simp] theorem Dev.wr48_marks (d : Dev) (r : Reg) (v : W48) : (d.wr48 r v).marks = d.marks := rfl
@[simp] theorem Dev.wr48_pool (d : Dev) (r : Reg) (v : W48) : (d.wr48 r v).pool = d.pool := rfl
@[simp] theorem Dev.wr48_incarn (d : Dev) (r : Reg) (v : W48) : (d.wr48 r v).incarn = d.incarn := rfl
@[simp] theorem Dev.wr48_lanes (d : Dev) (r : Reg) (v : W48) : (d.wr48 r v).lanes = d.lanes := rfl
@[simp] theorem Dev.wr48_ports (d : Dev) (r : Reg) (v : W48) : (d.wr48 r v).ports = d.ports := rfl
@[simp] theorem Dev.wr48_queuings (d : Dev) (r : Reg) (v : W48) : (d.wr48 r v).queuings = d.queuings := rfl
@[simp] theorem Dev.wr48_rests (d : Dev) (r : Reg) (v : W48) : (d.wr48 r v).rests = d.rests := rfl
@[simp] theorem Dev.wr48_shut (d : Dev) (r : Reg) (v : W48) : (d.wr48 r v).shut = d.shut := rfl
@[simp] theorem Dev.wr48_xports (d : Dev) (r : Reg) (v : W48) : (d.wr48 r v).xports = d.xports := rfl
@[simp] theorem Dev.wr48_cards (d : Dev) (r : Reg) (v : W48) : (d.wr48 r v).cards = d.cards := rfl
@[simp] theorem Dev.wr48_red (d : Dev) (r : Reg) (v : W48) : (d.wr48 r v).red = d.red := rfl
@[simp] theorem Dev.wr48_colls (d : Dev) (r : Reg) (v : W48) : (d.wr48 r v).colls = d.colls := rfl
@[simp] theorem Dev.wr48_collMasks (d : Dev) (r : Reg) (v : W48) : (d.wr48 r v).collMasks = d.collMasks := rfl
@[simp] theorem Dev.wr48_collStarts (d : Dev) (r : Reg) (v : W48) : (d.wr48 r v).collStarts = d.collStarts := rfl
@[simp] theorem Dev.wr48_axes (d : Dev) (r : Reg) (v : W48) : (d.wr48 r v).axes = d.axes := rfl
@[simp] theorem Dev.wr48_sched (d : Dev) (r : Reg) (v : W48) : (d.wr48 r v).sched = d.sched := rfl
@[simp] theorem Dev.wr48_schedRun (d : Dev) (r : Reg) (v : W48) : (d.wr48 r v).schedRun = d.schedRun := rfl
@[simp] theorem Dev.wr48_chronos (d : Dev) (r : Reg) (v : W48) : (d.wr48 r v).chronos = d.chronos := rfl
@[simp] theorem Dev.wr48_outs (d : Dev) (r : Reg) (v : W48) : (d.wr48 r v).outs = d.outs := rfl
@[simp] theorem Dev.wr48_cmps (d : Dev) (r : Reg) (v : W48) : (d.wr48 r v).cmps = d.cmps := rfl
@[simp] theorem Dev.wr48_tripCfgWritten (d : Dev) (r : Reg) (v : W48) : (d.wr48 r v).tripCfgWritten = d.tripCfgWritten := rfl
@[simp] theorem Dev.wr48_fired (d : Dev) (r : Reg) (v : W48) : (d.wr48 r v).fired = d.fired := rfl
@[simp] theorem Dev.wr48_worked (d : Dev) (r : Reg) (v : W48) : (d.wr48 r v).worked = d.worked := rfl
@[simp] theorem Dev.wr48_caps (d : Dev) (r : Reg) (v : W48) : (d.wr48 r v).caps = d.caps := rfl
@[simp] theorem Dev.wr48_tripJobs (d : Dev) (r : Reg) (v : W48) : (d.wr48 r v).tripJobs = d.tripJobs := rfl
@[simp] theorem Dev.wr48_tripOut (d : Dev) (r : Reg) (v : W48) : (d.wr48 r v).tripOut = d.tripOut := rfl
@[simp] theorem Dev.wr48_link (d : Dev) (r : Reg) (v : W48) : (d.wr48 r v).link = d.link := rfl
@[simp] theorem Dev.wr48_vault (d : Dev) (r : Reg) (v : W48) : (d.wr48 r v).vault = d.vault := rfl
@[simp] theorem Dev.wr48_outputs (d : Dev) (r : Reg) (v : W48) : (d.wr48 r v).outputs = d.outputs := rfl
@[simp] theorem Dev.wr48_events (d : Dev) (r : Reg) (v : W48) : (d.wr48 r v).events = d.events := rfl
@[simp] theorem Dev.wr48_free (d : Dev) (r : Reg) (v : W48) : (d.wr48 r v).free = d.free := rfl

/-! `Dev.wrRatio` -/

@[simp] theorem Dev.wrRatio_staging (d : Dev) (r : Reg) (v : Ratio) : (d.wrRatio r v).staging = d.staging := rfl
@[simp] theorem Dev.wrRatio_latches (d : Dev) (r : Reg) (v : Ratio) : (d.wrRatio r v).latches = d.latches := rfl
@[simp] theorem Dev.wrRatio_spiHeld (d : Dev) (r : Reg) (v : Ratio) : (d.wrRatio r v).spiHeld = d.spiHeld := rfl
@[simp] theorem Dev.wrRatio_boot (d : Dev) (r : Reg) (v : Ratio) : (d.wrRatio r v).boot = d.boot := rfl
@[simp] theorem Dev.wrRatio_clk (d : Dev) (r : Reg) (v : Ratio) : (d.wrRatio r v).clk = d.clk := rfl
@[simp] theorem Dev.wrRatio_quads (d : Dev) (r : Reg) (v : Ratio) : (d.wrRatio r v).quads = d.quads := rfl
@[simp] theorem Dev.wrRatio_alm (d : Dev) (r : Reg) (v : Ratio) : (d.wrRatio r v).alm = d.alm := rfl
@[simp] theorem Dev.wrRatio_oldAlm (d : Dev) (r : Reg) (v : Ratio) : (d.wrRatio r v).oldAlm = d.oldAlm := rfl
@[simp] theorem Dev.wrRatio_almValid (d : Dev) (r : Reg) (v : Ratio) : (d.wrRatio r v).almValid = d.almValid := rfl
@[simp] theorem Dev.wrRatio_stage (d : Dev) (r : Reg) (v : Ratio) : (d.wrRatio r v).stage = d.stage := rfl
@[simp] theorem Dev.wrRatio_apply (d : Dev) (r : Reg) (v : Ratio) : (d.wrRatio r v).apply = d.apply := rfl
@[simp] theorem Dev.wrRatio_logs (d : Dev) (r : Reg) (v : Ratio) : (d.wrRatio r v).logs = d.logs := rfl
@[simp] theorem Dev.wrRatio_queues (d : Dev) (r : Reg) (v : Ratio) : (d.wrRatio r v).queues = d.queues := rfl
@[simp] theorem Dev.wrRatio_handed (d : Dev) (r : Reg) (v : Ratio) : (d.wrRatio r v).handed = d.handed := rfl
@[simp] theorem Dev.wrRatio_marks (d : Dev) (r : Reg) (v : Ratio) : (d.wrRatio r v).marks = d.marks := rfl
@[simp] theorem Dev.wrRatio_pool (d : Dev) (r : Reg) (v : Ratio) : (d.wrRatio r v).pool = d.pool := rfl
@[simp] theorem Dev.wrRatio_incarn (d : Dev) (r : Reg) (v : Ratio) : (d.wrRatio r v).incarn = d.incarn := rfl
@[simp] theorem Dev.wrRatio_lanes (d : Dev) (r : Reg) (v : Ratio) : (d.wrRatio r v).lanes = d.lanes := rfl
@[simp] theorem Dev.wrRatio_ports (d : Dev) (r : Reg) (v : Ratio) : (d.wrRatio r v).ports = d.ports := rfl
@[simp] theorem Dev.wrRatio_queuings (d : Dev) (r : Reg) (v : Ratio) : (d.wrRatio r v).queuings = d.queuings := rfl
@[simp] theorem Dev.wrRatio_rests (d : Dev) (r : Reg) (v : Ratio) : (d.wrRatio r v).rests = d.rests := rfl
@[simp] theorem Dev.wrRatio_shut (d : Dev) (r : Reg) (v : Ratio) : (d.wrRatio r v).shut = d.shut := rfl
@[simp] theorem Dev.wrRatio_xports (d : Dev) (r : Reg) (v : Ratio) : (d.wrRatio r v).xports = d.xports := rfl
@[simp] theorem Dev.wrRatio_cards (d : Dev) (r : Reg) (v : Ratio) : (d.wrRatio r v).cards = d.cards := rfl
@[simp] theorem Dev.wrRatio_red (d : Dev) (r : Reg) (v : Ratio) : (d.wrRatio r v).red = d.red := rfl
@[simp] theorem Dev.wrRatio_colls (d : Dev) (r : Reg) (v : Ratio) : (d.wrRatio r v).colls = d.colls := rfl
@[simp] theorem Dev.wrRatio_collMasks (d : Dev) (r : Reg) (v : Ratio) : (d.wrRatio r v).collMasks = d.collMasks := rfl
@[simp] theorem Dev.wrRatio_collStarts (d : Dev) (r : Reg) (v : Ratio) : (d.wrRatio r v).collStarts = d.collStarts := rfl
@[simp] theorem Dev.wrRatio_axes (d : Dev) (r : Reg) (v : Ratio) : (d.wrRatio r v).axes = d.axes := rfl
@[simp] theorem Dev.wrRatio_sched (d : Dev) (r : Reg) (v : Ratio) : (d.wrRatio r v).sched = d.sched := rfl
@[simp] theorem Dev.wrRatio_schedRun (d : Dev) (r : Reg) (v : Ratio) : (d.wrRatio r v).schedRun = d.schedRun := rfl
@[simp] theorem Dev.wrRatio_chronos (d : Dev) (r : Reg) (v : Ratio) : (d.wrRatio r v).chronos = d.chronos := rfl
@[simp] theorem Dev.wrRatio_outs (d : Dev) (r : Reg) (v : Ratio) : (d.wrRatio r v).outs = d.outs := rfl
@[simp] theorem Dev.wrRatio_cmps (d : Dev) (r : Reg) (v : Ratio) : (d.wrRatio r v).cmps = d.cmps := rfl
@[simp] theorem Dev.wrRatio_tripCfgWritten (d : Dev) (r : Reg) (v : Ratio) : (d.wrRatio r v).tripCfgWritten = d.tripCfgWritten := rfl
@[simp] theorem Dev.wrRatio_fired (d : Dev) (r : Reg) (v : Ratio) : (d.wrRatio r v).fired = d.fired := rfl
@[simp] theorem Dev.wrRatio_worked (d : Dev) (r : Reg) (v : Ratio) : (d.wrRatio r v).worked = d.worked := rfl
@[simp] theorem Dev.wrRatio_caps (d : Dev) (r : Reg) (v : Ratio) : (d.wrRatio r v).caps = d.caps := rfl
@[simp] theorem Dev.wrRatio_tripJobs (d : Dev) (r : Reg) (v : Ratio) : (d.wrRatio r v).tripJobs = d.tripJobs := rfl
@[simp] theorem Dev.wrRatio_tripOut (d : Dev) (r : Reg) (v : Ratio) : (d.wrRatio r v).tripOut = d.tripOut := rfl
@[simp] theorem Dev.wrRatio_link (d : Dev) (r : Reg) (v : Ratio) : (d.wrRatio r v).link = d.link := rfl
@[simp] theorem Dev.wrRatio_vault (d : Dev) (r : Reg) (v : Ratio) : (d.wrRatio r v).vault = d.vault := rfl
@[simp] theorem Dev.wrRatio_outputs (d : Dev) (r : Reg) (v : Ratio) : (d.wrRatio r v).outputs = d.outputs := rfl
@[simp] theorem Dev.wrRatio_events (d : Dev) (r : Reg) (v : Ratio) : (d.wrRatio r v).events = d.events := rfl
@[simp] theorem Dev.wrRatio_free (d : Dev) (r : Reg) (v : Ratio) : (d.wrRatio r v).free = d.free := rfl

/-! `Dev.setBits` -/

@[simp] theorem Dev.setBits_staging (d : Dev) (r : Reg) (m : Word) : (d.setBits r m).staging = d.staging := rfl
@[simp] theorem Dev.setBits_latches (d : Dev) (r : Reg) (m : Word) : (d.setBits r m).latches = d.latches := rfl
@[simp] theorem Dev.setBits_spiHeld (d : Dev) (r : Reg) (m : Word) : (d.setBits r m).spiHeld = d.spiHeld := rfl
@[simp] theorem Dev.setBits_boot (d : Dev) (r : Reg) (m : Word) : (d.setBits r m).boot = d.boot := rfl
@[simp] theorem Dev.setBits_clk (d : Dev) (r : Reg) (m : Word) : (d.setBits r m).clk = d.clk := rfl
@[simp] theorem Dev.setBits_quads (d : Dev) (r : Reg) (m : Word) : (d.setBits r m).quads = d.quads := rfl
@[simp] theorem Dev.setBits_alm (d : Dev) (r : Reg) (m : Word) : (d.setBits r m).alm = d.alm := rfl
@[simp] theorem Dev.setBits_oldAlm (d : Dev) (r : Reg) (m : Word) : (d.setBits r m).oldAlm = d.oldAlm := rfl
@[simp] theorem Dev.setBits_almValid (d : Dev) (r : Reg) (m : Word) : (d.setBits r m).almValid = d.almValid := rfl
@[simp] theorem Dev.setBits_stage (d : Dev) (r : Reg) (m : Word) : (d.setBits r m).stage = d.stage := rfl
@[simp] theorem Dev.setBits_apply (d : Dev) (r : Reg) (m : Word) : (d.setBits r m).apply = d.apply := rfl
@[simp] theorem Dev.setBits_logs (d : Dev) (r : Reg) (m : Word) : (d.setBits r m).logs = d.logs := rfl
@[simp] theorem Dev.setBits_queues (d : Dev) (r : Reg) (m : Word) : (d.setBits r m).queues = d.queues := rfl
@[simp] theorem Dev.setBits_handed (d : Dev) (r : Reg) (m : Word) : (d.setBits r m).handed = d.handed := rfl
@[simp] theorem Dev.setBits_marks (d : Dev) (r : Reg) (m : Word) : (d.setBits r m).marks = d.marks := rfl
@[simp] theorem Dev.setBits_pool (d : Dev) (r : Reg) (m : Word) : (d.setBits r m).pool = d.pool := rfl
@[simp] theorem Dev.setBits_incarn (d : Dev) (r : Reg) (m : Word) : (d.setBits r m).incarn = d.incarn := rfl
@[simp] theorem Dev.setBits_lanes (d : Dev) (r : Reg) (m : Word) : (d.setBits r m).lanes = d.lanes := rfl
@[simp] theorem Dev.setBits_ports (d : Dev) (r : Reg) (m : Word) : (d.setBits r m).ports = d.ports := rfl
@[simp] theorem Dev.setBits_queuings (d : Dev) (r : Reg) (m : Word) : (d.setBits r m).queuings = d.queuings := rfl
@[simp] theorem Dev.setBits_rests (d : Dev) (r : Reg) (m : Word) : (d.setBits r m).rests = d.rests := rfl
@[simp] theorem Dev.setBits_shut (d : Dev) (r : Reg) (m : Word) : (d.setBits r m).shut = d.shut := rfl
@[simp] theorem Dev.setBits_xports (d : Dev) (r : Reg) (m : Word) : (d.setBits r m).xports = d.xports := rfl
@[simp] theorem Dev.setBits_cards (d : Dev) (r : Reg) (m : Word) : (d.setBits r m).cards = d.cards := rfl
@[simp] theorem Dev.setBits_red (d : Dev) (r : Reg) (m : Word) : (d.setBits r m).red = d.red := rfl
@[simp] theorem Dev.setBits_colls (d : Dev) (r : Reg) (m : Word) : (d.setBits r m).colls = d.colls := rfl
@[simp] theorem Dev.setBits_collMasks (d : Dev) (r : Reg) (m : Word) : (d.setBits r m).collMasks = d.collMasks := rfl
@[simp] theorem Dev.setBits_collStarts (d : Dev) (r : Reg) (m : Word) : (d.setBits r m).collStarts = d.collStarts := rfl
@[simp] theorem Dev.setBits_axes (d : Dev) (r : Reg) (m : Word) : (d.setBits r m).axes = d.axes := rfl
@[simp] theorem Dev.setBits_sched (d : Dev) (r : Reg) (m : Word) : (d.setBits r m).sched = d.sched := rfl
@[simp] theorem Dev.setBits_schedRun (d : Dev) (r : Reg) (m : Word) : (d.setBits r m).schedRun = d.schedRun := rfl
@[simp] theorem Dev.setBits_chronos (d : Dev) (r : Reg) (m : Word) : (d.setBits r m).chronos = d.chronos := rfl
@[simp] theorem Dev.setBits_outs (d : Dev) (r : Reg) (m : Word) : (d.setBits r m).outs = d.outs := rfl
@[simp] theorem Dev.setBits_cmps (d : Dev) (r : Reg) (m : Word) : (d.setBits r m).cmps = d.cmps := rfl
@[simp] theorem Dev.setBits_tripCfgWritten (d : Dev) (r : Reg) (m : Word) : (d.setBits r m).tripCfgWritten = d.tripCfgWritten := rfl
@[simp] theorem Dev.setBits_fired (d : Dev) (r : Reg) (m : Word) : (d.setBits r m).fired = d.fired := rfl
@[simp] theorem Dev.setBits_worked (d : Dev) (r : Reg) (m : Word) : (d.setBits r m).worked = d.worked := rfl
@[simp] theorem Dev.setBits_caps (d : Dev) (r : Reg) (m : Word) : (d.setBits r m).caps = d.caps := rfl
@[simp] theorem Dev.setBits_tripJobs (d : Dev) (r : Reg) (m : Word) : (d.setBits r m).tripJobs = d.tripJobs := rfl
@[simp] theorem Dev.setBits_tripOut (d : Dev) (r : Reg) (m : Word) : (d.setBits r m).tripOut = d.tripOut := rfl
@[simp] theorem Dev.setBits_link (d : Dev) (r : Reg) (m : Word) : (d.setBits r m).link = d.link := rfl
@[simp] theorem Dev.setBits_vault (d : Dev) (r : Reg) (m : Word) : (d.setBits r m).vault = d.vault := rfl
@[simp] theorem Dev.setBits_outputs (d : Dev) (r : Reg) (m : Word) : (d.setBits r m).outputs = d.outputs := rfl
@[simp] theorem Dev.setBits_events (d : Dev) (r : Reg) (m : Word) : (d.setBits r m).events = d.events := rfl
@[simp] theorem Dev.setBits_free (d : Dev) (r : Reg) (m : Word) : (d.setBits r m).free = d.free := rfl

/-! `Dev.clrBits` -/

@[simp] theorem Dev.clrBits_staging (d : Dev) (r : Reg) (m : Word) : (d.clrBits r m).staging = d.staging := rfl
@[simp] theorem Dev.clrBits_latches (d : Dev) (r : Reg) (m : Word) : (d.clrBits r m).latches = d.latches := rfl
@[simp] theorem Dev.clrBits_spiHeld (d : Dev) (r : Reg) (m : Word) : (d.clrBits r m).spiHeld = d.spiHeld := rfl
@[simp] theorem Dev.clrBits_boot (d : Dev) (r : Reg) (m : Word) : (d.clrBits r m).boot = d.boot := rfl
@[simp] theorem Dev.clrBits_clk (d : Dev) (r : Reg) (m : Word) : (d.clrBits r m).clk = d.clk := rfl
@[simp] theorem Dev.clrBits_quads (d : Dev) (r : Reg) (m : Word) : (d.clrBits r m).quads = d.quads := rfl
@[simp] theorem Dev.clrBits_alm (d : Dev) (r : Reg) (m : Word) : (d.clrBits r m).alm = d.alm := rfl
@[simp] theorem Dev.clrBits_oldAlm (d : Dev) (r : Reg) (m : Word) : (d.clrBits r m).oldAlm = d.oldAlm := rfl
@[simp] theorem Dev.clrBits_almValid (d : Dev) (r : Reg) (m : Word) : (d.clrBits r m).almValid = d.almValid := rfl
@[simp] theorem Dev.clrBits_stage (d : Dev) (r : Reg) (m : Word) : (d.clrBits r m).stage = d.stage := rfl
@[simp] theorem Dev.clrBits_apply (d : Dev) (r : Reg) (m : Word) : (d.clrBits r m).apply = d.apply := rfl
@[simp] theorem Dev.clrBits_logs (d : Dev) (r : Reg) (m : Word) : (d.clrBits r m).logs = d.logs := rfl
@[simp] theorem Dev.clrBits_queues (d : Dev) (r : Reg) (m : Word) : (d.clrBits r m).queues = d.queues := rfl
@[simp] theorem Dev.clrBits_handed (d : Dev) (r : Reg) (m : Word) : (d.clrBits r m).handed = d.handed := rfl
@[simp] theorem Dev.clrBits_marks (d : Dev) (r : Reg) (m : Word) : (d.clrBits r m).marks = d.marks := rfl
@[simp] theorem Dev.clrBits_pool (d : Dev) (r : Reg) (m : Word) : (d.clrBits r m).pool = d.pool := rfl
@[simp] theorem Dev.clrBits_incarn (d : Dev) (r : Reg) (m : Word) : (d.clrBits r m).incarn = d.incarn := rfl
@[simp] theorem Dev.clrBits_lanes (d : Dev) (r : Reg) (m : Word) : (d.clrBits r m).lanes = d.lanes := rfl
@[simp] theorem Dev.clrBits_ports (d : Dev) (r : Reg) (m : Word) : (d.clrBits r m).ports = d.ports := rfl
@[simp] theorem Dev.clrBits_queuings (d : Dev) (r : Reg) (m : Word) : (d.clrBits r m).queuings = d.queuings := rfl
@[simp] theorem Dev.clrBits_rests (d : Dev) (r : Reg) (m : Word) : (d.clrBits r m).rests = d.rests := rfl
@[simp] theorem Dev.clrBits_shut (d : Dev) (r : Reg) (m : Word) : (d.clrBits r m).shut = d.shut := rfl
@[simp] theorem Dev.clrBits_xports (d : Dev) (r : Reg) (m : Word) : (d.clrBits r m).xports = d.xports := rfl
@[simp] theorem Dev.clrBits_cards (d : Dev) (r : Reg) (m : Word) : (d.clrBits r m).cards = d.cards := rfl
@[simp] theorem Dev.clrBits_red (d : Dev) (r : Reg) (m : Word) : (d.clrBits r m).red = d.red := rfl
@[simp] theorem Dev.clrBits_colls (d : Dev) (r : Reg) (m : Word) : (d.clrBits r m).colls = d.colls := rfl
@[simp] theorem Dev.clrBits_collMasks (d : Dev) (r : Reg) (m : Word) : (d.clrBits r m).collMasks = d.collMasks := rfl
@[simp] theorem Dev.clrBits_collStarts (d : Dev) (r : Reg) (m : Word) : (d.clrBits r m).collStarts = d.collStarts := rfl
@[simp] theorem Dev.clrBits_axes (d : Dev) (r : Reg) (m : Word) : (d.clrBits r m).axes = d.axes := rfl
@[simp] theorem Dev.clrBits_sched (d : Dev) (r : Reg) (m : Word) : (d.clrBits r m).sched = d.sched := rfl
@[simp] theorem Dev.clrBits_schedRun (d : Dev) (r : Reg) (m : Word) : (d.clrBits r m).schedRun = d.schedRun := rfl
@[simp] theorem Dev.clrBits_chronos (d : Dev) (r : Reg) (m : Word) : (d.clrBits r m).chronos = d.chronos := rfl
@[simp] theorem Dev.clrBits_outs (d : Dev) (r : Reg) (m : Word) : (d.clrBits r m).outs = d.outs := rfl
@[simp] theorem Dev.clrBits_cmps (d : Dev) (r : Reg) (m : Word) : (d.clrBits r m).cmps = d.cmps := rfl
@[simp] theorem Dev.clrBits_tripCfgWritten (d : Dev) (r : Reg) (m : Word) : (d.clrBits r m).tripCfgWritten = d.tripCfgWritten := rfl
@[simp] theorem Dev.clrBits_fired (d : Dev) (r : Reg) (m : Word) : (d.clrBits r m).fired = d.fired := rfl
@[simp] theorem Dev.clrBits_worked (d : Dev) (r : Reg) (m : Word) : (d.clrBits r m).worked = d.worked := rfl
@[simp] theorem Dev.clrBits_caps (d : Dev) (r : Reg) (m : Word) : (d.clrBits r m).caps = d.caps := rfl
@[simp] theorem Dev.clrBits_tripJobs (d : Dev) (r : Reg) (m : Word) : (d.clrBits r m).tripJobs = d.tripJobs := rfl
@[simp] theorem Dev.clrBits_tripOut (d : Dev) (r : Reg) (m : Word) : (d.clrBits r m).tripOut = d.tripOut := rfl
@[simp] theorem Dev.clrBits_link (d : Dev) (r : Reg) (m : Word) : (d.clrBits r m).link = d.link := rfl
@[simp] theorem Dev.clrBits_vault (d : Dev) (r : Reg) (m : Word) : (d.clrBits r m).vault = d.vault := rfl
@[simp] theorem Dev.clrBits_outputs (d : Dev) (r : Reg) (m : Word) : (d.clrBits r m).outputs = d.outputs := rfl
@[simp] theorem Dev.clrBits_events (d : Dev) (r : Reg) (m : Word) : (d.clrBits r m).events = d.events := rfl
@[simp] theorem Dev.clrBits_free (d : Dev) (r : Reg) (m : Word) : (d.clrBits r m).free = d.free := rfl

/-! `Dev.count` -/

@[simp] theorem Dev.count_staging (d : Dev) (r : Reg) (k : Nat) : (d.count r k).staging = d.staging := rfl
@[simp] theorem Dev.count_latches (d : Dev) (r : Reg) (k : Nat) : (d.count r k).latches = d.latches := rfl
@[simp] theorem Dev.count_spiHeld (d : Dev) (r : Reg) (k : Nat) : (d.count r k).spiHeld = d.spiHeld := rfl
@[simp] theorem Dev.count_boot (d : Dev) (r : Reg) (k : Nat) : (d.count r k).boot = d.boot := rfl
@[simp] theorem Dev.count_clk (d : Dev) (r : Reg) (k : Nat) : (d.count r k).clk = d.clk := rfl
@[simp] theorem Dev.count_quads (d : Dev) (r : Reg) (k : Nat) : (d.count r k).quads = d.quads := rfl
@[simp] theorem Dev.count_alm (d : Dev) (r : Reg) (k : Nat) : (d.count r k).alm = d.alm := rfl
@[simp] theorem Dev.count_oldAlm (d : Dev) (r : Reg) (k : Nat) : (d.count r k).oldAlm = d.oldAlm := rfl
@[simp] theorem Dev.count_almValid (d : Dev) (r : Reg) (k : Nat) : (d.count r k).almValid = d.almValid := rfl
@[simp] theorem Dev.count_stage (d : Dev) (r : Reg) (k : Nat) : (d.count r k).stage = d.stage := rfl
@[simp] theorem Dev.count_apply (d : Dev) (r : Reg) (k : Nat) : (d.count r k).apply = d.apply := rfl
@[simp] theorem Dev.count_logs (d : Dev) (r : Reg) (k : Nat) : (d.count r k).logs = d.logs := rfl
@[simp] theorem Dev.count_queues (d : Dev) (r : Reg) (k : Nat) : (d.count r k).queues = d.queues := rfl
@[simp] theorem Dev.count_handed (d : Dev) (r : Reg) (k : Nat) : (d.count r k).handed = d.handed := rfl
@[simp] theorem Dev.count_marks (d : Dev) (r : Reg) (k : Nat) : (d.count r k).marks = d.marks := rfl
@[simp] theorem Dev.count_pool (d : Dev) (r : Reg) (k : Nat) : (d.count r k).pool = d.pool := rfl
@[simp] theorem Dev.count_incarn (d : Dev) (r : Reg) (k : Nat) : (d.count r k).incarn = d.incarn := rfl
@[simp] theorem Dev.count_lanes (d : Dev) (r : Reg) (k : Nat) : (d.count r k).lanes = d.lanes := rfl
@[simp] theorem Dev.count_ports (d : Dev) (r : Reg) (k : Nat) : (d.count r k).ports = d.ports := rfl
@[simp] theorem Dev.count_queuings (d : Dev) (r : Reg) (k : Nat) : (d.count r k).queuings = d.queuings := rfl
@[simp] theorem Dev.count_rests (d : Dev) (r : Reg) (k : Nat) : (d.count r k).rests = d.rests := rfl
@[simp] theorem Dev.count_shut (d : Dev) (r : Reg) (k : Nat) : (d.count r k).shut = d.shut := rfl
@[simp] theorem Dev.count_xports (d : Dev) (r : Reg) (k : Nat) : (d.count r k).xports = d.xports := rfl
@[simp] theorem Dev.count_cards (d : Dev) (r : Reg) (k : Nat) : (d.count r k).cards = d.cards := rfl
@[simp] theorem Dev.count_red (d : Dev) (r : Reg) (k : Nat) : (d.count r k).red = d.red := rfl
@[simp] theorem Dev.count_colls (d : Dev) (r : Reg) (k : Nat) : (d.count r k).colls = d.colls := rfl
@[simp] theorem Dev.count_collMasks (d : Dev) (r : Reg) (k : Nat) : (d.count r k).collMasks = d.collMasks := rfl
@[simp] theorem Dev.count_collStarts (d : Dev) (r : Reg) (k : Nat) : (d.count r k).collStarts = d.collStarts := rfl
@[simp] theorem Dev.count_axes (d : Dev) (r : Reg) (k : Nat) : (d.count r k).axes = d.axes := rfl
@[simp] theorem Dev.count_sched (d : Dev) (r : Reg) (k : Nat) : (d.count r k).sched = d.sched := rfl
@[simp] theorem Dev.count_schedRun (d : Dev) (r : Reg) (k : Nat) : (d.count r k).schedRun = d.schedRun := rfl
@[simp] theorem Dev.count_chronos (d : Dev) (r : Reg) (k : Nat) : (d.count r k).chronos = d.chronos := rfl
@[simp] theorem Dev.count_outs (d : Dev) (r : Reg) (k : Nat) : (d.count r k).outs = d.outs := rfl
@[simp] theorem Dev.count_cmps (d : Dev) (r : Reg) (k : Nat) : (d.count r k).cmps = d.cmps := rfl
@[simp] theorem Dev.count_tripCfgWritten (d : Dev) (r : Reg) (k : Nat) : (d.count r k).tripCfgWritten = d.tripCfgWritten := rfl
@[simp] theorem Dev.count_fired (d : Dev) (r : Reg) (k : Nat) : (d.count r k).fired = d.fired := rfl
@[simp] theorem Dev.count_worked (d : Dev) (r : Reg) (k : Nat) : (d.count r k).worked = d.worked := rfl
@[simp] theorem Dev.count_caps (d : Dev) (r : Reg) (k : Nat) : (d.count r k).caps = d.caps := rfl
@[simp] theorem Dev.count_tripJobs (d : Dev) (r : Reg) (k : Nat) : (d.count r k).tripJobs = d.tripJobs := rfl
@[simp] theorem Dev.count_tripOut (d : Dev) (r : Reg) (k : Nat) : (d.count r k).tripOut = d.tripOut := rfl
@[simp] theorem Dev.count_link (d : Dev) (r : Reg) (k : Nat) : (d.count r k).link = d.link := rfl
@[simp] theorem Dev.count_vault (d : Dev) (r : Reg) (k : Nat) : (d.count r k).vault = d.vault := rfl
@[simp] theorem Dev.count_outputs (d : Dev) (r : Reg) (k : Nat) : (d.count r k).outputs = d.outputs := rfl
@[simp] theorem Dev.count_events (d : Dev) (r : Reg) (k : Nat) : (d.count r k).events = d.events := rfl
@[simp] theorem Dev.count_free (d : Dev) (r : Reg) (k : Nat) : (d.count r k).free = d.free := rfl

/-! `Dev.countFld` -/

@[simp] theorem Dev.countFld_staging (d : Dev) (r : Reg) (lo len k : Nat) : (d.countFld r lo len k).staging = d.staging := rfl
@[simp] theorem Dev.countFld_latches (d : Dev) (r : Reg) (lo len k : Nat) : (d.countFld r lo len k).latches = d.latches := rfl
@[simp] theorem Dev.countFld_spiHeld (d : Dev) (r : Reg) (lo len k : Nat) : (d.countFld r lo len k).spiHeld = d.spiHeld := rfl
@[simp] theorem Dev.countFld_boot (d : Dev) (r : Reg) (lo len k : Nat) : (d.countFld r lo len k).boot = d.boot := rfl
@[simp] theorem Dev.countFld_clk (d : Dev) (r : Reg) (lo len k : Nat) : (d.countFld r lo len k).clk = d.clk := rfl
@[simp] theorem Dev.countFld_quads (d : Dev) (r : Reg) (lo len k : Nat) : (d.countFld r lo len k).quads = d.quads := rfl
@[simp] theorem Dev.countFld_alm (d : Dev) (r : Reg) (lo len k : Nat) : (d.countFld r lo len k).alm = d.alm := rfl
@[simp] theorem Dev.countFld_oldAlm (d : Dev) (r : Reg) (lo len k : Nat) : (d.countFld r lo len k).oldAlm = d.oldAlm := rfl
@[simp] theorem Dev.countFld_almValid (d : Dev) (r : Reg) (lo len k : Nat) : (d.countFld r lo len k).almValid = d.almValid := rfl
@[simp] theorem Dev.countFld_stage (d : Dev) (r : Reg) (lo len k : Nat) : (d.countFld r lo len k).stage = d.stage := rfl
@[simp] theorem Dev.countFld_apply (d : Dev) (r : Reg) (lo len k : Nat) : (d.countFld r lo len k).apply = d.apply := rfl
@[simp] theorem Dev.countFld_logs (d : Dev) (r : Reg) (lo len k : Nat) : (d.countFld r lo len k).logs = d.logs := rfl
@[simp] theorem Dev.countFld_queues (d : Dev) (r : Reg) (lo len k : Nat) : (d.countFld r lo len k).queues = d.queues := rfl
@[simp] theorem Dev.countFld_handed (d : Dev) (r : Reg) (lo len k : Nat) : (d.countFld r lo len k).handed = d.handed := rfl
@[simp] theorem Dev.countFld_marks (d : Dev) (r : Reg) (lo len k : Nat) : (d.countFld r lo len k).marks = d.marks := rfl
@[simp] theorem Dev.countFld_pool (d : Dev) (r : Reg) (lo len k : Nat) : (d.countFld r lo len k).pool = d.pool := rfl
@[simp] theorem Dev.countFld_incarn (d : Dev) (r : Reg) (lo len k : Nat) : (d.countFld r lo len k).incarn = d.incarn := rfl
@[simp] theorem Dev.countFld_lanes (d : Dev) (r : Reg) (lo len k : Nat) : (d.countFld r lo len k).lanes = d.lanes := rfl
@[simp] theorem Dev.countFld_ports (d : Dev) (r : Reg) (lo len k : Nat) : (d.countFld r lo len k).ports = d.ports := rfl
@[simp] theorem Dev.countFld_queuings (d : Dev) (r : Reg) (lo len k : Nat) : (d.countFld r lo len k).queuings = d.queuings := rfl
@[simp] theorem Dev.countFld_rests (d : Dev) (r : Reg) (lo len k : Nat) : (d.countFld r lo len k).rests = d.rests := rfl
@[simp] theorem Dev.countFld_shut (d : Dev) (r : Reg) (lo len k : Nat) : (d.countFld r lo len k).shut = d.shut := rfl
@[simp] theorem Dev.countFld_xports (d : Dev) (r : Reg) (lo len k : Nat) : (d.countFld r lo len k).xports = d.xports := rfl
@[simp] theorem Dev.countFld_cards (d : Dev) (r : Reg) (lo len k : Nat) : (d.countFld r lo len k).cards = d.cards := rfl
@[simp] theorem Dev.countFld_red (d : Dev) (r : Reg) (lo len k : Nat) : (d.countFld r lo len k).red = d.red := rfl
@[simp] theorem Dev.countFld_colls (d : Dev) (r : Reg) (lo len k : Nat) : (d.countFld r lo len k).colls = d.colls := rfl
@[simp] theorem Dev.countFld_collMasks (d : Dev) (r : Reg) (lo len k : Nat) : (d.countFld r lo len k).collMasks = d.collMasks := rfl
@[simp] theorem Dev.countFld_collStarts (d : Dev) (r : Reg) (lo len k : Nat) : (d.countFld r lo len k).collStarts = d.collStarts := rfl
@[simp] theorem Dev.countFld_axes (d : Dev) (r : Reg) (lo len k : Nat) : (d.countFld r lo len k).axes = d.axes := rfl
@[simp] theorem Dev.countFld_sched (d : Dev) (r : Reg) (lo len k : Nat) : (d.countFld r lo len k).sched = d.sched := rfl
@[simp] theorem Dev.countFld_schedRun (d : Dev) (r : Reg) (lo len k : Nat) : (d.countFld r lo len k).schedRun = d.schedRun := rfl
@[simp] theorem Dev.countFld_chronos (d : Dev) (r : Reg) (lo len k : Nat) : (d.countFld r lo len k).chronos = d.chronos := rfl
@[simp] theorem Dev.countFld_outs (d : Dev) (r : Reg) (lo len k : Nat) : (d.countFld r lo len k).outs = d.outs := rfl
@[simp] theorem Dev.countFld_cmps (d : Dev) (r : Reg) (lo len k : Nat) : (d.countFld r lo len k).cmps = d.cmps := rfl
@[simp] theorem Dev.countFld_tripCfgWritten (d : Dev) (r : Reg) (lo len k : Nat) : (d.countFld r lo len k).tripCfgWritten = d.tripCfgWritten := rfl
@[simp] theorem Dev.countFld_fired (d : Dev) (r : Reg) (lo len k : Nat) : (d.countFld r lo len k).fired = d.fired := rfl
@[simp] theorem Dev.countFld_worked (d : Dev) (r : Reg) (lo len k : Nat) : (d.countFld r lo len k).worked = d.worked := rfl
@[simp] theorem Dev.countFld_caps (d : Dev) (r : Reg) (lo len k : Nat) : (d.countFld r lo len k).caps = d.caps := rfl
@[simp] theorem Dev.countFld_tripJobs (d : Dev) (r : Reg) (lo len k : Nat) : (d.countFld r lo len k).tripJobs = d.tripJobs := rfl
@[simp] theorem Dev.countFld_tripOut (d : Dev) (r : Reg) (lo len k : Nat) : (d.countFld r lo len k).tripOut = d.tripOut := rfl
@[simp] theorem Dev.countFld_link (d : Dev) (r : Reg) (lo len k : Nat) : (d.countFld r lo len k).link = d.link := rfl
@[simp] theorem Dev.countFld_vault (d : Dev) (r : Reg) (lo len k : Nat) : (d.countFld r lo len k).vault = d.vault := rfl
@[simp] theorem Dev.countFld_outputs (d : Dev) (r : Reg) (lo len k : Nat) : (d.countFld r lo len k).outputs = d.outputs := rfl
@[simp] theorem Dev.countFld_events (d : Dev) (r : Reg) (lo len k : Nat) : (d.countFld r lo len k).events = d.events := rfl
@[simp] theorem Dev.countFld_free (d : Dev) (r : Reg) (lo len k : Nat) : (d.countFld r lo len k).free = d.free := rfl

/-! `Dev.setLane` -/

@[simp] theorem Dev.setLane_regs (d : Dev) (n : Fin 32) (l : Lane) : (d.setLane n l).regs = d.regs := rfl
@[simp] theorem Dev.setLane_staging (d : Dev) (n : Fin 32) (l : Lane) : (d.setLane n l).staging = d.staging := rfl
@[simp] theorem Dev.setLane_latches (d : Dev) (n : Fin 32) (l : Lane) : (d.setLane n l).latches = d.latches := rfl
@[simp] theorem Dev.setLane_spiHeld (d : Dev) (n : Fin 32) (l : Lane) : (d.setLane n l).spiHeld = d.spiHeld := rfl
@[simp] theorem Dev.setLane_boot (d : Dev) (n : Fin 32) (l : Lane) : (d.setLane n l).boot = d.boot := rfl
@[simp] theorem Dev.setLane_clk (d : Dev) (n : Fin 32) (l : Lane) : (d.setLane n l).clk = d.clk := rfl
@[simp] theorem Dev.setLane_quads (d : Dev) (n : Fin 32) (l : Lane) : (d.setLane n l).quads = d.quads := rfl
@[simp] theorem Dev.setLane_alm (d : Dev) (n : Fin 32) (l : Lane) : (d.setLane n l).alm = d.alm := rfl
@[simp] theorem Dev.setLane_oldAlm (d : Dev) (n : Fin 32) (l : Lane) : (d.setLane n l).oldAlm = d.oldAlm := rfl
@[simp] theorem Dev.setLane_almValid (d : Dev) (n : Fin 32) (l : Lane) : (d.setLane n l).almValid = d.almValid := rfl
@[simp] theorem Dev.setLane_stage (d : Dev) (n : Fin 32) (l : Lane) : (d.setLane n l).stage = d.stage := rfl
@[simp] theorem Dev.setLane_apply (d : Dev) (n : Fin 32) (l : Lane) : (d.setLane n l).apply = d.apply := rfl
@[simp] theorem Dev.setLane_logs (d : Dev) (n : Fin 32) (l : Lane) : (d.setLane n l).logs = d.logs := rfl
@[simp] theorem Dev.setLane_queues (d : Dev) (n : Fin 32) (l : Lane) : (d.setLane n l).queues = d.queues := rfl
@[simp] theorem Dev.setLane_handed (d : Dev) (n : Fin 32) (l : Lane) : (d.setLane n l).handed = d.handed := rfl
@[simp] theorem Dev.setLane_marks (d : Dev) (n : Fin 32) (l : Lane) : (d.setLane n l).marks = d.marks := rfl
@[simp] theorem Dev.setLane_pool (d : Dev) (n : Fin 32) (l : Lane) : (d.setLane n l).pool = d.pool := rfl
@[simp] theorem Dev.setLane_incarn (d : Dev) (n : Fin 32) (l : Lane) : (d.setLane n l).incarn = d.incarn := rfl
@[simp] theorem Dev.setLane_lanes (d : Dev) (n : Fin 32) (l : Lane) : (d.setLane n l).lanes = d.lanes.set n l := rfl
@[simp] theorem Dev.setLane_ports (d : Dev) (n : Fin 32) (l : Lane) : (d.setLane n l).ports = d.ports := rfl
@[simp] theorem Dev.setLane_queuings (d : Dev) (n : Fin 32) (l : Lane) : (d.setLane n l).queuings = d.queuings := rfl
@[simp] theorem Dev.setLane_rests (d : Dev) (n : Fin 32) (l : Lane) : (d.setLane n l).rests = d.rests := rfl
@[simp] theorem Dev.setLane_shut (d : Dev) (n : Fin 32) (l : Lane) : (d.setLane n l).shut = d.shut := rfl
@[simp] theorem Dev.setLane_xports (d : Dev) (n : Fin 32) (l : Lane) : (d.setLane n l).xports = d.xports := rfl
@[simp] theorem Dev.setLane_cards (d : Dev) (n : Fin 32) (l : Lane) : (d.setLane n l).cards = d.cards := rfl
@[simp] theorem Dev.setLane_red (d : Dev) (n : Fin 32) (l : Lane) : (d.setLane n l).red = d.red := rfl
@[simp] theorem Dev.setLane_colls (d : Dev) (n : Fin 32) (l : Lane) : (d.setLane n l).colls = d.colls := rfl
@[simp] theorem Dev.setLane_collMasks (d : Dev) (n : Fin 32) (l : Lane) : (d.setLane n l).collMasks = d.collMasks := rfl
@[simp] theorem Dev.setLane_collStarts (d : Dev) (n : Fin 32) (l : Lane) : (d.setLane n l).collStarts = d.collStarts := rfl
@[simp] theorem Dev.setLane_axes (d : Dev) (n : Fin 32) (l : Lane) : (d.setLane n l).axes = d.axes := rfl
@[simp] theorem Dev.setLane_sched (d : Dev) (n : Fin 32) (l : Lane) : (d.setLane n l).sched = d.sched := rfl
@[simp] theorem Dev.setLane_schedRun (d : Dev) (n : Fin 32) (l : Lane) : (d.setLane n l).schedRun = d.schedRun := rfl
@[simp] theorem Dev.setLane_chronos (d : Dev) (n : Fin 32) (l : Lane) : (d.setLane n l).chronos = d.chronos := rfl
@[simp] theorem Dev.setLane_outs (d : Dev) (n : Fin 32) (l : Lane) : (d.setLane n l).outs = d.outs := rfl
@[simp] theorem Dev.setLane_cmps (d : Dev) (n : Fin 32) (l : Lane) : (d.setLane n l).cmps = d.cmps := rfl
@[simp] theorem Dev.setLane_tripCfgWritten (d : Dev) (n : Fin 32) (l : Lane) : (d.setLane n l).tripCfgWritten = d.tripCfgWritten := rfl
@[simp] theorem Dev.setLane_fired (d : Dev) (n : Fin 32) (l : Lane) : (d.setLane n l).fired = d.fired := rfl
@[simp] theorem Dev.setLane_worked (d : Dev) (n : Fin 32) (l : Lane) : (d.setLane n l).worked = d.worked := rfl
@[simp] theorem Dev.setLane_caps (d : Dev) (n : Fin 32) (l : Lane) : (d.setLane n l).caps = d.caps := rfl
@[simp] theorem Dev.setLane_tripJobs (d : Dev) (n : Fin 32) (l : Lane) : (d.setLane n l).tripJobs = d.tripJobs := rfl
@[simp] theorem Dev.setLane_tripOut (d : Dev) (n : Fin 32) (l : Lane) : (d.setLane n l).tripOut = d.tripOut := rfl
@[simp] theorem Dev.setLane_link (d : Dev) (n : Fin 32) (l : Lane) : (d.setLane n l).link = d.link := rfl
@[simp] theorem Dev.setLane_vault (d : Dev) (n : Fin 32) (l : Lane) : (d.setLane n l).vault = d.vault := rfl
@[simp] theorem Dev.setLane_outputs (d : Dev) (n : Fin 32) (l : Lane) : (d.setLane n l).outputs = d.outputs := rfl
@[simp] theorem Dev.setLane_events (d : Dev) (n : Fin 32) (l : Lane) : (d.setLane n l).events = d.events := rfl
@[simp] theorem Dev.setLane_free (d : Dev) (n : Fin 32) (l : Lane) : (d.setLane n l).free = d.free := rfl

/-! `Dev.onLane` -/

@[simp] theorem Dev.onLane_regs (d : Dev) (n : Fin 32) (f : Lane → Lane) : (d.onLane n f).regs = d.regs := rfl
@[simp] theorem Dev.onLane_staging (d : Dev) (n : Fin 32) (f : Lane → Lane) : (d.onLane n f).staging = d.staging := rfl
@[simp] theorem Dev.onLane_latches (d : Dev) (n : Fin 32) (f : Lane → Lane) : (d.onLane n f).latches = d.latches := rfl
@[simp] theorem Dev.onLane_spiHeld (d : Dev) (n : Fin 32) (f : Lane → Lane) : (d.onLane n f).spiHeld = d.spiHeld := rfl
@[simp] theorem Dev.onLane_boot (d : Dev) (n : Fin 32) (f : Lane → Lane) : (d.onLane n f).boot = d.boot := rfl
@[simp] theorem Dev.onLane_clk (d : Dev) (n : Fin 32) (f : Lane → Lane) : (d.onLane n f).clk = d.clk := rfl
@[simp] theorem Dev.onLane_quads (d : Dev) (n : Fin 32) (f : Lane → Lane) : (d.onLane n f).quads = d.quads := rfl
@[simp] theorem Dev.onLane_alm (d : Dev) (n : Fin 32) (f : Lane → Lane) : (d.onLane n f).alm = d.alm := rfl
@[simp] theorem Dev.onLane_oldAlm (d : Dev) (n : Fin 32) (f : Lane → Lane) : (d.onLane n f).oldAlm = d.oldAlm := rfl
@[simp] theorem Dev.onLane_almValid (d : Dev) (n : Fin 32) (f : Lane → Lane) : (d.onLane n f).almValid = d.almValid := rfl
@[simp] theorem Dev.onLane_stage (d : Dev) (n : Fin 32) (f : Lane → Lane) : (d.onLane n f).stage = d.stage := rfl
@[simp] theorem Dev.onLane_apply (d : Dev) (n : Fin 32) (f : Lane → Lane) : (d.onLane n f).apply = d.apply := rfl
@[simp] theorem Dev.onLane_logs (d : Dev) (n : Fin 32) (f : Lane → Lane) : (d.onLane n f).logs = d.logs := rfl
@[simp] theorem Dev.onLane_queues (d : Dev) (n : Fin 32) (f : Lane → Lane) : (d.onLane n f).queues = d.queues := rfl
@[simp] theorem Dev.onLane_handed (d : Dev) (n : Fin 32) (f : Lane → Lane) : (d.onLane n f).handed = d.handed := rfl
@[simp] theorem Dev.onLane_marks (d : Dev) (n : Fin 32) (f : Lane → Lane) : (d.onLane n f).marks = d.marks := rfl
@[simp] theorem Dev.onLane_pool (d : Dev) (n : Fin 32) (f : Lane → Lane) : (d.onLane n f).pool = d.pool := rfl
@[simp] theorem Dev.onLane_incarn (d : Dev) (n : Fin 32) (f : Lane → Lane) : (d.onLane n f).incarn = d.incarn := rfl
@[simp] theorem Dev.onLane_lanes (d : Dev) (n : Fin 32) (f : Lane → Lane) : (d.onLane n f).lanes = d.lanes.set n (f d.lanes[n]) := rfl
@[simp] theorem Dev.onLane_ports (d : Dev) (n : Fin 32) (f : Lane → Lane) : (d.onLane n f).ports = d.ports := rfl
@[simp] theorem Dev.onLane_queuings (d : Dev) (n : Fin 32) (f : Lane → Lane) : (d.onLane n f).queuings = d.queuings := rfl
@[simp] theorem Dev.onLane_rests (d : Dev) (n : Fin 32) (f : Lane → Lane) : (d.onLane n f).rests = d.rests := rfl
@[simp] theorem Dev.onLane_shut (d : Dev) (n : Fin 32) (f : Lane → Lane) : (d.onLane n f).shut = d.shut := rfl
@[simp] theorem Dev.onLane_xports (d : Dev) (n : Fin 32) (f : Lane → Lane) : (d.onLane n f).xports = d.xports := rfl
@[simp] theorem Dev.onLane_cards (d : Dev) (n : Fin 32) (f : Lane → Lane) : (d.onLane n f).cards = d.cards := rfl
@[simp] theorem Dev.onLane_red (d : Dev) (n : Fin 32) (f : Lane → Lane) : (d.onLane n f).red = d.red := rfl
@[simp] theorem Dev.onLane_colls (d : Dev) (n : Fin 32) (f : Lane → Lane) : (d.onLane n f).colls = d.colls := rfl
@[simp] theorem Dev.onLane_collMasks (d : Dev) (n : Fin 32) (f : Lane → Lane) : (d.onLane n f).collMasks = d.collMasks := rfl
@[simp] theorem Dev.onLane_collStarts (d : Dev) (n : Fin 32) (f : Lane → Lane) : (d.onLane n f).collStarts = d.collStarts := rfl
@[simp] theorem Dev.onLane_axes (d : Dev) (n : Fin 32) (f : Lane → Lane) : (d.onLane n f).axes = d.axes := rfl
@[simp] theorem Dev.onLane_sched (d : Dev) (n : Fin 32) (f : Lane → Lane) : (d.onLane n f).sched = d.sched := rfl
@[simp] theorem Dev.onLane_schedRun (d : Dev) (n : Fin 32) (f : Lane → Lane) : (d.onLane n f).schedRun = d.schedRun := rfl
@[simp] theorem Dev.onLane_chronos (d : Dev) (n : Fin 32) (f : Lane → Lane) : (d.onLane n f).chronos = d.chronos := rfl
@[simp] theorem Dev.onLane_outs (d : Dev) (n : Fin 32) (f : Lane → Lane) : (d.onLane n f).outs = d.outs := rfl
@[simp] theorem Dev.onLane_cmps (d : Dev) (n : Fin 32) (f : Lane → Lane) : (d.onLane n f).cmps = d.cmps := rfl
@[simp] theorem Dev.onLane_tripCfgWritten (d : Dev) (n : Fin 32) (f : Lane → Lane) : (d.onLane n f).tripCfgWritten = d.tripCfgWritten := rfl
@[simp] theorem Dev.onLane_fired (d : Dev) (n : Fin 32) (f : Lane → Lane) : (d.onLane n f).fired = d.fired := rfl
@[simp] theorem Dev.onLane_worked (d : Dev) (n : Fin 32) (f : Lane → Lane) : (d.onLane n f).worked = d.worked := rfl
@[simp] theorem Dev.onLane_caps (d : Dev) (n : Fin 32) (f : Lane → Lane) : (d.onLane n f).caps = d.caps := rfl
@[simp] theorem Dev.onLane_tripJobs (d : Dev) (n : Fin 32) (f : Lane → Lane) : (d.onLane n f).tripJobs = d.tripJobs := rfl
@[simp] theorem Dev.onLane_tripOut (d : Dev) (n : Fin 32) (f : Lane → Lane) : (d.onLane n f).tripOut = d.tripOut := rfl
@[simp] theorem Dev.onLane_link (d : Dev) (n : Fin 32) (f : Lane → Lane) : (d.onLane n f).link = d.link := rfl
@[simp] theorem Dev.onLane_vault (d : Dev) (n : Fin 32) (f : Lane → Lane) : (d.onLane n f).vault = d.vault := rfl
@[simp] theorem Dev.onLane_outputs (d : Dev) (n : Fin 32) (f : Lane → Lane) : (d.onLane n f).outputs = d.outputs := rfl
@[simp] theorem Dev.onLane_events (d : Dev) (n : Fin 32) (f : Lane → Lane) : (d.onLane n f).events = d.events := rfl
@[simp] theorem Dev.onLane_free (d : Dev) (n : Fin 32) (f : Lane → Lane) : (d.onLane n f).free = d.free := rfl

/-! `Dev.onPort` -/

@[simp] theorem Dev.onPort_regs (d : Dev) (p : Fin 136) (f : Port → Port) : (d.onPort p f).regs = d.regs := rfl
@[simp] theorem Dev.onPort_staging (d : Dev) (p : Fin 136) (f : Port → Port) : (d.onPort p f).staging = d.staging := rfl
@[simp] theorem Dev.onPort_latches (d : Dev) (p : Fin 136) (f : Port → Port) : (d.onPort p f).latches = d.latches := rfl
@[simp] theorem Dev.onPort_spiHeld (d : Dev) (p : Fin 136) (f : Port → Port) : (d.onPort p f).spiHeld = d.spiHeld := rfl
@[simp] theorem Dev.onPort_boot (d : Dev) (p : Fin 136) (f : Port → Port) : (d.onPort p f).boot = d.boot := rfl
@[simp] theorem Dev.onPort_clk (d : Dev) (p : Fin 136) (f : Port → Port) : (d.onPort p f).clk = d.clk := rfl
@[simp] theorem Dev.onPort_quads (d : Dev) (p : Fin 136) (f : Port → Port) : (d.onPort p f).quads = d.quads := rfl
@[simp] theorem Dev.onPort_alm (d : Dev) (p : Fin 136) (f : Port → Port) : (d.onPort p f).alm = d.alm := rfl
@[simp] theorem Dev.onPort_oldAlm (d : Dev) (p : Fin 136) (f : Port → Port) : (d.onPort p f).oldAlm = d.oldAlm := rfl
@[simp] theorem Dev.onPort_almValid (d : Dev) (p : Fin 136) (f : Port → Port) : (d.onPort p f).almValid = d.almValid := rfl
@[simp] theorem Dev.onPort_stage (d : Dev) (p : Fin 136) (f : Port → Port) : (d.onPort p f).stage = d.stage := rfl
@[simp] theorem Dev.onPort_apply (d : Dev) (p : Fin 136) (f : Port → Port) : (d.onPort p f).apply = d.apply := rfl
@[simp] theorem Dev.onPort_logs (d : Dev) (p : Fin 136) (f : Port → Port) : (d.onPort p f).logs = d.logs := rfl
@[simp] theorem Dev.onPort_queues (d : Dev) (p : Fin 136) (f : Port → Port) : (d.onPort p f).queues = d.queues := rfl
@[simp] theorem Dev.onPort_handed (d : Dev) (p : Fin 136) (f : Port → Port) : (d.onPort p f).handed = d.handed := rfl
@[simp] theorem Dev.onPort_marks (d : Dev) (p : Fin 136) (f : Port → Port) : (d.onPort p f).marks = d.marks := rfl
@[simp] theorem Dev.onPort_pool (d : Dev) (p : Fin 136) (f : Port → Port) : (d.onPort p f).pool = d.pool := rfl
@[simp] theorem Dev.onPort_incarn (d : Dev) (p : Fin 136) (f : Port → Port) : (d.onPort p f).incarn = d.incarn := rfl
@[simp] theorem Dev.onPort_lanes (d : Dev) (p : Fin 136) (f : Port → Port) : (d.onPort p f).lanes = d.lanes := rfl
@[simp] theorem Dev.onPort_ports (d : Dev) (p : Fin 136) (f : Port → Port) : (d.onPort p f).ports = d.ports.set p (f d.ports[p]) := rfl
@[simp] theorem Dev.onPort_queuings (d : Dev) (p : Fin 136) (f : Port → Port) : (d.onPort p f).queuings = d.queuings := rfl
@[simp] theorem Dev.onPort_rests (d : Dev) (p : Fin 136) (f : Port → Port) : (d.onPort p f).rests = d.rests := rfl
@[simp] theorem Dev.onPort_shut (d : Dev) (p : Fin 136) (f : Port → Port) : (d.onPort p f).shut = d.shut := rfl
@[simp] theorem Dev.onPort_xports (d : Dev) (p : Fin 136) (f : Port → Port) : (d.onPort p f).xports = d.xports := rfl
@[simp] theorem Dev.onPort_cards (d : Dev) (p : Fin 136) (f : Port → Port) : (d.onPort p f).cards = d.cards := rfl
@[simp] theorem Dev.onPort_red (d : Dev) (p : Fin 136) (f : Port → Port) : (d.onPort p f).red = d.red := rfl
@[simp] theorem Dev.onPort_colls (d : Dev) (p : Fin 136) (f : Port → Port) : (d.onPort p f).colls = d.colls := rfl
@[simp] theorem Dev.onPort_collMasks (d : Dev) (p : Fin 136) (f : Port → Port) : (d.onPort p f).collMasks = d.collMasks := rfl
@[simp] theorem Dev.onPort_collStarts (d : Dev) (p : Fin 136) (f : Port → Port) : (d.onPort p f).collStarts = d.collStarts := rfl
@[simp] theorem Dev.onPort_axes (d : Dev) (p : Fin 136) (f : Port → Port) : (d.onPort p f).axes = d.axes := rfl
@[simp] theorem Dev.onPort_sched (d : Dev) (p : Fin 136) (f : Port → Port) : (d.onPort p f).sched = d.sched := rfl
@[simp] theorem Dev.onPort_schedRun (d : Dev) (p : Fin 136) (f : Port → Port) : (d.onPort p f).schedRun = d.schedRun := rfl
@[simp] theorem Dev.onPort_chronos (d : Dev) (p : Fin 136) (f : Port → Port) : (d.onPort p f).chronos = d.chronos := rfl
@[simp] theorem Dev.onPort_outs (d : Dev) (p : Fin 136) (f : Port → Port) : (d.onPort p f).outs = d.outs := rfl
@[simp] theorem Dev.onPort_cmps (d : Dev) (p : Fin 136) (f : Port → Port) : (d.onPort p f).cmps = d.cmps := rfl
@[simp] theorem Dev.onPort_tripCfgWritten (d : Dev) (p : Fin 136) (f : Port → Port) : (d.onPort p f).tripCfgWritten = d.tripCfgWritten := rfl
@[simp] theorem Dev.onPort_fired (d : Dev) (p : Fin 136) (f : Port → Port) : (d.onPort p f).fired = d.fired := rfl
@[simp] theorem Dev.onPort_worked (d : Dev) (p : Fin 136) (f : Port → Port) : (d.onPort p f).worked = d.worked := rfl
@[simp] theorem Dev.onPort_caps (d : Dev) (p : Fin 136) (f : Port → Port) : (d.onPort p f).caps = d.caps := rfl
@[simp] theorem Dev.onPort_tripJobs (d : Dev) (p : Fin 136) (f : Port → Port) : (d.onPort p f).tripJobs = d.tripJobs := rfl
@[simp] theorem Dev.onPort_tripOut (d : Dev) (p : Fin 136) (f : Port → Port) : (d.onPort p f).tripOut = d.tripOut := rfl
@[simp] theorem Dev.onPort_link (d : Dev) (p : Fin 136) (f : Port → Port) : (d.onPort p f).link = d.link := rfl
@[simp] theorem Dev.onPort_vault (d : Dev) (p : Fin 136) (f : Port → Port) : (d.onPort p f).vault = d.vault := rfl
@[simp] theorem Dev.onPort_outputs (d : Dev) (p : Fin 136) (f : Port → Port) : (d.onPort p f).outputs = d.outputs := rfl
@[simp] theorem Dev.onPort_events (d : Dev) (p : Fin 136) (f : Port → Port) : (d.onPort p f).events = d.events := rfl
@[simp] theorem Dev.onPort_free (d : Dev) (p : Fin 136) (f : Port → Port) : (d.onPort p f).free = d.free := rfl

/-! `Dev.onX` -/

@[simp] theorem Dev.onX_regs (d : Dev) (x : Fin 8) (f : XPort → XPort) : (d.onX x f).regs = d.regs := rfl
@[simp] theorem Dev.onX_staging (d : Dev) (x : Fin 8) (f : XPort → XPort) : (d.onX x f).staging = d.staging := rfl
@[simp] theorem Dev.onX_latches (d : Dev) (x : Fin 8) (f : XPort → XPort) : (d.onX x f).latches = d.latches := rfl
@[simp] theorem Dev.onX_spiHeld (d : Dev) (x : Fin 8) (f : XPort → XPort) : (d.onX x f).spiHeld = d.spiHeld := rfl
@[simp] theorem Dev.onX_boot (d : Dev) (x : Fin 8) (f : XPort → XPort) : (d.onX x f).boot = d.boot := rfl
@[simp] theorem Dev.onX_clk (d : Dev) (x : Fin 8) (f : XPort → XPort) : (d.onX x f).clk = d.clk := rfl
@[simp] theorem Dev.onX_quads (d : Dev) (x : Fin 8) (f : XPort → XPort) : (d.onX x f).quads = d.quads := rfl
@[simp] theorem Dev.onX_alm (d : Dev) (x : Fin 8) (f : XPort → XPort) : (d.onX x f).alm = d.alm := rfl
@[simp] theorem Dev.onX_oldAlm (d : Dev) (x : Fin 8) (f : XPort → XPort) : (d.onX x f).oldAlm = d.oldAlm := rfl
@[simp] theorem Dev.onX_almValid (d : Dev) (x : Fin 8) (f : XPort → XPort) : (d.onX x f).almValid = d.almValid := rfl
@[simp] theorem Dev.onX_stage (d : Dev) (x : Fin 8) (f : XPort → XPort) : (d.onX x f).stage = d.stage := rfl
@[simp] theorem Dev.onX_apply (d : Dev) (x : Fin 8) (f : XPort → XPort) : (d.onX x f).apply = d.apply := rfl
@[simp] theorem Dev.onX_logs (d : Dev) (x : Fin 8) (f : XPort → XPort) : (d.onX x f).logs = d.logs := rfl
@[simp] theorem Dev.onX_queues (d : Dev) (x : Fin 8) (f : XPort → XPort) : (d.onX x f).queues = d.queues := rfl
@[simp] theorem Dev.onX_handed (d : Dev) (x : Fin 8) (f : XPort → XPort) : (d.onX x f).handed = d.handed := rfl
@[simp] theorem Dev.onX_marks (d : Dev) (x : Fin 8) (f : XPort → XPort) : (d.onX x f).marks = d.marks := rfl
@[simp] theorem Dev.onX_pool (d : Dev) (x : Fin 8) (f : XPort → XPort) : (d.onX x f).pool = d.pool := rfl
@[simp] theorem Dev.onX_incarn (d : Dev) (x : Fin 8) (f : XPort → XPort) : (d.onX x f).incarn = d.incarn := rfl
@[simp] theorem Dev.onX_lanes (d : Dev) (x : Fin 8) (f : XPort → XPort) : (d.onX x f).lanes = d.lanes := rfl
@[simp] theorem Dev.onX_ports (d : Dev) (x : Fin 8) (f : XPort → XPort) : (d.onX x f).ports = d.ports := rfl
@[simp] theorem Dev.onX_queuings (d : Dev) (x : Fin 8) (f : XPort → XPort) : (d.onX x f).queuings = d.queuings := rfl
@[simp] theorem Dev.onX_rests (d : Dev) (x : Fin 8) (f : XPort → XPort) : (d.onX x f).rests = d.rests := rfl
@[simp] theorem Dev.onX_shut (d : Dev) (x : Fin 8) (f : XPort → XPort) : (d.onX x f).shut = d.shut := rfl
@[simp] theorem Dev.onX_xports (d : Dev) (x : Fin 8) (f : XPort → XPort) : (d.onX x f).xports = d.xports.set x (f d.xports[x]) := rfl
@[simp] theorem Dev.onX_cards (d : Dev) (x : Fin 8) (f : XPort → XPort) : (d.onX x f).cards = d.cards := rfl
@[simp] theorem Dev.onX_red (d : Dev) (x : Fin 8) (f : XPort → XPort) : (d.onX x f).red = d.red := rfl
@[simp] theorem Dev.onX_colls (d : Dev) (x : Fin 8) (f : XPort → XPort) : (d.onX x f).colls = d.colls := rfl
@[simp] theorem Dev.onX_collMasks (d : Dev) (x : Fin 8) (f : XPort → XPort) : (d.onX x f).collMasks = d.collMasks := rfl
@[simp] theorem Dev.onX_collStarts (d : Dev) (x : Fin 8) (f : XPort → XPort) : (d.onX x f).collStarts = d.collStarts := rfl
@[simp] theorem Dev.onX_axes (d : Dev) (x : Fin 8) (f : XPort → XPort) : (d.onX x f).axes = d.axes := rfl
@[simp] theorem Dev.onX_sched (d : Dev) (x : Fin 8) (f : XPort → XPort) : (d.onX x f).sched = d.sched := rfl
@[simp] theorem Dev.onX_schedRun (d : Dev) (x : Fin 8) (f : XPort → XPort) : (d.onX x f).schedRun = d.schedRun := rfl
@[simp] theorem Dev.onX_chronos (d : Dev) (x : Fin 8) (f : XPort → XPort) : (d.onX x f).chronos = d.chronos := rfl
@[simp] theorem Dev.onX_outs (d : Dev) (x : Fin 8) (f : XPort → XPort) : (d.onX x f).outs = d.outs := rfl
@[simp] theorem Dev.onX_cmps (d : Dev) (x : Fin 8) (f : XPort → XPort) : (d.onX x f).cmps = d.cmps := rfl
@[simp] theorem Dev.onX_tripCfgWritten (d : Dev) (x : Fin 8) (f : XPort → XPort) : (d.onX x f).tripCfgWritten = d.tripCfgWritten := rfl
@[simp] theorem Dev.onX_fired (d : Dev) (x : Fin 8) (f : XPort → XPort) : (d.onX x f).fired = d.fired := rfl
@[simp] theorem Dev.onX_worked (d : Dev) (x : Fin 8) (f : XPort → XPort) : (d.onX x f).worked = d.worked := rfl
@[simp] theorem Dev.onX_caps (d : Dev) (x : Fin 8) (f : XPort → XPort) : (d.onX x f).caps = d.caps := rfl
@[simp] theorem Dev.onX_tripJobs (d : Dev) (x : Fin 8) (f : XPort → XPort) : (d.onX x f).tripJobs = d.tripJobs := rfl
@[simp] theorem Dev.onX_tripOut (d : Dev) (x : Fin 8) (f : XPort → XPort) : (d.onX x f).tripOut = d.tripOut := rfl
@[simp] theorem Dev.onX_link (d : Dev) (x : Fin 8) (f : XPort → XPort) : (d.onX x f).link = d.link := rfl
@[simp] theorem Dev.onX_vault (d : Dev) (x : Fin 8) (f : XPort → XPort) : (d.onX x f).vault = d.vault := rfl
@[simp] theorem Dev.onX_outputs (d : Dev) (x : Fin 8) (f : XPort → XPort) : (d.onX x f).outputs = d.outputs := rfl
@[simp] theorem Dev.onX_events (d : Dev) (x : Fin 8) (f : XPort → XPort) : (d.onX x f).events = d.events := rfl
@[simp] theorem Dev.onX_free (d : Dev) (x : Fin 8) (f : XPort → XPort) : (d.onX x f).free = d.free := rfl

/-! `Dev.onCard` -/

@[simp] theorem Dev.onCard_regs (d : Dev) (x : Fin 8) (c : Fin 4) (f : Card → Card) : (d.onCard x c f).regs = d.regs := rfl
@[simp] theorem Dev.onCard_staging (d : Dev) (x : Fin 8) (c : Fin 4) (f : Card → Card) : (d.onCard x c f).staging = d.staging := rfl
@[simp] theorem Dev.onCard_latches (d : Dev) (x : Fin 8) (c : Fin 4) (f : Card → Card) : (d.onCard x c f).latches = d.latches := rfl
@[simp] theorem Dev.onCard_spiHeld (d : Dev) (x : Fin 8) (c : Fin 4) (f : Card → Card) : (d.onCard x c f).spiHeld = d.spiHeld := rfl
@[simp] theorem Dev.onCard_boot (d : Dev) (x : Fin 8) (c : Fin 4) (f : Card → Card) : (d.onCard x c f).boot = d.boot := rfl
@[simp] theorem Dev.onCard_clk (d : Dev) (x : Fin 8) (c : Fin 4) (f : Card → Card) : (d.onCard x c f).clk = d.clk := rfl
@[simp] theorem Dev.onCard_quads (d : Dev) (x : Fin 8) (c : Fin 4) (f : Card → Card) : (d.onCard x c f).quads = d.quads := rfl
@[simp] theorem Dev.onCard_alm (d : Dev) (x : Fin 8) (c : Fin 4) (f : Card → Card) : (d.onCard x c f).alm = d.alm := rfl
@[simp] theorem Dev.onCard_oldAlm (d : Dev) (x : Fin 8) (c : Fin 4) (f : Card → Card) : (d.onCard x c f).oldAlm = d.oldAlm := rfl
@[simp] theorem Dev.onCard_almValid (d : Dev) (x : Fin 8) (c : Fin 4) (f : Card → Card) : (d.onCard x c f).almValid = d.almValid := rfl
@[simp] theorem Dev.onCard_stage (d : Dev) (x : Fin 8) (c : Fin 4) (f : Card → Card) : (d.onCard x c f).stage = d.stage := rfl
@[simp] theorem Dev.onCard_apply (d : Dev) (x : Fin 8) (c : Fin 4) (f : Card → Card) : (d.onCard x c f).apply = d.apply := rfl
@[simp] theorem Dev.onCard_logs (d : Dev) (x : Fin 8) (c : Fin 4) (f : Card → Card) : (d.onCard x c f).logs = d.logs := rfl
@[simp] theorem Dev.onCard_queues (d : Dev) (x : Fin 8) (c : Fin 4) (f : Card → Card) : (d.onCard x c f).queues = d.queues := rfl
@[simp] theorem Dev.onCard_handed (d : Dev) (x : Fin 8) (c : Fin 4) (f : Card → Card) : (d.onCard x c f).handed = d.handed := rfl
@[simp] theorem Dev.onCard_marks (d : Dev) (x : Fin 8) (c : Fin 4) (f : Card → Card) : (d.onCard x c f).marks = d.marks := rfl
@[simp] theorem Dev.onCard_pool (d : Dev) (x : Fin 8) (c : Fin 4) (f : Card → Card) : (d.onCard x c f).pool = d.pool := rfl
@[simp] theorem Dev.onCard_incarn (d : Dev) (x : Fin 8) (c : Fin 4) (f : Card → Card) : (d.onCard x c f).incarn = d.incarn := rfl
@[simp] theorem Dev.onCard_lanes (d : Dev) (x : Fin 8) (c : Fin 4) (f : Card → Card) : (d.onCard x c f).lanes = d.lanes := rfl
@[simp] theorem Dev.onCard_ports (d : Dev) (x : Fin 8) (c : Fin 4) (f : Card → Card) : (d.onCard x c f).ports = d.ports := rfl
@[simp] theorem Dev.onCard_queuings (d : Dev) (x : Fin 8) (c : Fin 4) (f : Card → Card) : (d.onCard x c f).queuings = d.queuings := rfl
@[simp] theorem Dev.onCard_rests (d : Dev) (x : Fin 8) (c : Fin 4) (f : Card → Card) : (d.onCard x c f).rests = d.rests := rfl
@[simp] theorem Dev.onCard_shut (d : Dev) (x : Fin 8) (c : Fin 4) (f : Card → Card) : (d.onCard x c f).shut = d.shut := rfl
@[simp] theorem Dev.onCard_xports (d : Dev) (x : Fin 8) (c : Fin 4) (f : Card → Card) : (d.onCard x c f).xports = d.xports := rfl
@[simp] theorem Dev.onCard_cards (d : Dev) (x : Fin 8) (c : Fin 4) (f : Card → Card) : (d.onCard x c f).cards = d.cards.set (cardIx x c) (f d.cards[cardIx x c]) := rfl
@[simp] theorem Dev.onCard_red (d : Dev) (x : Fin 8) (c : Fin 4) (f : Card → Card) : (d.onCard x c f).red = d.red := rfl
@[simp] theorem Dev.onCard_colls (d : Dev) (x : Fin 8) (c : Fin 4) (f : Card → Card) : (d.onCard x c f).colls = d.colls := rfl
@[simp] theorem Dev.onCard_collMasks (d : Dev) (x : Fin 8) (c : Fin 4) (f : Card → Card) : (d.onCard x c f).collMasks = d.collMasks := rfl
@[simp] theorem Dev.onCard_collStarts (d : Dev) (x : Fin 8) (c : Fin 4) (f : Card → Card) : (d.onCard x c f).collStarts = d.collStarts := rfl
@[simp] theorem Dev.onCard_axes (d : Dev) (x : Fin 8) (c : Fin 4) (f : Card → Card) : (d.onCard x c f).axes = d.axes := rfl
@[simp] theorem Dev.onCard_sched (d : Dev) (x : Fin 8) (c : Fin 4) (f : Card → Card) : (d.onCard x c f).sched = d.sched := rfl
@[simp] theorem Dev.onCard_schedRun (d : Dev) (x : Fin 8) (c : Fin 4) (f : Card → Card) : (d.onCard x c f).schedRun = d.schedRun := rfl
@[simp] theorem Dev.onCard_chronos (d : Dev) (x : Fin 8) (c : Fin 4) (f : Card → Card) : (d.onCard x c f).chronos = d.chronos := rfl
@[simp] theorem Dev.onCard_outs (d : Dev) (x : Fin 8) (c : Fin 4) (f : Card → Card) : (d.onCard x c f).outs = d.outs := rfl
@[simp] theorem Dev.onCard_cmps (d : Dev) (x : Fin 8) (c : Fin 4) (f : Card → Card) : (d.onCard x c f).cmps = d.cmps := rfl
@[simp] theorem Dev.onCard_tripCfgWritten (d : Dev) (x : Fin 8) (c : Fin 4) (f : Card → Card) : (d.onCard x c f).tripCfgWritten = d.tripCfgWritten := rfl
@[simp] theorem Dev.onCard_fired (d : Dev) (x : Fin 8) (c : Fin 4) (f : Card → Card) : (d.onCard x c f).fired = d.fired := rfl
@[simp] theorem Dev.onCard_worked (d : Dev) (x : Fin 8) (c : Fin 4) (f : Card → Card) : (d.onCard x c f).worked = d.worked := rfl
@[simp] theorem Dev.onCard_caps (d : Dev) (x : Fin 8) (c : Fin 4) (f : Card → Card) : (d.onCard x c f).caps = d.caps := rfl
@[simp] theorem Dev.onCard_tripJobs (d : Dev) (x : Fin 8) (c : Fin 4) (f : Card → Card) : (d.onCard x c f).tripJobs = d.tripJobs := rfl
@[simp] theorem Dev.onCard_tripOut (d : Dev) (x : Fin 8) (c : Fin 4) (f : Card → Card) : (d.onCard x c f).tripOut = d.tripOut := rfl
@[simp] theorem Dev.onCard_link (d : Dev) (x : Fin 8) (c : Fin 4) (f : Card → Card) : (d.onCard x c f).link = d.link := rfl
@[simp] theorem Dev.onCard_vault (d : Dev) (x : Fin 8) (c : Fin 4) (f : Card → Card) : (d.onCard x c f).vault = d.vault := rfl
@[simp] theorem Dev.onCard_outputs (d : Dev) (x : Fin 8) (c : Fin 4) (f : Card → Card) : (d.onCard x c f).outputs = d.outputs := rfl
@[simp] theorem Dev.onCard_events (d : Dev) (x : Fin 8) (c : Fin 4) (f : Card → Card) : (d.onCard x c f).events = d.events := rfl
@[simp] theorem Dev.onCard_free (d : Dev) (x : Fin 8) (c : Fin 4) (f : Card → Card) : (d.onCard x c f).free = d.free := rfl

/-! `Dev.onQuad` -/

@[simp] theorem Dev.onQuad_regs (d : Dev) (q : Fin 4) (f : Quad → Quad) : (d.onQuad q f).regs = d.regs := rfl
@[simp] theorem Dev.onQuad_staging (d : Dev) (q : Fin 4) (f : Quad → Quad) : (d.onQuad q f).staging = d.staging := rfl
@[simp] theorem Dev.onQuad_latches (d : Dev) (q : Fin 4) (f : Quad → Quad) : (d.onQuad q f).latches = d.latches := rfl
@[simp] theorem Dev.onQuad_spiHeld (d : Dev) (q : Fin 4) (f : Quad → Quad) : (d.onQuad q f).spiHeld = d.spiHeld := rfl
@[simp] theorem Dev.onQuad_boot (d : Dev) (q : Fin 4) (f : Quad → Quad) : (d.onQuad q f).boot = d.boot := rfl
@[simp] theorem Dev.onQuad_clk (d : Dev) (q : Fin 4) (f : Quad → Quad) : (d.onQuad q f).clk = d.clk := rfl
@[simp] theorem Dev.onQuad_quads (d : Dev) (q : Fin 4) (f : Quad → Quad) : (d.onQuad q f).quads = d.quads.set q (f d.quads[q]) := rfl
@[simp] theorem Dev.onQuad_alm (d : Dev) (q : Fin 4) (f : Quad → Quad) : (d.onQuad q f).alm = d.alm := rfl
@[simp] theorem Dev.onQuad_oldAlm (d : Dev) (q : Fin 4) (f : Quad → Quad) : (d.onQuad q f).oldAlm = d.oldAlm := rfl
@[simp] theorem Dev.onQuad_almValid (d : Dev) (q : Fin 4) (f : Quad → Quad) : (d.onQuad q f).almValid = d.almValid := rfl
@[simp] theorem Dev.onQuad_stage (d : Dev) (q : Fin 4) (f : Quad → Quad) : (d.onQuad q f).stage = d.stage := rfl
@[simp] theorem Dev.onQuad_apply (d : Dev) (q : Fin 4) (f : Quad → Quad) : (d.onQuad q f).apply = d.apply := rfl
@[simp] theorem Dev.onQuad_logs (d : Dev) (q : Fin 4) (f : Quad → Quad) : (d.onQuad q f).logs = d.logs := rfl
@[simp] theorem Dev.onQuad_queues (d : Dev) (q : Fin 4) (f : Quad → Quad) : (d.onQuad q f).queues = d.queues := rfl
@[simp] theorem Dev.onQuad_handed (d : Dev) (q : Fin 4) (f : Quad → Quad) : (d.onQuad q f).handed = d.handed := rfl
@[simp] theorem Dev.onQuad_marks (d : Dev) (q : Fin 4) (f : Quad → Quad) : (d.onQuad q f).marks = d.marks := rfl
@[simp] theorem Dev.onQuad_pool (d : Dev) (q : Fin 4) (f : Quad → Quad) : (d.onQuad q f).pool = d.pool := rfl
@[simp] theorem Dev.onQuad_incarn (d : Dev) (q : Fin 4) (f : Quad → Quad) : (d.onQuad q f).incarn = d.incarn := rfl
@[simp] theorem Dev.onQuad_lanes (d : Dev) (q : Fin 4) (f : Quad → Quad) : (d.onQuad q f).lanes = d.lanes := rfl
@[simp] theorem Dev.onQuad_ports (d : Dev) (q : Fin 4) (f : Quad → Quad) : (d.onQuad q f).ports = d.ports := rfl
@[simp] theorem Dev.onQuad_queuings (d : Dev) (q : Fin 4) (f : Quad → Quad) : (d.onQuad q f).queuings = d.queuings := rfl
@[simp] theorem Dev.onQuad_rests (d : Dev) (q : Fin 4) (f : Quad → Quad) : (d.onQuad q f).rests = d.rests := rfl
@[simp] theorem Dev.onQuad_shut (d : Dev) (q : Fin 4) (f : Quad → Quad) : (d.onQuad q f).shut = d.shut := rfl
@[simp] theorem Dev.onQuad_xports (d : Dev) (q : Fin 4) (f : Quad → Quad) : (d.onQuad q f).xports = d.xports := rfl
@[simp] theorem Dev.onQuad_cards (d : Dev) (q : Fin 4) (f : Quad → Quad) : (d.onQuad q f).cards = d.cards := rfl
@[simp] theorem Dev.onQuad_red (d : Dev) (q : Fin 4) (f : Quad → Quad) : (d.onQuad q f).red = d.red := rfl
@[simp] theorem Dev.onQuad_colls (d : Dev) (q : Fin 4) (f : Quad → Quad) : (d.onQuad q f).colls = d.colls := rfl
@[simp] theorem Dev.onQuad_collMasks (d : Dev) (q : Fin 4) (f : Quad → Quad) : (d.onQuad q f).collMasks = d.collMasks := rfl
@[simp] theorem Dev.onQuad_collStarts (d : Dev) (q : Fin 4) (f : Quad → Quad) : (d.onQuad q f).collStarts = d.collStarts := rfl
@[simp] theorem Dev.onQuad_axes (d : Dev) (q : Fin 4) (f : Quad → Quad) : (d.onQuad q f).axes = d.axes := rfl
@[simp] theorem Dev.onQuad_sched (d : Dev) (q : Fin 4) (f : Quad → Quad) : (d.onQuad q f).sched = d.sched := rfl
@[simp] theorem Dev.onQuad_schedRun (d : Dev) (q : Fin 4) (f : Quad → Quad) : (d.onQuad q f).schedRun = d.schedRun := rfl
@[simp] theorem Dev.onQuad_chronos (d : Dev) (q : Fin 4) (f : Quad → Quad) : (d.onQuad q f).chronos = d.chronos := rfl
@[simp] theorem Dev.onQuad_outs (d : Dev) (q : Fin 4) (f : Quad → Quad) : (d.onQuad q f).outs = d.outs := rfl
@[simp] theorem Dev.onQuad_cmps (d : Dev) (q : Fin 4) (f : Quad → Quad) : (d.onQuad q f).cmps = d.cmps := rfl
@[simp] theorem Dev.onQuad_tripCfgWritten (d : Dev) (q : Fin 4) (f : Quad → Quad) : (d.onQuad q f).tripCfgWritten = d.tripCfgWritten := rfl
@[simp] theorem Dev.onQuad_fired (d : Dev) (q : Fin 4) (f : Quad → Quad) : (d.onQuad q f).fired = d.fired := rfl
@[simp] theorem Dev.onQuad_worked (d : Dev) (q : Fin 4) (f : Quad → Quad) : (d.onQuad q f).worked = d.worked := rfl
@[simp] theorem Dev.onQuad_caps (d : Dev) (q : Fin 4) (f : Quad → Quad) : (d.onQuad q f).caps = d.caps := rfl
@[simp] theorem Dev.onQuad_tripJobs (d : Dev) (q : Fin 4) (f : Quad → Quad) : (d.onQuad q f).tripJobs = d.tripJobs := rfl
@[simp] theorem Dev.onQuad_tripOut (d : Dev) (q : Fin 4) (f : Quad → Quad) : (d.onQuad q f).tripOut = d.tripOut := rfl
@[simp] theorem Dev.onQuad_link (d : Dev) (q : Fin 4) (f : Quad → Quad) : (d.onQuad q f).link = d.link := rfl
@[simp] theorem Dev.onQuad_vault (d : Dev) (q : Fin 4) (f : Quad → Quad) : (d.onQuad q f).vault = d.vault := rfl
@[simp] theorem Dev.onQuad_outputs (d : Dev) (q : Fin 4) (f : Quad → Quad) : (d.onQuad q f).outputs = d.outputs := rfl
@[simp] theorem Dev.onQuad_events (d : Dev) (q : Fin 4) (f : Quad → Quad) : (d.onQuad q f).events = d.events := rfl
@[simp] theorem Dev.onQuad_free (d : Dev) (q : Fin 4) (f : Quad → Quad) : (d.onQuad q f).free = d.free := rfl

/-! `Dev.onLog` -/

@[simp] theorem Dev.onLog_regs (d : Dev) (b : Fin 16) (f : Logbook → Logbook) : (d.onLog b f).regs = d.regs := rfl
@[simp] theorem Dev.onLog_staging (d : Dev) (b : Fin 16) (f : Logbook → Logbook) : (d.onLog b f).staging = d.staging := rfl
@[simp] theorem Dev.onLog_latches (d : Dev) (b : Fin 16) (f : Logbook → Logbook) : (d.onLog b f).latches = d.latches := rfl
@[simp] theorem Dev.onLog_spiHeld (d : Dev) (b : Fin 16) (f : Logbook → Logbook) : (d.onLog b f).spiHeld = d.spiHeld := rfl
@[simp] theorem Dev.onLog_boot (d : Dev) (b : Fin 16) (f : Logbook → Logbook) : (d.onLog b f).boot = d.boot := rfl
@[simp] theorem Dev.onLog_clk (d : Dev) (b : Fin 16) (f : Logbook → Logbook) : (d.onLog b f).clk = d.clk := rfl
@[simp] theorem Dev.onLog_quads (d : Dev) (b : Fin 16) (f : Logbook → Logbook) : (d.onLog b f).quads = d.quads := rfl
@[simp] theorem Dev.onLog_alm (d : Dev) (b : Fin 16) (f : Logbook → Logbook) : (d.onLog b f).alm = d.alm := rfl
@[simp] theorem Dev.onLog_oldAlm (d : Dev) (b : Fin 16) (f : Logbook → Logbook) : (d.onLog b f).oldAlm = d.oldAlm := rfl
@[simp] theorem Dev.onLog_almValid (d : Dev) (b : Fin 16) (f : Logbook → Logbook) : (d.onLog b f).almValid = d.almValid := rfl
@[simp] theorem Dev.onLog_stage (d : Dev) (b : Fin 16) (f : Logbook → Logbook) : (d.onLog b f).stage = d.stage := rfl
@[simp] theorem Dev.onLog_apply (d : Dev) (b : Fin 16) (f : Logbook → Logbook) : (d.onLog b f).apply = d.apply := rfl
@[simp] theorem Dev.onLog_logs (d : Dev) (b : Fin 16) (f : Logbook → Logbook) : (d.onLog b f).logs = d.logs.set b (f d.logs[b]) := rfl
@[simp] theorem Dev.onLog_queues (d : Dev) (b : Fin 16) (f : Logbook → Logbook) : (d.onLog b f).queues = d.queues := rfl
@[simp] theorem Dev.onLog_handed (d : Dev) (b : Fin 16) (f : Logbook → Logbook) : (d.onLog b f).handed = d.handed := rfl
@[simp] theorem Dev.onLog_marks (d : Dev) (b : Fin 16) (f : Logbook → Logbook) : (d.onLog b f).marks = d.marks := rfl
@[simp] theorem Dev.onLog_pool (d : Dev) (b : Fin 16) (f : Logbook → Logbook) : (d.onLog b f).pool = d.pool := rfl
@[simp] theorem Dev.onLog_incarn (d : Dev) (b : Fin 16) (f : Logbook → Logbook) : (d.onLog b f).incarn = d.incarn := rfl
@[simp] theorem Dev.onLog_lanes (d : Dev) (b : Fin 16) (f : Logbook → Logbook) : (d.onLog b f).lanes = d.lanes := rfl
@[simp] theorem Dev.onLog_ports (d : Dev) (b : Fin 16) (f : Logbook → Logbook) : (d.onLog b f).ports = d.ports := rfl
@[simp] theorem Dev.onLog_queuings (d : Dev) (b : Fin 16) (f : Logbook → Logbook) : (d.onLog b f).queuings = d.queuings := rfl
@[simp] theorem Dev.onLog_rests (d : Dev) (b : Fin 16) (f : Logbook → Logbook) : (d.onLog b f).rests = d.rests := rfl
@[simp] theorem Dev.onLog_shut (d : Dev) (b : Fin 16) (f : Logbook → Logbook) : (d.onLog b f).shut = d.shut := rfl
@[simp] theorem Dev.onLog_xports (d : Dev) (b : Fin 16) (f : Logbook → Logbook) : (d.onLog b f).xports = d.xports := rfl
@[simp] theorem Dev.onLog_cards (d : Dev) (b : Fin 16) (f : Logbook → Logbook) : (d.onLog b f).cards = d.cards := rfl
@[simp] theorem Dev.onLog_red (d : Dev) (b : Fin 16) (f : Logbook → Logbook) : (d.onLog b f).red = d.red := rfl
@[simp] theorem Dev.onLog_colls (d : Dev) (b : Fin 16) (f : Logbook → Logbook) : (d.onLog b f).colls = d.colls := rfl
@[simp] theorem Dev.onLog_collMasks (d : Dev) (b : Fin 16) (f : Logbook → Logbook) : (d.onLog b f).collMasks = d.collMasks := rfl
@[simp] theorem Dev.onLog_collStarts (d : Dev) (b : Fin 16) (f : Logbook → Logbook) : (d.onLog b f).collStarts = d.collStarts := rfl
@[simp] theorem Dev.onLog_axes (d : Dev) (b : Fin 16) (f : Logbook → Logbook) : (d.onLog b f).axes = d.axes := rfl
@[simp] theorem Dev.onLog_sched (d : Dev) (b : Fin 16) (f : Logbook → Logbook) : (d.onLog b f).sched = d.sched := rfl
@[simp] theorem Dev.onLog_schedRun (d : Dev) (b : Fin 16) (f : Logbook → Logbook) : (d.onLog b f).schedRun = d.schedRun := rfl
@[simp] theorem Dev.onLog_chronos (d : Dev) (b : Fin 16) (f : Logbook → Logbook) : (d.onLog b f).chronos = d.chronos := rfl
@[simp] theorem Dev.onLog_outs (d : Dev) (b : Fin 16) (f : Logbook → Logbook) : (d.onLog b f).outs = d.outs := rfl
@[simp] theorem Dev.onLog_cmps (d : Dev) (b : Fin 16) (f : Logbook → Logbook) : (d.onLog b f).cmps = d.cmps := rfl
@[simp] theorem Dev.onLog_tripCfgWritten (d : Dev) (b : Fin 16) (f : Logbook → Logbook) : (d.onLog b f).tripCfgWritten = d.tripCfgWritten := rfl
@[simp] theorem Dev.onLog_fired (d : Dev) (b : Fin 16) (f : Logbook → Logbook) : (d.onLog b f).fired = d.fired := rfl
@[simp] theorem Dev.onLog_worked (d : Dev) (b : Fin 16) (f : Logbook → Logbook) : (d.onLog b f).worked = d.worked := rfl
@[simp] theorem Dev.onLog_caps (d : Dev) (b : Fin 16) (f : Logbook → Logbook) : (d.onLog b f).caps = d.caps := rfl
@[simp] theorem Dev.onLog_tripJobs (d : Dev) (b : Fin 16) (f : Logbook → Logbook) : (d.onLog b f).tripJobs = d.tripJobs := rfl
@[simp] theorem Dev.onLog_tripOut (d : Dev) (b : Fin 16) (f : Logbook → Logbook) : (d.onLog b f).tripOut = d.tripOut := rfl
@[simp] theorem Dev.onLog_link (d : Dev) (b : Fin 16) (f : Logbook → Logbook) : (d.onLog b f).link = d.link := rfl
@[simp] theorem Dev.onLog_vault (d : Dev) (b : Fin 16) (f : Logbook → Logbook) : (d.onLog b f).vault = d.vault := rfl
@[simp] theorem Dev.onLog_outputs (d : Dev) (b : Fin 16) (f : Logbook → Logbook) : (d.onLog b f).outputs = d.outputs := rfl
@[simp] theorem Dev.onLog_events (d : Dev) (b : Fin 16) (f : Logbook → Logbook) : (d.onLog b f).events = d.events := rfl
@[simp] theorem Dev.onLog_free (d : Dev) (b : Fin 16) (f : Logbook → Logbook) : (d.onLog b f).free = d.free := rfl

/-! `Dev.onQueue` -/

@[simp] theorem Dev.onQueue_regs (d : Dev) (k : Fin 8) (f : Queue → Queue) : (d.onQueue k f).regs = d.regs := rfl
@[simp] theorem Dev.onQueue_staging (d : Dev) (k : Fin 8) (f : Queue → Queue) : (d.onQueue k f).staging = d.staging := rfl
@[simp] theorem Dev.onQueue_latches (d : Dev) (k : Fin 8) (f : Queue → Queue) : (d.onQueue k f).latches = d.latches := rfl
@[simp] theorem Dev.onQueue_spiHeld (d : Dev) (k : Fin 8) (f : Queue → Queue) : (d.onQueue k f).spiHeld = d.spiHeld := rfl
@[simp] theorem Dev.onQueue_boot (d : Dev) (k : Fin 8) (f : Queue → Queue) : (d.onQueue k f).boot = d.boot := rfl
@[simp] theorem Dev.onQueue_clk (d : Dev) (k : Fin 8) (f : Queue → Queue) : (d.onQueue k f).clk = d.clk := rfl
@[simp] theorem Dev.onQueue_quads (d : Dev) (k : Fin 8) (f : Queue → Queue) : (d.onQueue k f).quads = d.quads := rfl
@[simp] theorem Dev.onQueue_alm (d : Dev) (k : Fin 8) (f : Queue → Queue) : (d.onQueue k f).alm = d.alm := rfl
@[simp] theorem Dev.onQueue_oldAlm (d : Dev) (k : Fin 8) (f : Queue → Queue) : (d.onQueue k f).oldAlm = d.oldAlm := rfl
@[simp] theorem Dev.onQueue_almValid (d : Dev) (k : Fin 8) (f : Queue → Queue) : (d.onQueue k f).almValid = d.almValid := rfl
@[simp] theorem Dev.onQueue_stage (d : Dev) (k : Fin 8) (f : Queue → Queue) : (d.onQueue k f).stage = d.stage := rfl
@[simp] theorem Dev.onQueue_apply (d : Dev) (k : Fin 8) (f : Queue → Queue) : (d.onQueue k f).apply = d.apply := rfl
@[simp] theorem Dev.onQueue_logs (d : Dev) (k : Fin 8) (f : Queue → Queue) : (d.onQueue k f).logs = d.logs := rfl
@[simp] theorem Dev.onQueue_queues (d : Dev) (k : Fin 8) (f : Queue → Queue) : (d.onQueue k f).queues = d.queues.set k (f d.queues[k]) := rfl
@[simp] theorem Dev.onQueue_handed (d : Dev) (k : Fin 8) (f : Queue → Queue) : (d.onQueue k f).handed = d.handed := rfl
@[simp] theorem Dev.onQueue_marks (d : Dev) (k : Fin 8) (f : Queue → Queue) : (d.onQueue k f).marks = d.marks := rfl
@[simp] theorem Dev.onQueue_pool (d : Dev) (k : Fin 8) (f : Queue → Queue) : (d.onQueue k f).pool = d.pool := rfl
@[simp] theorem Dev.onQueue_incarn (d : Dev) (k : Fin 8) (f : Queue → Queue) : (d.onQueue k f).incarn = d.incarn := rfl
@[simp] theorem Dev.onQueue_lanes (d : Dev) (k : Fin 8) (f : Queue → Queue) : (d.onQueue k f).lanes = d.lanes := rfl
@[simp] theorem Dev.onQueue_ports (d : Dev) (k : Fin 8) (f : Queue → Queue) : (d.onQueue k f).ports = d.ports := rfl
@[simp] theorem Dev.onQueue_queuings (d : Dev) (k : Fin 8) (f : Queue → Queue) : (d.onQueue k f).queuings = d.queuings := rfl
@[simp] theorem Dev.onQueue_rests (d : Dev) (k : Fin 8) (f : Queue → Queue) : (d.onQueue k f).rests = d.rests := rfl
@[simp] theorem Dev.onQueue_shut (d : Dev) (k : Fin 8) (f : Queue → Queue) : (d.onQueue k f).shut = d.shut := rfl
@[simp] theorem Dev.onQueue_xports (d : Dev) (k : Fin 8) (f : Queue → Queue) : (d.onQueue k f).xports = d.xports := rfl
@[simp] theorem Dev.onQueue_cards (d : Dev) (k : Fin 8) (f : Queue → Queue) : (d.onQueue k f).cards = d.cards := rfl
@[simp] theorem Dev.onQueue_red (d : Dev) (k : Fin 8) (f : Queue → Queue) : (d.onQueue k f).red = d.red := rfl
@[simp] theorem Dev.onQueue_colls (d : Dev) (k : Fin 8) (f : Queue → Queue) : (d.onQueue k f).colls = d.colls := rfl
@[simp] theorem Dev.onQueue_collMasks (d : Dev) (k : Fin 8) (f : Queue → Queue) : (d.onQueue k f).collMasks = d.collMasks := rfl
@[simp] theorem Dev.onQueue_collStarts (d : Dev) (k : Fin 8) (f : Queue → Queue) : (d.onQueue k f).collStarts = d.collStarts := rfl
@[simp] theorem Dev.onQueue_axes (d : Dev) (k : Fin 8) (f : Queue → Queue) : (d.onQueue k f).axes = d.axes := rfl
@[simp] theorem Dev.onQueue_sched (d : Dev) (k : Fin 8) (f : Queue → Queue) : (d.onQueue k f).sched = d.sched := rfl
@[simp] theorem Dev.onQueue_schedRun (d : Dev) (k : Fin 8) (f : Queue → Queue) : (d.onQueue k f).schedRun = d.schedRun := rfl
@[simp] theorem Dev.onQueue_chronos (d : Dev) (k : Fin 8) (f : Queue → Queue) : (d.onQueue k f).chronos = d.chronos := rfl
@[simp] theorem Dev.onQueue_outs (d : Dev) (k : Fin 8) (f : Queue → Queue) : (d.onQueue k f).outs = d.outs := rfl
@[simp] theorem Dev.onQueue_cmps (d : Dev) (k : Fin 8) (f : Queue → Queue) : (d.onQueue k f).cmps = d.cmps := rfl
@[simp] theorem Dev.onQueue_tripCfgWritten (d : Dev) (k : Fin 8) (f : Queue → Queue) : (d.onQueue k f).tripCfgWritten = d.tripCfgWritten := rfl
@[simp] theorem Dev.onQueue_fired (d : Dev) (k : Fin 8) (f : Queue → Queue) : (d.onQueue k f).fired = d.fired := rfl
@[simp] theorem Dev.onQueue_worked (d : Dev) (k : Fin 8) (f : Queue → Queue) : (d.onQueue k f).worked = d.worked := rfl
@[simp] theorem Dev.onQueue_caps (d : Dev) (k : Fin 8) (f : Queue → Queue) : (d.onQueue k f).caps = d.caps := rfl
@[simp] theorem Dev.onQueue_tripJobs (d : Dev) (k : Fin 8) (f : Queue → Queue) : (d.onQueue k f).tripJobs = d.tripJobs := rfl
@[simp] theorem Dev.onQueue_tripOut (d : Dev) (k : Fin 8) (f : Queue → Queue) : (d.onQueue k f).tripOut = d.tripOut := rfl
@[simp] theorem Dev.onQueue_link (d : Dev) (k : Fin 8) (f : Queue → Queue) : (d.onQueue k f).link = d.link := rfl
@[simp] theorem Dev.onQueue_vault (d : Dev) (k : Fin 8) (f : Queue → Queue) : (d.onQueue k f).vault = d.vault := rfl
@[simp] theorem Dev.onQueue_outputs (d : Dev) (k : Fin 8) (f : Queue → Queue) : (d.onQueue k f).outputs = d.outputs := rfl
@[simp] theorem Dev.onQueue_events (d : Dev) (k : Fin 8) (f : Queue → Queue) : (d.onQueue k f).events = d.events := rfl
@[simp] theorem Dev.onQueue_free (d : Dev) (k : Fin 8) (f : Queue → Queue) : (d.onQueue k f).free = d.free := rfl

/-! `Dev.onAxis` -/

@[simp] theorem Dev.onAxis_regs (d : Dev) (a : Fin 8) (f : Axis → Axis) : (d.onAxis a f).regs = d.regs := rfl
@[simp] theorem Dev.onAxis_staging (d : Dev) (a : Fin 8) (f : Axis → Axis) : (d.onAxis a f).staging = d.staging := rfl
@[simp] theorem Dev.onAxis_latches (d : Dev) (a : Fin 8) (f : Axis → Axis) : (d.onAxis a f).latches = d.latches := rfl
@[simp] theorem Dev.onAxis_spiHeld (d : Dev) (a : Fin 8) (f : Axis → Axis) : (d.onAxis a f).spiHeld = d.spiHeld := rfl
@[simp] theorem Dev.onAxis_boot (d : Dev) (a : Fin 8) (f : Axis → Axis) : (d.onAxis a f).boot = d.boot := rfl
@[simp] theorem Dev.onAxis_clk (d : Dev) (a : Fin 8) (f : Axis → Axis) : (d.onAxis a f).clk = d.clk := rfl
@[simp] theorem Dev.onAxis_quads (d : Dev) (a : Fin 8) (f : Axis → Axis) : (d.onAxis a f).quads = d.quads := rfl
@[simp] theorem Dev.onAxis_alm (d : Dev) (a : Fin 8) (f : Axis → Axis) : (d.onAxis a f).alm = d.alm := rfl
@[simp] theorem Dev.onAxis_oldAlm (d : Dev) (a : Fin 8) (f : Axis → Axis) : (d.onAxis a f).oldAlm = d.oldAlm := rfl
@[simp] theorem Dev.onAxis_almValid (d : Dev) (a : Fin 8) (f : Axis → Axis) : (d.onAxis a f).almValid = d.almValid := rfl
@[simp] theorem Dev.onAxis_stage (d : Dev) (a : Fin 8) (f : Axis → Axis) : (d.onAxis a f).stage = d.stage := rfl
@[simp] theorem Dev.onAxis_apply (d : Dev) (a : Fin 8) (f : Axis → Axis) : (d.onAxis a f).apply = d.apply := rfl
@[simp] theorem Dev.onAxis_logs (d : Dev) (a : Fin 8) (f : Axis → Axis) : (d.onAxis a f).logs = d.logs := rfl
@[simp] theorem Dev.onAxis_queues (d : Dev) (a : Fin 8) (f : Axis → Axis) : (d.onAxis a f).queues = d.queues := rfl
@[simp] theorem Dev.onAxis_handed (d : Dev) (a : Fin 8) (f : Axis → Axis) : (d.onAxis a f).handed = d.handed := rfl
@[simp] theorem Dev.onAxis_marks (d : Dev) (a : Fin 8) (f : Axis → Axis) : (d.onAxis a f).marks = d.marks := rfl
@[simp] theorem Dev.onAxis_pool (d : Dev) (a : Fin 8) (f : Axis → Axis) : (d.onAxis a f).pool = d.pool := rfl
@[simp] theorem Dev.onAxis_incarn (d : Dev) (a : Fin 8) (f : Axis → Axis) : (d.onAxis a f).incarn = d.incarn := rfl
@[simp] theorem Dev.onAxis_lanes (d : Dev) (a : Fin 8) (f : Axis → Axis) : (d.onAxis a f).lanes = d.lanes := rfl
@[simp] theorem Dev.onAxis_ports (d : Dev) (a : Fin 8) (f : Axis → Axis) : (d.onAxis a f).ports = d.ports := rfl
@[simp] theorem Dev.onAxis_queuings (d : Dev) (a : Fin 8) (f : Axis → Axis) : (d.onAxis a f).queuings = d.queuings := rfl
@[simp] theorem Dev.onAxis_rests (d : Dev) (a : Fin 8) (f : Axis → Axis) : (d.onAxis a f).rests = d.rests := rfl
@[simp] theorem Dev.onAxis_shut (d : Dev) (a : Fin 8) (f : Axis → Axis) : (d.onAxis a f).shut = d.shut := rfl
@[simp] theorem Dev.onAxis_xports (d : Dev) (a : Fin 8) (f : Axis → Axis) : (d.onAxis a f).xports = d.xports := rfl
@[simp] theorem Dev.onAxis_cards (d : Dev) (a : Fin 8) (f : Axis → Axis) : (d.onAxis a f).cards = d.cards := rfl
@[simp] theorem Dev.onAxis_red (d : Dev) (a : Fin 8) (f : Axis → Axis) : (d.onAxis a f).red = d.red := rfl
@[simp] theorem Dev.onAxis_colls (d : Dev) (a : Fin 8) (f : Axis → Axis) : (d.onAxis a f).colls = d.colls := rfl
@[simp] theorem Dev.onAxis_collMasks (d : Dev) (a : Fin 8) (f : Axis → Axis) : (d.onAxis a f).collMasks = d.collMasks := rfl
@[simp] theorem Dev.onAxis_collStarts (d : Dev) (a : Fin 8) (f : Axis → Axis) : (d.onAxis a f).collStarts = d.collStarts := rfl
@[simp] theorem Dev.onAxis_axes (d : Dev) (a : Fin 8) (f : Axis → Axis) : (d.onAxis a f).axes = d.axes.set a (f d.axes[a]) := rfl
@[simp] theorem Dev.onAxis_sched (d : Dev) (a : Fin 8) (f : Axis → Axis) : (d.onAxis a f).sched = d.sched := rfl
@[simp] theorem Dev.onAxis_schedRun (d : Dev) (a : Fin 8) (f : Axis → Axis) : (d.onAxis a f).schedRun = d.schedRun := rfl
@[simp] theorem Dev.onAxis_chronos (d : Dev) (a : Fin 8) (f : Axis → Axis) : (d.onAxis a f).chronos = d.chronos := rfl
@[simp] theorem Dev.onAxis_outs (d : Dev) (a : Fin 8) (f : Axis → Axis) : (d.onAxis a f).outs = d.outs := rfl
@[simp] theorem Dev.onAxis_cmps (d : Dev) (a : Fin 8) (f : Axis → Axis) : (d.onAxis a f).cmps = d.cmps := rfl
@[simp] theorem Dev.onAxis_tripCfgWritten (d : Dev) (a : Fin 8) (f : Axis → Axis) : (d.onAxis a f).tripCfgWritten = d.tripCfgWritten := rfl
@[simp] theorem Dev.onAxis_fired (d : Dev) (a : Fin 8) (f : Axis → Axis) : (d.onAxis a f).fired = d.fired := rfl
@[simp] theorem Dev.onAxis_worked (d : Dev) (a : Fin 8) (f : Axis → Axis) : (d.onAxis a f).worked = d.worked := rfl
@[simp] theorem Dev.onAxis_caps (d : Dev) (a : Fin 8) (f : Axis → Axis) : (d.onAxis a f).caps = d.caps := rfl
@[simp] theorem Dev.onAxis_tripJobs (d : Dev) (a : Fin 8) (f : Axis → Axis) : (d.onAxis a f).tripJobs = d.tripJobs := rfl
@[simp] theorem Dev.onAxis_tripOut (d : Dev) (a : Fin 8) (f : Axis → Axis) : (d.onAxis a f).tripOut = d.tripOut := rfl
@[simp] theorem Dev.onAxis_link (d : Dev) (a : Fin 8) (f : Axis → Axis) : (d.onAxis a f).link = d.link := rfl
@[simp] theorem Dev.onAxis_vault (d : Dev) (a : Fin 8) (f : Axis → Axis) : (d.onAxis a f).vault = d.vault := rfl
@[simp] theorem Dev.onAxis_outputs (d : Dev) (a : Fin 8) (f : Axis → Axis) : (d.onAxis a f).outputs = d.outputs := rfl
@[simp] theorem Dev.onAxis_events (d : Dev) (a : Fin 8) (f : Axis → Axis) : (d.onAxis a f).events = d.events := rfl
@[simp] theorem Dev.onAxis_free (d : Dev) (a : Fin 8) (f : Axis → Axis) : (d.onAxis a f).free = d.free := rfl

/-! `Dev.onChrono` -/

@[simp] theorem Dev.onChrono_regs (d : Dev) (n : Fin 64) (f : Chrono → Chrono) : (d.onChrono n f).regs = d.regs := rfl
@[simp] theorem Dev.onChrono_staging (d : Dev) (n : Fin 64) (f : Chrono → Chrono) : (d.onChrono n f).staging = d.staging := rfl
@[simp] theorem Dev.onChrono_latches (d : Dev) (n : Fin 64) (f : Chrono → Chrono) : (d.onChrono n f).latches = d.latches := rfl
@[simp] theorem Dev.onChrono_spiHeld (d : Dev) (n : Fin 64) (f : Chrono → Chrono) : (d.onChrono n f).spiHeld = d.spiHeld := rfl
@[simp] theorem Dev.onChrono_boot (d : Dev) (n : Fin 64) (f : Chrono → Chrono) : (d.onChrono n f).boot = d.boot := rfl
@[simp] theorem Dev.onChrono_clk (d : Dev) (n : Fin 64) (f : Chrono → Chrono) : (d.onChrono n f).clk = d.clk := rfl
@[simp] theorem Dev.onChrono_quads (d : Dev) (n : Fin 64) (f : Chrono → Chrono) : (d.onChrono n f).quads = d.quads := rfl
@[simp] theorem Dev.onChrono_alm (d : Dev) (n : Fin 64) (f : Chrono → Chrono) : (d.onChrono n f).alm = d.alm := rfl
@[simp] theorem Dev.onChrono_oldAlm (d : Dev) (n : Fin 64) (f : Chrono → Chrono) : (d.onChrono n f).oldAlm = d.oldAlm := rfl
@[simp] theorem Dev.onChrono_almValid (d : Dev) (n : Fin 64) (f : Chrono → Chrono) : (d.onChrono n f).almValid = d.almValid := rfl
@[simp] theorem Dev.onChrono_stage (d : Dev) (n : Fin 64) (f : Chrono → Chrono) : (d.onChrono n f).stage = d.stage := rfl
@[simp] theorem Dev.onChrono_apply (d : Dev) (n : Fin 64) (f : Chrono → Chrono) : (d.onChrono n f).apply = d.apply := rfl
@[simp] theorem Dev.onChrono_logs (d : Dev) (n : Fin 64) (f : Chrono → Chrono) : (d.onChrono n f).logs = d.logs := rfl
@[simp] theorem Dev.onChrono_queues (d : Dev) (n : Fin 64) (f : Chrono → Chrono) : (d.onChrono n f).queues = d.queues := rfl
@[simp] theorem Dev.onChrono_handed (d : Dev) (n : Fin 64) (f : Chrono → Chrono) : (d.onChrono n f).handed = d.handed := rfl
@[simp] theorem Dev.onChrono_marks (d : Dev) (n : Fin 64) (f : Chrono → Chrono) : (d.onChrono n f).marks = d.marks := rfl
@[simp] theorem Dev.onChrono_pool (d : Dev) (n : Fin 64) (f : Chrono → Chrono) : (d.onChrono n f).pool = d.pool := rfl
@[simp] theorem Dev.onChrono_incarn (d : Dev) (n : Fin 64) (f : Chrono → Chrono) : (d.onChrono n f).incarn = d.incarn := rfl
@[simp] theorem Dev.onChrono_lanes (d : Dev) (n : Fin 64) (f : Chrono → Chrono) : (d.onChrono n f).lanes = d.lanes := rfl
@[simp] theorem Dev.onChrono_ports (d : Dev) (n : Fin 64) (f : Chrono → Chrono) : (d.onChrono n f).ports = d.ports := rfl
@[simp] theorem Dev.onChrono_queuings (d : Dev) (n : Fin 64) (f : Chrono → Chrono) : (d.onChrono n f).queuings = d.queuings := rfl
@[simp] theorem Dev.onChrono_rests (d : Dev) (n : Fin 64) (f : Chrono → Chrono) : (d.onChrono n f).rests = d.rests := rfl
@[simp] theorem Dev.onChrono_shut (d : Dev) (n : Fin 64) (f : Chrono → Chrono) : (d.onChrono n f).shut = d.shut := rfl
@[simp] theorem Dev.onChrono_xports (d : Dev) (n : Fin 64) (f : Chrono → Chrono) : (d.onChrono n f).xports = d.xports := rfl
@[simp] theorem Dev.onChrono_cards (d : Dev) (n : Fin 64) (f : Chrono → Chrono) : (d.onChrono n f).cards = d.cards := rfl
@[simp] theorem Dev.onChrono_red (d : Dev) (n : Fin 64) (f : Chrono → Chrono) : (d.onChrono n f).red = d.red := rfl
@[simp] theorem Dev.onChrono_colls (d : Dev) (n : Fin 64) (f : Chrono → Chrono) : (d.onChrono n f).colls = d.colls := rfl
@[simp] theorem Dev.onChrono_collMasks (d : Dev) (n : Fin 64) (f : Chrono → Chrono) : (d.onChrono n f).collMasks = d.collMasks := rfl
@[simp] theorem Dev.onChrono_collStarts (d : Dev) (n : Fin 64) (f : Chrono → Chrono) : (d.onChrono n f).collStarts = d.collStarts := rfl
@[simp] theorem Dev.onChrono_axes (d : Dev) (n : Fin 64) (f : Chrono → Chrono) : (d.onChrono n f).axes = d.axes := rfl
@[simp] theorem Dev.onChrono_sched (d : Dev) (n : Fin 64) (f : Chrono → Chrono) : (d.onChrono n f).sched = d.sched := rfl
@[simp] theorem Dev.onChrono_schedRun (d : Dev) (n : Fin 64) (f : Chrono → Chrono) : (d.onChrono n f).schedRun = d.schedRun := rfl
@[simp] theorem Dev.onChrono_chronos (d : Dev) (n : Fin 64) (f : Chrono → Chrono) : (d.onChrono n f).chronos = d.chronos.set n (f d.chronos[n]) := rfl
@[simp] theorem Dev.onChrono_outs (d : Dev) (n : Fin 64) (f : Chrono → Chrono) : (d.onChrono n f).outs = d.outs := rfl
@[simp] theorem Dev.onChrono_cmps (d : Dev) (n : Fin 64) (f : Chrono → Chrono) : (d.onChrono n f).cmps = d.cmps := rfl
@[simp] theorem Dev.onChrono_tripCfgWritten (d : Dev) (n : Fin 64) (f : Chrono → Chrono) : (d.onChrono n f).tripCfgWritten = d.tripCfgWritten := rfl
@[simp] theorem Dev.onChrono_fired (d : Dev) (n : Fin 64) (f : Chrono → Chrono) : (d.onChrono n f).fired = d.fired := rfl
@[simp] theorem Dev.onChrono_worked (d : Dev) (n : Fin 64) (f : Chrono → Chrono) : (d.onChrono n f).worked = d.worked := rfl
@[simp] theorem Dev.onChrono_caps (d : Dev) (n : Fin 64) (f : Chrono → Chrono) : (d.onChrono n f).caps = d.caps := rfl
@[simp] theorem Dev.onChrono_tripJobs (d : Dev) (n : Fin 64) (f : Chrono → Chrono) : (d.onChrono n f).tripJobs = d.tripJobs := rfl
@[simp] theorem Dev.onChrono_tripOut (d : Dev) (n : Fin 64) (f : Chrono → Chrono) : (d.onChrono n f).tripOut = d.tripOut := rfl
@[simp] theorem Dev.onChrono_link (d : Dev) (n : Fin 64) (f : Chrono → Chrono) : (d.onChrono n f).link = d.link := rfl
@[simp] theorem Dev.onChrono_vault (d : Dev) (n : Fin 64) (f : Chrono → Chrono) : (d.onChrono n f).vault = d.vault := rfl
@[simp] theorem Dev.onChrono_outputs (d : Dev) (n : Fin 64) (f : Chrono → Chrono) : (d.onChrono n f).outputs = d.outputs := rfl
@[simp] theorem Dev.onChrono_events (d : Dev) (n : Fin 64) (f : Chrono → Chrono) : (d.onChrono n f).events = d.events := rfl
@[simp] theorem Dev.onChrono_free (d : Dev) (n : Fin 64) (f : Chrono → Chrono) : (d.onChrono n f).free = d.free := rfl

/-! `Dev.onOut` -/

@[simp] theorem Dev.onOut_regs (d : Dev) (n : Fin 32) (f : Out → Out) : (d.onOut n f).regs = d.regs := rfl
@[simp] theorem Dev.onOut_staging (d : Dev) (n : Fin 32) (f : Out → Out) : (d.onOut n f).staging = d.staging := rfl
@[simp] theorem Dev.onOut_latches (d : Dev) (n : Fin 32) (f : Out → Out) : (d.onOut n f).latches = d.latches := rfl
@[simp] theorem Dev.onOut_spiHeld (d : Dev) (n : Fin 32) (f : Out → Out) : (d.onOut n f).spiHeld = d.spiHeld := rfl
@[simp] theorem Dev.onOut_boot (d : Dev) (n : Fin 32) (f : Out → Out) : (d.onOut n f).boot = d.boot := rfl
@[simp] theorem Dev.onOut_clk (d : Dev) (n : Fin 32) (f : Out → Out) : (d.onOut n f).clk = d.clk := rfl
@[simp] theorem Dev.onOut_quads (d : Dev) (n : Fin 32) (f : Out → Out) : (d.onOut n f).quads = d.quads := rfl
@[simp] theorem Dev.onOut_alm (d : Dev) (n : Fin 32) (f : Out → Out) : (d.onOut n f).alm = d.alm := rfl
@[simp] theorem Dev.onOut_oldAlm (d : Dev) (n : Fin 32) (f : Out → Out) : (d.onOut n f).oldAlm = d.oldAlm := rfl
@[simp] theorem Dev.onOut_almValid (d : Dev) (n : Fin 32) (f : Out → Out) : (d.onOut n f).almValid = d.almValid := rfl
@[simp] theorem Dev.onOut_stage (d : Dev) (n : Fin 32) (f : Out → Out) : (d.onOut n f).stage = d.stage := rfl
@[simp] theorem Dev.onOut_apply (d : Dev) (n : Fin 32) (f : Out → Out) : (d.onOut n f).apply = d.apply := rfl
@[simp] theorem Dev.onOut_logs (d : Dev) (n : Fin 32) (f : Out → Out) : (d.onOut n f).logs = d.logs := rfl
@[simp] theorem Dev.onOut_queues (d : Dev) (n : Fin 32) (f : Out → Out) : (d.onOut n f).queues = d.queues := rfl
@[simp] theorem Dev.onOut_handed (d : Dev) (n : Fin 32) (f : Out → Out) : (d.onOut n f).handed = d.handed := rfl
@[simp] theorem Dev.onOut_marks (d : Dev) (n : Fin 32) (f : Out → Out) : (d.onOut n f).marks = d.marks := rfl
@[simp] theorem Dev.onOut_pool (d : Dev) (n : Fin 32) (f : Out → Out) : (d.onOut n f).pool = d.pool := rfl
@[simp] theorem Dev.onOut_incarn (d : Dev) (n : Fin 32) (f : Out → Out) : (d.onOut n f).incarn = d.incarn := rfl
@[simp] theorem Dev.onOut_lanes (d : Dev) (n : Fin 32) (f : Out → Out) : (d.onOut n f).lanes = d.lanes := rfl
@[simp] theorem Dev.onOut_ports (d : Dev) (n : Fin 32) (f : Out → Out) : (d.onOut n f).ports = d.ports := rfl
@[simp] theorem Dev.onOut_queuings (d : Dev) (n : Fin 32) (f : Out → Out) : (d.onOut n f).queuings = d.queuings := rfl
@[simp] theorem Dev.onOut_rests (d : Dev) (n : Fin 32) (f : Out → Out) : (d.onOut n f).rests = d.rests := rfl
@[simp] theorem Dev.onOut_shut (d : Dev) (n : Fin 32) (f : Out → Out) : (d.onOut n f).shut = d.shut := rfl
@[simp] theorem Dev.onOut_xports (d : Dev) (n : Fin 32) (f : Out → Out) : (d.onOut n f).xports = d.xports := rfl
@[simp] theorem Dev.onOut_cards (d : Dev) (n : Fin 32) (f : Out → Out) : (d.onOut n f).cards = d.cards := rfl
@[simp] theorem Dev.onOut_red (d : Dev) (n : Fin 32) (f : Out → Out) : (d.onOut n f).red = d.red := rfl
@[simp] theorem Dev.onOut_colls (d : Dev) (n : Fin 32) (f : Out → Out) : (d.onOut n f).colls = d.colls := rfl
@[simp] theorem Dev.onOut_collMasks (d : Dev) (n : Fin 32) (f : Out → Out) : (d.onOut n f).collMasks = d.collMasks := rfl
@[simp] theorem Dev.onOut_collStarts (d : Dev) (n : Fin 32) (f : Out → Out) : (d.onOut n f).collStarts = d.collStarts := rfl
@[simp] theorem Dev.onOut_axes (d : Dev) (n : Fin 32) (f : Out → Out) : (d.onOut n f).axes = d.axes := rfl
@[simp] theorem Dev.onOut_sched (d : Dev) (n : Fin 32) (f : Out → Out) : (d.onOut n f).sched = d.sched := rfl
@[simp] theorem Dev.onOut_schedRun (d : Dev) (n : Fin 32) (f : Out → Out) : (d.onOut n f).schedRun = d.schedRun := rfl
@[simp] theorem Dev.onOut_chronos (d : Dev) (n : Fin 32) (f : Out → Out) : (d.onOut n f).chronos = d.chronos := rfl
@[simp] theorem Dev.onOut_outs (d : Dev) (n : Fin 32) (f : Out → Out) : (d.onOut n f).outs = d.outs.set n (f d.outs[n]) := rfl
@[simp] theorem Dev.onOut_cmps (d : Dev) (n : Fin 32) (f : Out → Out) : (d.onOut n f).cmps = d.cmps := rfl
@[simp] theorem Dev.onOut_tripCfgWritten (d : Dev) (n : Fin 32) (f : Out → Out) : (d.onOut n f).tripCfgWritten = d.tripCfgWritten := rfl
@[simp] theorem Dev.onOut_fired (d : Dev) (n : Fin 32) (f : Out → Out) : (d.onOut n f).fired = d.fired := rfl
@[simp] theorem Dev.onOut_worked (d : Dev) (n : Fin 32) (f : Out → Out) : (d.onOut n f).worked = d.worked := rfl
@[simp] theorem Dev.onOut_caps (d : Dev) (n : Fin 32) (f : Out → Out) : (d.onOut n f).caps = d.caps := rfl
@[simp] theorem Dev.onOut_tripJobs (d : Dev) (n : Fin 32) (f : Out → Out) : (d.onOut n f).tripJobs = d.tripJobs := rfl
@[simp] theorem Dev.onOut_tripOut (d : Dev) (n : Fin 32) (f : Out → Out) : (d.onOut n f).tripOut = d.tripOut := rfl
@[simp] theorem Dev.onOut_link (d : Dev) (n : Fin 32) (f : Out → Out) : (d.onOut n f).link = d.link := rfl
@[simp] theorem Dev.onOut_vault (d : Dev) (n : Fin 32) (f : Out → Out) : (d.onOut n f).vault = d.vault := rfl
@[simp] theorem Dev.onOut_outputs (d : Dev) (n : Fin 32) (f : Out → Out) : (d.onOut n f).outputs = d.outputs := rfl
@[simp] theorem Dev.onOut_events (d : Dev) (n : Fin 32) (f : Out → Out) : (d.onOut n f).events = d.events := rfl
@[simp] theorem Dev.onOut_free (d : Dev) (n : Fin 32) (f : Out → Out) : (d.onOut n f).free = d.free := rfl

/-! `Dev.onCmp` -/

@[simp] theorem Dev.onCmp_regs (d : Dev) (i : Fin 64) (f : Cmp → Cmp) : (d.onCmp i f).regs = d.regs := rfl
@[simp] theorem Dev.onCmp_staging (d : Dev) (i : Fin 64) (f : Cmp → Cmp) : (d.onCmp i f).staging = d.staging := rfl
@[simp] theorem Dev.onCmp_latches (d : Dev) (i : Fin 64) (f : Cmp → Cmp) : (d.onCmp i f).latches = d.latches := rfl
@[simp] theorem Dev.onCmp_spiHeld (d : Dev) (i : Fin 64) (f : Cmp → Cmp) : (d.onCmp i f).spiHeld = d.spiHeld := rfl
@[simp] theorem Dev.onCmp_boot (d : Dev) (i : Fin 64) (f : Cmp → Cmp) : (d.onCmp i f).boot = d.boot := rfl
@[simp] theorem Dev.onCmp_clk (d : Dev) (i : Fin 64) (f : Cmp → Cmp) : (d.onCmp i f).clk = d.clk := rfl
@[simp] theorem Dev.onCmp_quads (d : Dev) (i : Fin 64) (f : Cmp → Cmp) : (d.onCmp i f).quads = d.quads := rfl
@[simp] theorem Dev.onCmp_alm (d : Dev) (i : Fin 64) (f : Cmp → Cmp) : (d.onCmp i f).alm = d.alm := rfl
@[simp] theorem Dev.onCmp_oldAlm (d : Dev) (i : Fin 64) (f : Cmp → Cmp) : (d.onCmp i f).oldAlm = d.oldAlm := rfl
@[simp] theorem Dev.onCmp_almValid (d : Dev) (i : Fin 64) (f : Cmp → Cmp) : (d.onCmp i f).almValid = d.almValid := rfl
@[simp] theorem Dev.onCmp_stage (d : Dev) (i : Fin 64) (f : Cmp → Cmp) : (d.onCmp i f).stage = d.stage := rfl
@[simp] theorem Dev.onCmp_apply (d : Dev) (i : Fin 64) (f : Cmp → Cmp) : (d.onCmp i f).apply = d.apply := rfl
@[simp] theorem Dev.onCmp_logs (d : Dev) (i : Fin 64) (f : Cmp → Cmp) : (d.onCmp i f).logs = d.logs := rfl
@[simp] theorem Dev.onCmp_queues (d : Dev) (i : Fin 64) (f : Cmp → Cmp) : (d.onCmp i f).queues = d.queues := rfl
@[simp] theorem Dev.onCmp_handed (d : Dev) (i : Fin 64) (f : Cmp → Cmp) : (d.onCmp i f).handed = d.handed := rfl
@[simp] theorem Dev.onCmp_marks (d : Dev) (i : Fin 64) (f : Cmp → Cmp) : (d.onCmp i f).marks = d.marks := rfl
@[simp] theorem Dev.onCmp_pool (d : Dev) (i : Fin 64) (f : Cmp → Cmp) : (d.onCmp i f).pool = d.pool := rfl
@[simp] theorem Dev.onCmp_incarn (d : Dev) (i : Fin 64) (f : Cmp → Cmp) : (d.onCmp i f).incarn = d.incarn := rfl
@[simp] theorem Dev.onCmp_lanes (d : Dev) (i : Fin 64) (f : Cmp → Cmp) : (d.onCmp i f).lanes = d.lanes := rfl
@[simp] theorem Dev.onCmp_ports (d : Dev) (i : Fin 64) (f : Cmp → Cmp) : (d.onCmp i f).ports = d.ports := rfl
@[simp] theorem Dev.onCmp_queuings (d : Dev) (i : Fin 64) (f : Cmp → Cmp) : (d.onCmp i f).queuings = d.queuings := rfl
@[simp] theorem Dev.onCmp_rests (d : Dev) (i : Fin 64) (f : Cmp → Cmp) : (d.onCmp i f).rests = d.rests := rfl
@[simp] theorem Dev.onCmp_shut (d : Dev) (i : Fin 64) (f : Cmp → Cmp) : (d.onCmp i f).shut = d.shut := rfl
@[simp] theorem Dev.onCmp_xports (d : Dev) (i : Fin 64) (f : Cmp → Cmp) : (d.onCmp i f).xports = d.xports := rfl
@[simp] theorem Dev.onCmp_cards (d : Dev) (i : Fin 64) (f : Cmp → Cmp) : (d.onCmp i f).cards = d.cards := rfl
@[simp] theorem Dev.onCmp_red (d : Dev) (i : Fin 64) (f : Cmp → Cmp) : (d.onCmp i f).red = d.red := rfl
@[simp] theorem Dev.onCmp_colls (d : Dev) (i : Fin 64) (f : Cmp → Cmp) : (d.onCmp i f).colls = d.colls := rfl
@[simp] theorem Dev.onCmp_collMasks (d : Dev) (i : Fin 64) (f : Cmp → Cmp) : (d.onCmp i f).collMasks = d.collMasks := rfl
@[simp] theorem Dev.onCmp_collStarts (d : Dev) (i : Fin 64) (f : Cmp → Cmp) : (d.onCmp i f).collStarts = d.collStarts := rfl
@[simp] theorem Dev.onCmp_axes (d : Dev) (i : Fin 64) (f : Cmp → Cmp) : (d.onCmp i f).axes = d.axes := rfl
@[simp] theorem Dev.onCmp_sched (d : Dev) (i : Fin 64) (f : Cmp → Cmp) : (d.onCmp i f).sched = d.sched := rfl
@[simp] theorem Dev.onCmp_schedRun (d : Dev) (i : Fin 64) (f : Cmp → Cmp) : (d.onCmp i f).schedRun = d.schedRun := rfl
@[simp] theorem Dev.onCmp_chronos (d : Dev) (i : Fin 64) (f : Cmp → Cmp) : (d.onCmp i f).chronos = d.chronos := rfl
@[simp] theorem Dev.onCmp_outs (d : Dev) (i : Fin 64) (f : Cmp → Cmp) : (d.onCmp i f).outs = d.outs := rfl
@[simp] theorem Dev.onCmp_cmps (d : Dev) (i : Fin 64) (f : Cmp → Cmp) : (d.onCmp i f).cmps = d.cmps.set i (f d.cmps[i]) := rfl
@[simp] theorem Dev.onCmp_tripCfgWritten (d : Dev) (i : Fin 64) (f : Cmp → Cmp) : (d.onCmp i f).tripCfgWritten = d.tripCfgWritten := rfl
@[simp] theorem Dev.onCmp_fired (d : Dev) (i : Fin 64) (f : Cmp → Cmp) : (d.onCmp i f).fired = d.fired := rfl
@[simp] theorem Dev.onCmp_worked (d : Dev) (i : Fin 64) (f : Cmp → Cmp) : (d.onCmp i f).worked = d.worked := rfl
@[simp] theorem Dev.onCmp_caps (d : Dev) (i : Fin 64) (f : Cmp → Cmp) : (d.onCmp i f).caps = d.caps := rfl
@[simp] theorem Dev.onCmp_tripJobs (d : Dev) (i : Fin 64) (f : Cmp → Cmp) : (d.onCmp i f).tripJobs = d.tripJobs := rfl
@[simp] theorem Dev.onCmp_tripOut (d : Dev) (i : Fin 64) (f : Cmp → Cmp) : (d.onCmp i f).tripOut = d.tripOut := rfl
@[simp] theorem Dev.onCmp_link (d : Dev) (i : Fin 64) (f : Cmp → Cmp) : (d.onCmp i f).link = d.link := rfl
@[simp] theorem Dev.onCmp_vault (d : Dev) (i : Fin 64) (f : Cmp → Cmp) : (d.onCmp i f).vault = d.vault := rfl
@[simp] theorem Dev.onCmp_outputs (d : Dev) (i : Fin 64) (f : Cmp → Cmp) : (d.onCmp i f).outputs = d.outputs := rfl
@[simp] theorem Dev.onCmp_events (d : Dev) (i : Fin 64) (f : Cmp → Cmp) : (d.onCmp i f).events = d.events := rfl
@[simp] theorem Dev.onCmp_free (d : Dev) (i : Fin 64) (f : Cmp → Cmp) : (d.onCmp i f).free = d.free := rfl

/-! `Dev.onRed` -/

@[simp] theorem Dev.onRed_regs (d : Dev) (r : Fin 8) (f : Reducer → Reducer) : (d.onRed r f).regs = d.regs := rfl
@[simp] theorem Dev.onRed_staging (d : Dev) (r : Fin 8) (f : Reducer → Reducer) : (d.onRed r f).staging = d.staging := rfl
@[simp] theorem Dev.onRed_latches (d : Dev) (r : Fin 8) (f : Reducer → Reducer) : (d.onRed r f).latches = d.latches := rfl
@[simp] theorem Dev.onRed_spiHeld (d : Dev) (r : Fin 8) (f : Reducer → Reducer) : (d.onRed r f).spiHeld = d.spiHeld := rfl
@[simp] theorem Dev.onRed_boot (d : Dev) (r : Fin 8) (f : Reducer → Reducer) : (d.onRed r f).boot = d.boot := rfl
@[simp] theorem Dev.onRed_clk (d : Dev) (r : Fin 8) (f : Reducer → Reducer) : (d.onRed r f).clk = d.clk := rfl
@[simp] theorem Dev.onRed_quads (d : Dev) (r : Fin 8) (f : Reducer → Reducer) : (d.onRed r f).quads = d.quads := rfl
@[simp] theorem Dev.onRed_alm (d : Dev) (r : Fin 8) (f : Reducer → Reducer) : (d.onRed r f).alm = d.alm := rfl
@[simp] theorem Dev.onRed_oldAlm (d : Dev) (r : Fin 8) (f : Reducer → Reducer) : (d.onRed r f).oldAlm = d.oldAlm := rfl
@[simp] theorem Dev.onRed_almValid (d : Dev) (r : Fin 8) (f : Reducer → Reducer) : (d.onRed r f).almValid = d.almValid := rfl
@[simp] theorem Dev.onRed_stage (d : Dev) (r : Fin 8) (f : Reducer → Reducer) : (d.onRed r f).stage = d.stage := rfl
@[simp] theorem Dev.onRed_apply (d : Dev) (r : Fin 8) (f : Reducer → Reducer) : (d.onRed r f).apply = d.apply := rfl
@[simp] theorem Dev.onRed_logs (d : Dev) (r : Fin 8) (f : Reducer → Reducer) : (d.onRed r f).logs = d.logs := rfl
@[simp] theorem Dev.onRed_queues (d : Dev) (r : Fin 8) (f : Reducer → Reducer) : (d.onRed r f).queues = d.queues := rfl
@[simp] theorem Dev.onRed_handed (d : Dev) (r : Fin 8) (f : Reducer → Reducer) : (d.onRed r f).handed = d.handed := rfl
@[simp] theorem Dev.onRed_marks (d : Dev) (r : Fin 8) (f : Reducer → Reducer) : (d.onRed r f).marks = d.marks := rfl
@[simp] theorem Dev.onRed_pool (d : Dev) (r : Fin 8) (f : Reducer → Reducer) : (d.onRed r f).pool = d.pool := rfl
@[simp] theorem Dev.onRed_incarn (d : Dev) (r : Fin 8) (f : Reducer → Reducer) : (d.onRed r f).incarn = d.incarn := rfl
@[simp] theorem Dev.onRed_lanes (d : Dev) (r : Fin 8) (f : Reducer → Reducer) : (d.onRed r f).lanes = d.lanes := rfl
@[simp] theorem Dev.onRed_ports (d : Dev) (r : Fin 8) (f : Reducer → Reducer) : (d.onRed r f).ports = d.ports := rfl
@[simp] theorem Dev.onRed_queuings (d : Dev) (r : Fin 8) (f : Reducer → Reducer) : (d.onRed r f).queuings = d.queuings := rfl
@[simp] theorem Dev.onRed_rests (d : Dev) (r : Fin 8) (f : Reducer → Reducer) : (d.onRed r f).rests = d.rests := rfl
@[simp] theorem Dev.onRed_shut (d : Dev) (r : Fin 8) (f : Reducer → Reducer) : (d.onRed r f).shut = d.shut := rfl
@[simp] theorem Dev.onRed_xports (d : Dev) (r : Fin 8) (f : Reducer → Reducer) : (d.onRed r f).xports = d.xports := rfl
@[simp] theorem Dev.onRed_cards (d : Dev) (r : Fin 8) (f : Reducer → Reducer) : (d.onRed r f).cards = d.cards := rfl
@[simp] theorem Dev.onRed_red (d : Dev) (r : Fin 8) (f : Reducer → Reducer) : (d.onRed r f).red = { d.red with reducers := d.red.reducers.set r (f d.red.reducers[r]) } := rfl
@[simp] theorem Dev.onRed_colls (d : Dev) (r : Fin 8) (f : Reducer → Reducer) : (d.onRed r f).colls = d.colls := rfl
@[simp] theorem Dev.onRed_collMasks (d : Dev) (r : Fin 8) (f : Reducer → Reducer) : (d.onRed r f).collMasks = d.collMasks := rfl
@[simp] theorem Dev.onRed_collStarts (d : Dev) (r : Fin 8) (f : Reducer → Reducer) : (d.onRed r f).collStarts = d.collStarts := rfl
@[simp] theorem Dev.onRed_axes (d : Dev) (r : Fin 8) (f : Reducer → Reducer) : (d.onRed r f).axes = d.axes := rfl
@[simp] theorem Dev.onRed_sched (d : Dev) (r : Fin 8) (f : Reducer → Reducer) : (d.onRed r f).sched = d.sched := rfl
@[simp] theorem Dev.onRed_schedRun (d : Dev) (r : Fin 8) (f : Reducer → Reducer) : (d.onRed r f).schedRun = d.schedRun := rfl
@[simp] theorem Dev.onRed_chronos (d : Dev) (r : Fin 8) (f : Reducer → Reducer) : (d.onRed r f).chronos = d.chronos := rfl
@[simp] theorem Dev.onRed_outs (d : Dev) (r : Fin 8) (f : Reducer → Reducer) : (d.onRed r f).outs = d.outs := rfl
@[simp] theorem Dev.onRed_cmps (d : Dev) (r : Fin 8) (f : Reducer → Reducer) : (d.onRed r f).cmps = d.cmps := rfl
@[simp] theorem Dev.onRed_tripCfgWritten (d : Dev) (r : Fin 8) (f : Reducer → Reducer) : (d.onRed r f).tripCfgWritten = d.tripCfgWritten := rfl
@[simp] theorem Dev.onRed_fired (d : Dev) (r : Fin 8) (f : Reducer → Reducer) : (d.onRed r f).fired = d.fired := rfl
@[simp] theorem Dev.onRed_worked (d : Dev) (r : Fin 8) (f : Reducer → Reducer) : (d.onRed r f).worked = d.worked := rfl
@[simp] theorem Dev.onRed_caps (d : Dev) (r : Fin 8) (f : Reducer → Reducer) : (d.onRed r f).caps = d.caps := rfl
@[simp] theorem Dev.onRed_tripJobs (d : Dev) (r : Fin 8) (f : Reducer → Reducer) : (d.onRed r f).tripJobs = d.tripJobs := rfl
@[simp] theorem Dev.onRed_tripOut (d : Dev) (r : Fin 8) (f : Reducer → Reducer) : (d.onRed r f).tripOut = d.tripOut := rfl
@[simp] theorem Dev.onRed_link (d : Dev) (r : Fin 8) (f : Reducer → Reducer) : (d.onRed r f).link = d.link := rfl
@[simp] theorem Dev.onRed_vault (d : Dev) (r : Fin 8) (f : Reducer → Reducer) : (d.onRed r f).vault = d.vault := rfl
@[simp] theorem Dev.onRed_outputs (d : Dev) (r : Fin 8) (f : Reducer → Reducer) : (d.onRed r f).outputs = d.outputs := rfl
@[simp] theorem Dev.onRed_events (d : Dev) (r : Fin 8) (f : Reducer → Reducer) : (d.onRed r f).events = d.events := rfl
@[simp] theorem Dev.onRed_free (d : Dev) (r : Fin 8) (f : Reducer → Reducer) : (d.onRed r f).free = d.free := rfl

/-! `Dev.onColl` -/

@[simp] theorem Dev.onColl_regs (d : Dev) (q : Fin 4) (f : Coll → Coll) : (d.onColl q f).regs = d.regs := rfl
@[simp] theorem Dev.onColl_staging (d : Dev) (q : Fin 4) (f : Coll → Coll) : (d.onColl q f).staging = d.staging := rfl
@[simp] theorem Dev.onColl_latches (d : Dev) (q : Fin 4) (f : Coll → Coll) : (d.onColl q f).latches = d.latches := rfl
@[simp] theorem Dev.onColl_spiHeld (d : Dev) (q : Fin 4) (f : Coll → Coll) : (d.onColl q f).spiHeld = d.spiHeld := rfl
@[simp] theorem Dev.onColl_boot (d : Dev) (q : Fin 4) (f : Coll → Coll) : (d.onColl q f).boot = d.boot := rfl
@[simp] theorem Dev.onColl_clk (d : Dev) (q : Fin 4) (f : Coll → Coll) : (d.onColl q f).clk = d.clk := rfl
@[simp] theorem Dev.onColl_quads (d : Dev) (q : Fin 4) (f : Coll → Coll) : (d.onColl q f).quads = d.quads := rfl
@[simp] theorem Dev.onColl_alm (d : Dev) (q : Fin 4) (f : Coll → Coll) : (d.onColl q f).alm = d.alm := rfl
@[simp] theorem Dev.onColl_oldAlm (d : Dev) (q : Fin 4) (f : Coll → Coll) : (d.onColl q f).oldAlm = d.oldAlm := rfl
@[simp] theorem Dev.onColl_almValid (d : Dev) (q : Fin 4) (f : Coll → Coll) : (d.onColl q f).almValid = d.almValid := rfl
@[simp] theorem Dev.onColl_stage (d : Dev) (q : Fin 4) (f : Coll → Coll) : (d.onColl q f).stage = d.stage := rfl
@[simp] theorem Dev.onColl_apply (d : Dev) (q : Fin 4) (f : Coll → Coll) : (d.onColl q f).apply = d.apply := rfl
@[simp] theorem Dev.onColl_logs (d : Dev) (q : Fin 4) (f : Coll → Coll) : (d.onColl q f).logs = d.logs := rfl
@[simp] theorem Dev.onColl_queues (d : Dev) (q : Fin 4) (f : Coll → Coll) : (d.onColl q f).queues = d.queues := rfl
@[simp] theorem Dev.onColl_handed (d : Dev) (q : Fin 4) (f : Coll → Coll) : (d.onColl q f).handed = d.handed := rfl
@[simp] theorem Dev.onColl_marks (d : Dev) (q : Fin 4) (f : Coll → Coll) : (d.onColl q f).marks = d.marks := rfl
@[simp] theorem Dev.onColl_pool (d : Dev) (q : Fin 4) (f : Coll → Coll) : (d.onColl q f).pool = d.pool := rfl
@[simp] theorem Dev.onColl_incarn (d : Dev) (q : Fin 4) (f : Coll → Coll) : (d.onColl q f).incarn = d.incarn := rfl
@[simp] theorem Dev.onColl_lanes (d : Dev) (q : Fin 4) (f : Coll → Coll) : (d.onColl q f).lanes = d.lanes := rfl
@[simp] theorem Dev.onColl_ports (d : Dev) (q : Fin 4) (f : Coll → Coll) : (d.onColl q f).ports = d.ports := rfl
@[simp] theorem Dev.onColl_queuings (d : Dev) (q : Fin 4) (f : Coll → Coll) : (d.onColl q f).queuings = d.queuings := rfl
@[simp] theorem Dev.onColl_rests (d : Dev) (q : Fin 4) (f : Coll → Coll) : (d.onColl q f).rests = d.rests := rfl
@[simp] theorem Dev.onColl_shut (d : Dev) (q : Fin 4) (f : Coll → Coll) : (d.onColl q f).shut = d.shut := rfl
@[simp] theorem Dev.onColl_xports (d : Dev) (q : Fin 4) (f : Coll → Coll) : (d.onColl q f).xports = d.xports := rfl
@[simp] theorem Dev.onColl_cards (d : Dev) (q : Fin 4) (f : Coll → Coll) : (d.onColl q f).cards = d.cards := rfl
@[simp] theorem Dev.onColl_red (d : Dev) (q : Fin 4) (f : Coll → Coll) : (d.onColl q f).red = d.red := rfl
@[simp] theorem Dev.onColl_colls (d : Dev) (q : Fin 4) (f : Coll → Coll) : (d.onColl q f).colls = d.colls.set q (f d.colls[q]) := rfl
@[simp] theorem Dev.onColl_collMasks (d : Dev) (q : Fin 4) (f : Coll → Coll) : (d.onColl q f).collMasks = d.collMasks := rfl
@[simp] theorem Dev.onColl_collStarts (d : Dev) (q : Fin 4) (f : Coll → Coll) : (d.onColl q f).collStarts = d.collStarts := rfl
@[simp] theorem Dev.onColl_axes (d : Dev) (q : Fin 4) (f : Coll → Coll) : (d.onColl q f).axes = d.axes := rfl
@[simp] theorem Dev.onColl_sched (d : Dev) (q : Fin 4) (f : Coll → Coll) : (d.onColl q f).sched = d.sched := rfl
@[simp] theorem Dev.onColl_schedRun (d : Dev) (q : Fin 4) (f : Coll → Coll) : (d.onColl q f).schedRun = d.schedRun := rfl
@[simp] theorem Dev.onColl_chronos (d : Dev) (q : Fin 4) (f : Coll → Coll) : (d.onColl q f).chronos = d.chronos := rfl
@[simp] theorem Dev.onColl_outs (d : Dev) (q : Fin 4) (f : Coll → Coll) : (d.onColl q f).outs = d.outs := rfl
@[simp] theorem Dev.onColl_cmps (d : Dev) (q : Fin 4) (f : Coll → Coll) : (d.onColl q f).cmps = d.cmps := rfl
@[simp] theorem Dev.onColl_tripCfgWritten (d : Dev) (q : Fin 4) (f : Coll → Coll) : (d.onColl q f).tripCfgWritten = d.tripCfgWritten := rfl
@[simp] theorem Dev.onColl_fired (d : Dev) (q : Fin 4) (f : Coll → Coll) : (d.onColl q f).fired = d.fired := rfl
@[simp] theorem Dev.onColl_worked (d : Dev) (q : Fin 4) (f : Coll → Coll) : (d.onColl q f).worked = d.worked := rfl
@[simp] theorem Dev.onColl_caps (d : Dev) (q : Fin 4) (f : Coll → Coll) : (d.onColl q f).caps = d.caps := rfl
@[simp] theorem Dev.onColl_tripJobs (d : Dev) (q : Fin 4) (f : Coll → Coll) : (d.onColl q f).tripJobs = d.tripJobs := rfl
@[simp] theorem Dev.onColl_tripOut (d : Dev) (q : Fin 4) (f : Coll → Coll) : (d.onColl q f).tripOut = d.tripOut := rfl
@[simp] theorem Dev.onColl_link (d : Dev) (q : Fin 4) (f : Coll → Coll) : (d.onColl q f).link = d.link := rfl
@[simp] theorem Dev.onColl_vault (d : Dev) (q : Fin 4) (f : Coll → Coll) : (d.onColl q f).vault = d.vault := rfl
@[simp] theorem Dev.onColl_outputs (d : Dev) (q : Fin 4) (f : Coll → Coll) : (d.onColl q f).outputs = d.outputs := rfl
@[simp] theorem Dev.onColl_events (d : Dev) (q : Fin 4) (f : Coll → Coll) : (d.onColl q f).events = d.events := rfl
@[simp] theorem Dev.onColl_free (d : Dev) (q : Fin 4) (f : Coll → Coll) : (d.onColl q f).free = d.free := rfl

/-! `Dev.onClk` -/

@[simp] theorem Dev.onClk_regs (d : Dev) (f : Clock → Clock) : (d.onClk f).regs = d.regs := rfl
@[simp] theorem Dev.onClk_staging (d : Dev) (f : Clock → Clock) : (d.onClk f).staging = d.staging := rfl
@[simp] theorem Dev.onClk_latches (d : Dev) (f : Clock → Clock) : (d.onClk f).latches = d.latches := rfl
@[simp] theorem Dev.onClk_spiHeld (d : Dev) (f : Clock → Clock) : (d.onClk f).spiHeld = d.spiHeld := rfl
@[simp] theorem Dev.onClk_boot (d : Dev) (f : Clock → Clock) : (d.onClk f).boot = d.boot := rfl
@[simp] theorem Dev.onClk_clk (d : Dev) (f : Clock → Clock) : (d.onClk f).clk = f d.clk := rfl
@[simp] theorem Dev.onClk_quads (d : Dev) (f : Clock → Clock) : (d.onClk f).quads = d.quads := rfl
@[simp] theorem Dev.onClk_alm (d : Dev) (f : Clock → Clock) : (d.onClk f).alm = d.alm := rfl
@[simp] theorem Dev.onClk_oldAlm (d : Dev) (f : Clock → Clock) : (d.onClk f).oldAlm = d.oldAlm := rfl
@[simp] theorem Dev.onClk_almValid (d : Dev) (f : Clock → Clock) : (d.onClk f).almValid = d.almValid := rfl
@[simp] theorem Dev.onClk_stage (d : Dev) (f : Clock → Clock) : (d.onClk f).stage = d.stage := rfl
@[simp] theorem Dev.onClk_apply (d : Dev) (f : Clock → Clock) : (d.onClk f).apply = d.apply := rfl
@[simp] theorem Dev.onClk_logs (d : Dev) (f : Clock → Clock) : (d.onClk f).logs = d.logs := rfl
@[simp] theorem Dev.onClk_queues (d : Dev) (f : Clock → Clock) : (d.onClk f).queues = d.queues := rfl
@[simp] theorem Dev.onClk_handed (d : Dev) (f : Clock → Clock) : (d.onClk f).handed = d.handed := rfl
@[simp] theorem Dev.onClk_marks (d : Dev) (f : Clock → Clock) : (d.onClk f).marks = d.marks := rfl
@[simp] theorem Dev.onClk_pool (d : Dev) (f : Clock → Clock) : (d.onClk f).pool = d.pool := rfl
@[simp] theorem Dev.onClk_incarn (d : Dev) (f : Clock → Clock) : (d.onClk f).incarn = d.incarn := rfl
@[simp] theorem Dev.onClk_lanes (d : Dev) (f : Clock → Clock) : (d.onClk f).lanes = d.lanes := rfl
@[simp] theorem Dev.onClk_ports (d : Dev) (f : Clock → Clock) : (d.onClk f).ports = d.ports := rfl
@[simp] theorem Dev.onClk_queuings (d : Dev) (f : Clock → Clock) : (d.onClk f).queuings = d.queuings := rfl
@[simp] theorem Dev.onClk_rests (d : Dev) (f : Clock → Clock) : (d.onClk f).rests = d.rests := rfl
@[simp] theorem Dev.onClk_shut (d : Dev) (f : Clock → Clock) : (d.onClk f).shut = d.shut := rfl
@[simp] theorem Dev.onClk_xports (d : Dev) (f : Clock → Clock) : (d.onClk f).xports = d.xports := rfl
@[simp] theorem Dev.onClk_cards (d : Dev) (f : Clock → Clock) : (d.onClk f).cards = d.cards := rfl
@[simp] theorem Dev.onClk_red (d : Dev) (f : Clock → Clock) : (d.onClk f).red = d.red := rfl
@[simp] theorem Dev.onClk_colls (d : Dev) (f : Clock → Clock) : (d.onClk f).colls = d.colls := rfl
@[simp] theorem Dev.onClk_collMasks (d : Dev) (f : Clock → Clock) : (d.onClk f).collMasks = d.collMasks := rfl
@[simp] theorem Dev.onClk_collStarts (d : Dev) (f : Clock → Clock) : (d.onClk f).collStarts = d.collStarts := rfl
@[simp] theorem Dev.onClk_axes (d : Dev) (f : Clock → Clock) : (d.onClk f).axes = d.axes := rfl
@[simp] theorem Dev.onClk_sched (d : Dev) (f : Clock → Clock) : (d.onClk f).sched = d.sched := rfl
@[simp] theorem Dev.onClk_schedRun (d : Dev) (f : Clock → Clock) : (d.onClk f).schedRun = d.schedRun := rfl
@[simp] theorem Dev.onClk_chronos (d : Dev) (f : Clock → Clock) : (d.onClk f).chronos = d.chronos := rfl
@[simp] theorem Dev.onClk_outs (d : Dev) (f : Clock → Clock) : (d.onClk f).outs = d.outs := rfl
@[simp] theorem Dev.onClk_cmps (d : Dev) (f : Clock → Clock) : (d.onClk f).cmps = d.cmps := rfl
@[simp] theorem Dev.onClk_tripCfgWritten (d : Dev) (f : Clock → Clock) : (d.onClk f).tripCfgWritten = d.tripCfgWritten := rfl
@[simp] theorem Dev.onClk_fired (d : Dev) (f : Clock → Clock) : (d.onClk f).fired = d.fired := rfl
@[simp] theorem Dev.onClk_worked (d : Dev) (f : Clock → Clock) : (d.onClk f).worked = d.worked := rfl
@[simp] theorem Dev.onClk_caps (d : Dev) (f : Clock → Clock) : (d.onClk f).caps = d.caps := rfl
@[simp] theorem Dev.onClk_tripJobs (d : Dev) (f : Clock → Clock) : (d.onClk f).tripJobs = d.tripJobs := rfl
@[simp] theorem Dev.onClk_tripOut (d : Dev) (f : Clock → Clock) : (d.onClk f).tripOut = d.tripOut := rfl
@[simp] theorem Dev.onClk_link (d : Dev) (f : Clock → Clock) : (d.onClk f).link = d.link := rfl
@[simp] theorem Dev.onClk_vault (d : Dev) (f : Clock → Clock) : (d.onClk f).vault = d.vault := rfl
@[simp] theorem Dev.onClk_outputs (d : Dev) (f : Clock → Clock) : (d.onClk f).outputs = d.outputs := rfl
@[simp] theorem Dev.onClk_events (d : Dev) (f : Clock → Clock) : (d.onClk f).events = d.events := rfl
@[simp] theorem Dev.onClk_free (d : Dev) (f : Clock → Clock) : (d.onClk f).free = d.free := rfl

/-! `Dev.onBoot` -/

@[simp] theorem Dev.onBoot_regs (d : Dev) (f : Boot → Boot) : (d.onBoot f).regs = d.regs := rfl
@[simp] theorem Dev.onBoot_staging (d : Dev) (f : Boot → Boot) : (d.onBoot f).staging = d.staging := rfl
@[simp] theorem Dev.onBoot_latches (d : Dev) (f : Boot → Boot) : (d.onBoot f).latches = d.latches := rfl
@[simp] theorem Dev.onBoot_spiHeld (d : Dev) (f : Boot → Boot) : (d.onBoot f).spiHeld = d.spiHeld := rfl
@[simp] theorem Dev.onBoot_boot (d : Dev) (f : Boot → Boot) : (d.onBoot f).boot = f d.boot := rfl
@[simp] theorem Dev.onBoot_clk (d : Dev) (f : Boot → Boot) : (d.onBoot f).clk = d.clk := rfl
@[simp] theorem Dev.onBoot_quads (d : Dev) (f : Boot → Boot) : (d.onBoot f).quads = d.quads := rfl
@[simp] theorem Dev.onBoot_alm (d : Dev) (f : Boot → Boot) : (d.onBoot f).alm = d.alm := rfl
@[simp] theorem Dev.onBoot_oldAlm (d : Dev) (f : Boot → Boot) : (d.onBoot f).oldAlm = d.oldAlm := rfl
@[simp] theorem Dev.onBoot_almValid (d : Dev) (f : Boot → Boot) : (d.onBoot f).almValid = d.almValid := rfl
@[simp] theorem Dev.onBoot_stage (d : Dev) (f : Boot → Boot) : (d.onBoot f).stage = d.stage := rfl
@[simp] theorem Dev.onBoot_apply (d : Dev) (f : Boot → Boot) : (d.onBoot f).apply = d.apply := rfl
@[simp] theorem Dev.onBoot_logs (d : Dev) (f : Boot → Boot) : (d.onBoot f).logs = d.logs := rfl
@[simp] theorem Dev.onBoot_queues (d : Dev) (f : Boot → Boot) : (d.onBoot f).queues = d.queues := rfl
@[simp] theorem Dev.onBoot_handed (d : Dev) (f : Boot → Boot) : (d.onBoot f).handed = d.handed := rfl
@[simp] theorem Dev.onBoot_marks (d : Dev) (f : Boot → Boot) : (d.onBoot f).marks = d.marks := rfl
@[simp] theorem Dev.onBoot_pool (d : Dev) (f : Boot → Boot) : (d.onBoot f).pool = d.pool := rfl
@[simp] theorem Dev.onBoot_incarn (d : Dev) (f : Boot → Boot) : (d.onBoot f).incarn = d.incarn := rfl
@[simp] theorem Dev.onBoot_lanes (d : Dev) (f : Boot → Boot) : (d.onBoot f).lanes = d.lanes := rfl
@[simp] theorem Dev.onBoot_ports (d : Dev) (f : Boot → Boot) : (d.onBoot f).ports = d.ports := rfl
@[simp] theorem Dev.onBoot_queuings (d : Dev) (f : Boot → Boot) : (d.onBoot f).queuings = d.queuings := rfl
@[simp] theorem Dev.onBoot_rests (d : Dev) (f : Boot → Boot) : (d.onBoot f).rests = d.rests := rfl
@[simp] theorem Dev.onBoot_shut (d : Dev) (f : Boot → Boot) : (d.onBoot f).shut = d.shut := rfl
@[simp] theorem Dev.onBoot_xports (d : Dev) (f : Boot → Boot) : (d.onBoot f).xports = d.xports := rfl
@[simp] theorem Dev.onBoot_cards (d : Dev) (f : Boot → Boot) : (d.onBoot f).cards = d.cards := rfl
@[simp] theorem Dev.onBoot_red (d : Dev) (f : Boot → Boot) : (d.onBoot f).red = d.red := rfl
@[simp] theorem Dev.onBoot_colls (d : Dev) (f : Boot → Boot) : (d.onBoot f).colls = d.colls := rfl
@[simp] theorem Dev.onBoot_collMasks (d : Dev) (f : Boot → Boot) : (d.onBoot f).collMasks = d.collMasks := rfl
@[simp] theorem Dev.onBoot_collStarts (d : Dev) (f : Boot → Boot) : (d.onBoot f).collStarts = d.collStarts := rfl
@[simp] theorem Dev.onBoot_axes (d : Dev) (f : Boot → Boot) : (d.onBoot f).axes = d.axes := rfl
@[simp] theorem Dev.onBoot_sched (d : Dev) (f : Boot → Boot) : (d.onBoot f).sched = d.sched := rfl
@[simp] theorem Dev.onBoot_schedRun (d : Dev) (f : Boot → Boot) : (d.onBoot f).schedRun = d.schedRun := rfl
@[simp] theorem Dev.onBoot_chronos (d : Dev) (f : Boot → Boot) : (d.onBoot f).chronos = d.chronos := rfl
@[simp] theorem Dev.onBoot_outs (d : Dev) (f : Boot → Boot) : (d.onBoot f).outs = d.outs := rfl
@[simp] theorem Dev.onBoot_cmps (d : Dev) (f : Boot → Boot) : (d.onBoot f).cmps = d.cmps := rfl
@[simp] theorem Dev.onBoot_tripCfgWritten (d : Dev) (f : Boot → Boot) : (d.onBoot f).tripCfgWritten = d.tripCfgWritten := rfl
@[simp] theorem Dev.onBoot_fired (d : Dev) (f : Boot → Boot) : (d.onBoot f).fired = d.fired := rfl
@[simp] theorem Dev.onBoot_worked (d : Dev) (f : Boot → Boot) : (d.onBoot f).worked = d.worked := rfl
@[simp] theorem Dev.onBoot_caps (d : Dev) (f : Boot → Boot) : (d.onBoot f).caps = d.caps := rfl
@[simp] theorem Dev.onBoot_tripJobs (d : Dev) (f : Boot → Boot) : (d.onBoot f).tripJobs = d.tripJobs := rfl
@[simp] theorem Dev.onBoot_tripOut (d : Dev) (f : Boot → Boot) : (d.onBoot f).tripOut = d.tripOut := rfl
@[simp] theorem Dev.onBoot_link (d : Dev) (f : Boot → Boot) : (d.onBoot f).link = d.link := rfl
@[simp] theorem Dev.onBoot_vault (d : Dev) (f : Boot → Boot) : (d.onBoot f).vault = d.vault := rfl
@[simp] theorem Dev.onBoot_outputs (d : Dev) (f : Boot → Boot) : (d.onBoot f).outputs = d.outputs := rfl
@[simp] theorem Dev.onBoot_events (d : Dev) (f : Boot → Boot) : (d.onBoot f).events = d.events := rfl
@[simp] theorem Dev.onBoot_free (d : Dev) (f : Boot → Boot) : (d.onBoot f).free = d.free := rfl

/-! `Dev.onLink` -/

@[simp] theorem Dev.onLink_regs (d : Dev) (f : Link → Link) : (d.onLink f).regs = d.regs := rfl
@[simp] theorem Dev.onLink_staging (d : Dev) (f : Link → Link) : (d.onLink f).staging = d.staging := rfl
@[simp] theorem Dev.onLink_latches (d : Dev) (f : Link → Link) : (d.onLink f).latches = d.latches := rfl
@[simp] theorem Dev.onLink_spiHeld (d : Dev) (f : Link → Link) : (d.onLink f).spiHeld = d.spiHeld := rfl
@[simp] theorem Dev.onLink_boot (d : Dev) (f : Link → Link) : (d.onLink f).boot = d.boot := rfl
@[simp] theorem Dev.onLink_clk (d : Dev) (f : Link → Link) : (d.onLink f).clk = d.clk := rfl
@[simp] theorem Dev.onLink_quads (d : Dev) (f : Link → Link) : (d.onLink f).quads = d.quads := rfl
@[simp] theorem Dev.onLink_alm (d : Dev) (f : Link → Link) : (d.onLink f).alm = d.alm := rfl
@[simp] theorem Dev.onLink_oldAlm (d : Dev) (f : Link → Link) : (d.onLink f).oldAlm = d.oldAlm := rfl
@[simp] theorem Dev.onLink_almValid (d : Dev) (f : Link → Link) : (d.onLink f).almValid = d.almValid := rfl
@[simp] theorem Dev.onLink_stage (d : Dev) (f : Link → Link) : (d.onLink f).stage = d.stage := rfl
@[simp] theorem Dev.onLink_apply (d : Dev) (f : Link → Link) : (d.onLink f).apply = d.apply := rfl
@[simp] theorem Dev.onLink_logs (d : Dev) (f : Link → Link) : (d.onLink f).logs = d.logs := rfl
@[simp] theorem Dev.onLink_queues (d : Dev) (f : Link → Link) : (d.onLink f).queues = d.queues := rfl
@[simp] theorem Dev.onLink_handed (d : Dev) (f : Link → Link) : (d.onLink f).handed = d.handed := rfl
@[simp] theorem Dev.onLink_marks (d : Dev) (f : Link → Link) : (d.onLink f).marks = d.marks := rfl
@[simp] theorem Dev.onLink_pool (d : Dev) (f : Link → Link) : (d.onLink f).pool = d.pool := rfl
@[simp] theorem Dev.onLink_incarn (d : Dev) (f : Link → Link) : (d.onLink f).incarn = d.incarn := rfl
@[simp] theorem Dev.onLink_lanes (d : Dev) (f : Link → Link) : (d.onLink f).lanes = d.lanes := rfl
@[simp] theorem Dev.onLink_ports (d : Dev) (f : Link → Link) : (d.onLink f).ports = d.ports := rfl
@[simp] theorem Dev.onLink_queuings (d : Dev) (f : Link → Link) : (d.onLink f).queuings = d.queuings := rfl
@[simp] theorem Dev.onLink_rests (d : Dev) (f : Link → Link) : (d.onLink f).rests = d.rests := rfl
@[simp] theorem Dev.onLink_shut (d : Dev) (f : Link → Link) : (d.onLink f).shut = d.shut := rfl
@[simp] theorem Dev.onLink_xports (d : Dev) (f : Link → Link) : (d.onLink f).xports = d.xports := rfl
@[simp] theorem Dev.onLink_cards (d : Dev) (f : Link → Link) : (d.onLink f).cards = d.cards := rfl
@[simp] theorem Dev.onLink_red (d : Dev) (f : Link → Link) : (d.onLink f).red = d.red := rfl
@[simp] theorem Dev.onLink_colls (d : Dev) (f : Link → Link) : (d.onLink f).colls = d.colls := rfl
@[simp] theorem Dev.onLink_collMasks (d : Dev) (f : Link → Link) : (d.onLink f).collMasks = d.collMasks := rfl
@[simp] theorem Dev.onLink_collStarts (d : Dev) (f : Link → Link) : (d.onLink f).collStarts = d.collStarts := rfl
@[simp] theorem Dev.onLink_axes (d : Dev) (f : Link → Link) : (d.onLink f).axes = d.axes := rfl
@[simp] theorem Dev.onLink_sched (d : Dev) (f : Link → Link) : (d.onLink f).sched = d.sched := rfl
@[simp] theorem Dev.onLink_schedRun (d : Dev) (f : Link → Link) : (d.onLink f).schedRun = d.schedRun := rfl
@[simp] theorem Dev.onLink_chronos (d : Dev) (f : Link → Link) : (d.onLink f).chronos = d.chronos := rfl
@[simp] theorem Dev.onLink_outs (d : Dev) (f : Link → Link) : (d.onLink f).outs = d.outs := rfl
@[simp] theorem Dev.onLink_cmps (d : Dev) (f : Link → Link) : (d.onLink f).cmps = d.cmps := rfl
@[simp] theorem Dev.onLink_tripCfgWritten (d : Dev) (f : Link → Link) : (d.onLink f).tripCfgWritten = d.tripCfgWritten := rfl
@[simp] theorem Dev.onLink_fired (d : Dev) (f : Link → Link) : (d.onLink f).fired = d.fired := rfl
@[simp] theorem Dev.onLink_worked (d : Dev) (f : Link → Link) : (d.onLink f).worked = d.worked := rfl
@[simp] theorem Dev.onLink_caps (d : Dev) (f : Link → Link) : (d.onLink f).caps = d.caps := rfl
@[simp] theorem Dev.onLink_tripJobs (d : Dev) (f : Link → Link) : (d.onLink f).tripJobs = d.tripJobs := rfl
@[simp] theorem Dev.onLink_tripOut (d : Dev) (f : Link → Link) : (d.onLink f).tripOut = d.tripOut := rfl
@[simp] theorem Dev.onLink_link (d : Dev) (f : Link → Link) : (d.onLink f).link = f d.link := rfl
@[simp] theorem Dev.onLink_vault (d : Dev) (f : Link → Link) : (d.onLink f).vault = d.vault := rfl
@[simp] theorem Dev.onLink_outputs (d : Dev) (f : Link → Link) : (d.onLink f).outputs = d.outputs := rfl
@[simp] theorem Dev.onLink_events (d : Dev) (f : Link → Link) : (d.onLink f).events = d.events := rfl
@[simp] theorem Dev.onLink_free (d : Dev) (f : Link → Link) : (d.onLink f).free = d.free := rfl

/-! `Dev.onVault` -/

@[simp] theorem Dev.onVault_regs (d : Dev) (f : Vault → Vault) : (d.onVault f).regs = d.regs := rfl
@[simp] theorem Dev.onVault_staging (d : Dev) (f : Vault → Vault) : (d.onVault f).staging = d.staging := rfl
@[simp] theorem Dev.onVault_latches (d : Dev) (f : Vault → Vault) : (d.onVault f).latches = d.latches := rfl
@[simp] theorem Dev.onVault_spiHeld (d : Dev) (f : Vault → Vault) : (d.onVault f).spiHeld = d.spiHeld := rfl
@[simp] theorem Dev.onVault_boot (d : Dev) (f : Vault → Vault) : (d.onVault f).boot = d.boot := rfl
@[simp] theorem Dev.onVault_clk (d : Dev) (f : Vault → Vault) : (d.onVault f).clk = d.clk := rfl
@[simp] theorem Dev.onVault_quads (d : Dev) (f : Vault → Vault) : (d.onVault f).quads = d.quads := rfl
@[simp] theorem Dev.onVault_alm (d : Dev) (f : Vault → Vault) : (d.onVault f).alm = d.alm := rfl
@[simp] theorem Dev.onVault_oldAlm (d : Dev) (f : Vault → Vault) : (d.onVault f).oldAlm = d.oldAlm := rfl
@[simp] theorem Dev.onVault_almValid (d : Dev) (f : Vault → Vault) : (d.onVault f).almValid = d.almValid := rfl
@[simp] theorem Dev.onVault_stage (d : Dev) (f : Vault → Vault) : (d.onVault f).stage = d.stage := rfl
@[simp] theorem Dev.onVault_apply (d : Dev) (f : Vault → Vault) : (d.onVault f).apply = d.apply := rfl
@[simp] theorem Dev.onVault_logs (d : Dev) (f : Vault → Vault) : (d.onVault f).logs = d.logs := rfl
@[simp] theorem Dev.onVault_queues (d : Dev) (f : Vault → Vault) : (d.onVault f).queues = d.queues := rfl
@[simp] theorem Dev.onVault_handed (d : Dev) (f : Vault → Vault) : (d.onVault f).handed = d.handed := rfl
@[simp] theorem Dev.onVault_marks (d : Dev) (f : Vault → Vault) : (d.onVault f).marks = d.marks := rfl
@[simp] theorem Dev.onVault_pool (d : Dev) (f : Vault → Vault) : (d.onVault f).pool = d.pool := rfl
@[simp] theorem Dev.onVault_incarn (d : Dev) (f : Vault → Vault) : (d.onVault f).incarn = d.incarn := rfl
@[simp] theorem Dev.onVault_lanes (d : Dev) (f : Vault → Vault) : (d.onVault f).lanes = d.lanes := rfl
@[simp] theorem Dev.onVault_ports (d : Dev) (f : Vault → Vault) : (d.onVault f).ports = d.ports := rfl
@[simp] theorem Dev.onVault_queuings (d : Dev) (f : Vault → Vault) : (d.onVault f).queuings = d.queuings := rfl
@[simp] theorem Dev.onVault_rests (d : Dev) (f : Vault → Vault) : (d.onVault f).rests = d.rests := rfl
@[simp] theorem Dev.onVault_shut (d : Dev) (f : Vault → Vault) : (d.onVault f).shut = d.shut := rfl
@[simp] theorem Dev.onVault_xports (d : Dev) (f : Vault → Vault) : (d.onVault f).xports = d.xports := rfl
@[simp] theorem Dev.onVault_cards (d : Dev) (f : Vault → Vault) : (d.onVault f).cards = d.cards := rfl
@[simp] theorem Dev.onVault_red (d : Dev) (f : Vault → Vault) : (d.onVault f).red = d.red := rfl
@[simp] theorem Dev.onVault_colls (d : Dev) (f : Vault → Vault) : (d.onVault f).colls = d.colls := rfl
@[simp] theorem Dev.onVault_collMasks (d : Dev) (f : Vault → Vault) : (d.onVault f).collMasks = d.collMasks := rfl
@[simp] theorem Dev.onVault_collStarts (d : Dev) (f : Vault → Vault) : (d.onVault f).collStarts = d.collStarts := rfl
@[simp] theorem Dev.onVault_axes (d : Dev) (f : Vault → Vault) : (d.onVault f).axes = d.axes := rfl
@[simp] theorem Dev.onVault_sched (d : Dev) (f : Vault → Vault) : (d.onVault f).sched = d.sched := rfl
@[simp] theorem Dev.onVault_schedRun (d : Dev) (f : Vault → Vault) : (d.onVault f).schedRun = d.schedRun := rfl
@[simp] theorem Dev.onVault_chronos (d : Dev) (f : Vault → Vault) : (d.onVault f).chronos = d.chronos := rfl
@[simp] theorem Dev.onVault_outs (d : Dev) (f : Vault → Vault) : (d.onVault f).outs = d.outs := rfl
@[simp] theorem Dev.onVault_cmps (d : Dev) (f : Vault → Vault) : (d.onVault f).cmps = d.cmps := rfl
@[simp] theorem Dev.onVault_tripCfgWritten (d : Dev) (f : Vault → Vault) : (d.onVault f).tripCfgWritten = d.tripCfgWritten := rfl
@[simp] theorem Dev.onVault_fired (d : Dev) (f : Vault → Vault) : (d.onVault f).fired = d.fired := rfl
@[simp] theorem Dev.onVault_worked (d : Dev) (f : Vault → Vault) : (d.onVault f).worked = d.worked := rfl
@[simp] theorem Dev.onVault_caps (d : Dev) (f : Vault → Vault) : (d.onVault f).caps = d.caps := rfl
@[simp] theorem Dev.onVault_tripJobs (d : Dev) (f : Vault → Vault) : (d.onVault f).tripJobs = d.tripJobs := rfl
@[simp] theorem Dev.onVault_tripOut (d : Dev) (f : Vault → Vault) : (d.onVault f).tripOut = d.tripOut := rfl
@[simp] theorem Dev.onVault_link (d : Dev) (f : Vault → Vault) : (d.onVault f).link = d.link := rfl
@[simp] theorem Dev.onVault_vault (d : Dev) (f : Vault → Vault) : (d.onVault f).vault = f d.vault := rfl
@[simp] theorem Dev.onVault_outputs (d : Dev) (f : Vault → Vault) : (d.onVault f).outputs = d.outputs := rfl
@[simp] theorem Dev.onVault_events (d : Dev) (f : Vault → Vault) : (d.onVault f).events = d.events := rfl
@[simp] theorem Dev.onVault_free (d : Dev) (f : Vault → Vault) : (d.onVault f).free = d.free := rfl

/-! `Dev.setTicket` -/

@[simp] theorem Dev.setTicket_regs (d : Dev) (t : Nat) (k : Ticket) : (d.setTicket t k).regs = d.regs := rfl
@[simp] theorem Dev.setTicket_staging (d : Dev) (t : Nat) (k : Ticket) : (d.setTicket t k).staging = d.staging := rfl
@[simp] theorem Dev.setTicket_latches (d : Dev) (t : Nat) (k : Ticket) : (d.setTicket t k).latches = d.latches := rfl
@[simp] theorem Dev.setTicket_spiHeld (d : Dev) (t : Nat) (k : Ticket) : (d.setTicket t k).spiHeld = d.spiHeld := rfl
@[simp] theorem Dev.setTicket_boot (d : Dev) (t : Nat) (k : Ticket) : (d.setTicket t k).boot = d.boot := rfl
@[simp] theorem Dev.setTicket_clk (d : Dev) (t : Nat) (k : Ticket) : (d.setTicket t k).clk = d.clk := rfl
@[simp] theorem Dev.setTicket_quads (d : Dev) (t : Nat) (k : Ticket) : (d.setTicket t k).quads = d.quads := rfl
@[simp] theorem Dev.setTicket_alm (d : Dev) (t : Nat) (k : Ticket) : (d.setTicket t k).alm = d.alm := rfl
@[simp] theorem Dev.setTicket_oldAlm (d : Dev) (t : Nat) (k : Ticket) : (d.setTicket t k).oldAlm = d.oldAlm := rfl
@[simp] theorem Dev.setTicket_almValid (d : Dev) (t : Nat) (k : Ticket) : (d.setTicket t k).almValid = d.almValid := rfl
@[simp] theorem Dev.setTicket_stage (d : Dev) (t : Nat) (k : Ticket) : (d.setTicket t k).stage = d.stage := rfl
@[simp] theorem Dev.setTicket_apply (d : Dev) (t : Nat) (k : Ticket) : (d.setTicket t k).apply = d.apply := rfl
@[simp] theorem Dev.setTicket_logs (d : Dev) (t : Nat) (k : Ticket) : (d.setTicket t k).logs = d.logs := rfl
@[simp] theorem Dev.setTicket_queues (d : Dev) (t : Nat) (k : Ticket) : (d.setTicket t k).queues = d.queues := rfl
@[simp] theorem Dev.setTicket_handed (d : Dev) (t : Nat) (k : Ticket) : (d.setTicket t k).handed = d.handed := rfl
@[simp] theorem Dev.setTicket_marks (d : Dev) (t : Nat) (k : Ticket) : (d.setTicket t k).marks = d.marks := rfl
@[simp] theorem Dev.setTicket_pool (d : Dev) (t : Nat) (k : Ticket) : (d.setTicket t k).pool = tins t k (tdel d.pool t) := rfl
@[simp] theorem Dev.setTicket_incarn (d : Dev) (t : Nat) (k : Ticket) : (d.setTicket t k).incarn = d.incarn := rfl
@[simp] theorem Dev.setTicket_lanes (d : Dev) (t : Nat) (k : Ticket) : (d.setTicket t k).lanes = d.lanes := rfl
@[simp] theorem Dev.setTicket_ports (d : Dev) (t : Nat) (k : Ticket) : (d.setTicket t k).ports = d.ports := rfl
@[simp] theorem Dev.setTicket_queuings (d : Dev) (t : Nat) (k : Ticket) : (d.setTicket t k).queuings = d.queuings := rfl
@[simp] theorem Dev.setTicket_rests (d : Dev) (t : Nat) (k : Ticket) : (d.setTicket t k).rests = d.rests := rfl
@[simp] theorem Dev.setTicket_shut (d : Dev) (t : Nat) (k : Ticket) : (d.setTicket t k).shut = d.shut := rfl
@[simp] theorem Dev.setTicket_xports (d : Dev) (t : Nat) (k : Ticket) : (d.setTicket t k).xports = d.xports := rfl
@[simp] theorem Dev.setTicket_cards (d : Dev) (t : Nat) (k : Ticket) : (d.setTicket t k).cards = d.cards := rfl
@[simp] theorem Dev.setTicket_red (d : Dev) (t : Nat) (k : Ticket) : (d.setTicket t k).red = d.red := rfl
@[simp] theorem Dev.setTicket_colls (d : Dev) (t : Nat) (k : Ticket) : (d.setTicket t k).colls = d.colls := rfl
@[simp] theorem Dev.setTicket_collMasks (d : Dev) (t : Nat) (k : Ticket) : (d.setTicket t k).collMasks = d.collMasks := rfl
@[simp] theorem Dev.setTicket_collStarts (d : Dev) (t : Nat) (k : Ticket) : (d.setTicket t k).collStarts = d.collStarts := rfl
@[simp] theorem Dev.setTicket_axes (d : Dev) (t : Nat) (k : Ticket) : (d.setTicket t k).axes = d.axes := rfl
@[simp] theorem Dev.setTicket_sched (d : Dev) (t : Nat) (k : Ticket) : (d.setTicket t k).sched = d.sched := rfl
@[simp] theorem Dev.setTicket_schedRun (d : Dev) (t : Nat) (k : Ticket) : (d.setTicket t k).schedRun = d.schedRun := rfl
@[simp] theorem Dev.setTicket_chronos (d : Dev) (t : Nat) (k : Ticket) : (d.setTicket t k).chronos = d.chronos := rfl
@[simp] theorem Dev.setTicket_outs (d : Dev) (t : Nat) (k : Ticket) : (d.setTicket t k).outs = d.outs := rfl
@[simp] theorem Dev.setTicket_cmps (d : Dev) (t : Nat) (k : Ticket) : (d.setTicket t k).cmps = d.cmps := rfl
@[simp] theorem Dev.setTicket_tripCfgWritten (d : Dev) (t : Nat) (k : Ticket) : (d.setTicket t k).tripCfgWritten = d.tripCfgWritten := rfl
@[simp] theorem Dev.setTicket_fired (d : Dev) (t : Nat) (k : Ticket) : (d.setTicket t k).fired = d.fired := rfl
@[simp] theorem Dev.setTicket_worked (d : Dev) (t : Nat) (k : Ticket) : (d.setTicket t k).worked = d.worked := rfl
@[simp] theorem Dev.setTicket_caps (d : Dev) (t : Nat) (k : Ticket) : (d.setTicket t k).caps = d.caps := rfl
@[simp] theorem Dev.setTicket_tripJobs (d : Dev) (t : Nat) (k : Ticket) : (d.setTicket t k).tripJobs = d.tripJobs := rfl
@[simp] theorem Dev.setTicket_tripOut (d : Dev) (t : Nat) (k : Ticket) : (d.setTicket t k).tripOut = d.tripOut := rfl
@[simp] theorem Dev.setTicket_link (d : Dev) (t : Nat) (k : Ticket) : (d.setTicket t k).link = d.link := rfl
@[simp] theorem Dev.setTicket_vault (d : Dev) (t : Nat) (k : Ticket) : (d.setTicket t k).vault = d.vault := rfl
@[simp] theorem Dev.setTicket_outputs (d : Dev) (t : Nat) (k : Ticket) : (d.setTicket t k).outputs = d.outputs := rfl
@[simp] theorem Dev.setTicket_events (d : Dev) (t : Nat) (k : Ticket) : (d.setTicket t k).events = d.events := rfl
@[simp] theorem Dev.setTicket_free (d : Dev) (t : Nat) (k : Ticket) : (d.setTicket t k).free = d.free := rfl

/-! `Dev.onTicket` -/

@[simp] theorem Dev.onTicket_regs (d : Dev) (t : Nat) (f : Ticket → Ticket) : (d.onTicket t f).regs = d.regs := rfl
@[simp] theorem Dev.onTicket_staging (d : Dev) (t : Nat) (f : Ticket → Ticket) : (d.onTicket t f).staging = d.staging := rfl
@[simp] theorem Dev.onTicket_latches (d : Dev) (t : Nat) (f : Ticket → Ticket) : (d.onTicket t f).latches = d.latches := rfl
@[simp] theorem Dev.onTicket_spiHeld (d : Dev) (t : Nat) (f : Ticket → Ticket) : (d.onTicket t f).spiHeld = d.spiHeld := rfl
@[simp] theorem Dev.onTicket_boot (d : Dev) (t : Nat) (f : Ticket → Ticket) : (d.onTicket t f).boot = d.boot := rfl
@[simp] theorem Dev.onTicket_clk (d : Dev) (t : Nat) (f : Ticket → Ticket) : (d.onTicket t f).clk = d.clk := rfl
@[simp] theorem Dev.onTicket_quads (d : Dev) (t : Nat) (f : Ticket → Ticket) : (d.onTicket t f).quads = d.quads := rfl
@[simp] theorem Dev.onTicket_alm (d : Dev) (t : Nat) (f : Ticket → Ticket) : (d.onTicket t f).alm = d.alm := rfl
@[simp] theorem Dev.onTicket_oldAlm (d : Dev) (t : Nat) (f : Ticket → Ticket) : (d.onTicket t f).oldAlm = d.oldAlm := rfl
@[simp] theorem Dev.onTicket_almValid (d : Dev) (t : Nat) (f : Ticket → Ticket) : (d.onTicket t f).almValid = d.almValid := rfl
@[simp] theorem Dev.onTicket_stage (d : Dev) (t : Nat) (f : Ticket → Ticket) : (d.onTicket t f).stage = d.stage := rfl
@[simp] theorem Dev.onTicket_apply (d : Dev) (t : Nat) (f : Ticket → Ticket) : (d.onTicket t f).apply = d.apply := rfl
@[simp] theorem Dev.onTicket_logs (d : Dev) (t : Nat) (f : Ticket → Ticket) : (d.onTicket t f).logs = d.logs := rfl
@[simp] theorem Dev.onTicket_queues (d : Dev) (t : Nat) (f : Ticket → Ticket) : (d.onTicket t f).queues = d.queues := rfl
@[simp] theorem Dev.onTicket_handed (d : Dev) (t : Nat) (f : Ticket → Ticket) : (d.onTicket t f).handed = d.handed := rfl
@[simp] theorem Dev.onTicket_marks (d : Dev) (t : Nat) (f : Ticket → Ticket) : (d.onTicket t f).marks = d.marks := rfl
@[simp] theorem Dev.onTicket_pool (d : Dev) (t : Nat) (f : Ticket → Ticket) : (d.onTicket t f).pool = d.pool.map (fun e => if e.1 = t then (e.1, f e.2) else e) := rfl
@[simp] theorem Dev.onTicket_incarn (d : Dev) (t : Nat) (f : Ticket → Ticket) : (d.onTicket t f).incarn = d.incarn := rfl
@[simp] theorem Dev.onTicket_lanes (d : Dev) (t : Nat) (f : Ticket → Ticket) : (d.onTicket t f).lanes = d.lanes := rfl
@[simp] theorem Dev.onTicket_ports (d : Dev) (t : Nat) (f : Ticket → Ticket) : (d.onTicket t f).ports = d.ports := rfl
@[simp] theorem Dev.onTicket_queuings (d : Dev) (t : Nat) (f : Ticket → Ticket) : (d.onTicket t f).queuings = d.queuings := rfl
@[simp] theorem Dev.onTicket_rests (d : Dev) (t : Nat) (f : Ticket → Ticket) : (d.onTicket t f).rests = d.rests := rfl
@[simp] theorem Dev.onTicket_shut (d : Dev) (t : Nat) (f : Ticket → Ticket) : (d.onTicket t f).shut = d.shut := rfl
@[simp] theorem Dev.onTicket_xports (d : Dev) (t : Nat) (f : Ticket → Ticket) : (d.onTicket t f).xports = d.xports := rfl
@[simp] theorem Dev.onTicket_cards (d : Dev) (t : Nat) (f : Ticket → Ticket) : (d.onTicket t f).cards = d.cards := rfl
@[simp] theorem Dev.onTicket_red (d : Dev) (t : Nat) (f : Ticket → Ticket) : (d.onTicket t f).red = d.red := rfl
@[simp] theorem Dev.onTicket_colls (d : Dev) (t : Nat) (f : Ticket → Ticket) : (d.onTicket t f).colls = d.colls := rfl
@[simp] theorem Dev.onTicket_collMasks (d : Dev) (t : Nat) (f : Ticket → Ticket) : (d.onTicket t f).collMasks = d.collMasks := rfl
@[simp] theorem Dev.onTicket_collStarts (d : Dev) (t : Nat) (f : Ticket → Ticket) : (d.onTicket t f).collStarts = d.collStarts := rfl
@[simp] theorem Dev.onTicket_axes (d : Dev) (t : Nat) (f : Ticket → Ticket) : (d.onTicket t f).axes = d.axes := rfl
@[simp] theorem Dev.onTicket_sched (d : Dev) (t : Nat) (f : Ticket → Ticket) : (d.onTicket t f).sched = d.sched := rfl
@[simp] theorem Dev.onTicket_schedRun (d : Dev) (t : Nat) (f : Ticket → Ticket) : (d.onTicket t f).schedRun = d.schedRun := rfl
@[simp] theorem Dev.onTicket_chronos (d : Dev) (t : Nat) (f : Ticket → Ticket) : (d.onTicket t f).chronos = d.chronos := rfl
@[simp] theorem Dev.onTicket_outs (d : Dev) (t : Nat) (f : Ticket → Ticket) : (d.onTicket t f).outs = d.outs := rfl
@[simp] theorem Dev.onTicket_cmps (d : Dev) (t : Nat) (f : Ticket → Ticket) : (d.onTicket t f).cmps = d.cmps := rfl
@[simp] theorem Dev.onTicket_tripCfgWritten (d : Dev) (t : Nat) (f : Ticket → Ticket) : (d.onTicket t f).tripCfgWritten = d.tripCfgWritten := rfl
@[simp] theorem Dev.onTicket_fired (d : Dev) (t : Nat) (f : Ticket → Ticket) : (d.onTicket t f).fired = d.fired := rfl
@[simp] theorem Dev.onTicket_worked (d : Dev) (t : Nat) (f : Ticket → Ticket) : (d.onTicket t f).worked = d.worked := rfl
@[simp] theorem Dev.onTicket_caps (d : Dev) (t : Nat) (f : Ticket → Ticket) : (d.onTicket t f).caps = d.caps := rfl
@[simp] theorem Dev.onTicket_tripJobs (d : Dev) (t : Nat) (f : Ticket → Ticket) : (d.onTicket t f).tripJobs = d.tripJobs := rfl
@[simp] theorem Dev.onTicket_tripOut (d : Dev) (t : Nat) (f : Ticket → Ticket) : (d.onTicket t f).tripOut = d.tripOut := rfl
@[simp] theorem Dev.onTicket_link (d : Dev) (t : Nat) (f : Ticket → Ticket) : (d.onTicket t f).link = d.link := rfl
@[simp] theorem Dev.onTicket_vault (d : Dev) (t : Nat) (f : Ticket → Ticket) : (d.onTicket t f).vault = d.vault := rfl
@[simp] theorem Dev.onTicket_outputs (d : Dev) (t : Nat) (f : Ticket → Ticket) : (d.onTicket t f).outputs = d.outputs := rfl
@[simp] theorem Dev.onTicket_events (d : Dev) (t : Nat) (f : Ticket → Ticket) : (d.onTicket t f).events = d.events := rfl
@[simp] theorem Dev.onTicket_free (d : Dev) (t : Nat) (f : Ticket → Ticket) : (d.onTicket t f).free = d.free := rfl

/-! `Dev.freeTicket` -/

@[simp] theorem Dev.freeTicket_regs (d : Dev) (t : Nat) : (d.freeTicket t).regs = d.regs := rfl
@[simp] theorem Dev.freeTicket_staging (d : Dev) (t : Nat) : (d.freeTicket t).staging = d.staging := rfl
@[simp] theorem Dev.freeTicket_latches (d : Dev) (t : Nat) : (d.freeTicket t).latches = d.latches := rfl
@[simp] theorem Dev.freeTicket_spiHeld (d : Dev) (t : Nat) : (d.freeTicket t).spiHeld = d.spiHeld := rfl
@[simp] theorem Dev.freeTicket_boot (d : Dev) (t : Nat) : (d.freeTicket t).boot = d.boot := rfl
@[simp] theorem Dev.freeTicket_clk (d : Dev) (t : Nat) : (d.freeTicket t).clk = d.clk := rfl
@[simp] theorem Dev.freeTicket_quads (d : Dev) (t : Nat) : (d.freeTicket t).quads = d.quads := rfl
@[simp] theorem Dev.freeTicket_alm (d : Dev) (t : Nat) : (d.freeTicket t).alm = d.alm := rfl
@[simp] theorem Dev.freeTicket_oldAlm (d : Dev) (t : Nat) : (d.freeTicket t).oldAlm = d.oldAlm := rfl
@[simp] theorem Dev.freeTicket_almValid (d : Dev) (t : Nat) : (d.freeTicket t).almValid = d.almValid := rfl
@[simp] theorem Dev.freeTicket_stage (d : Dev) (t : Nat) : (d.freeTicket t).stage = d.stage := rfl
@[simp] theorem Dev.freeTicket_apply (d : Dev) (t : Nat) : (d.freeTicket t).apply = d.apply := rfl
@[simp] theorem Dev.freeTicket_logs (d : Dev) (t : Nat) : (d.freeTicket t).logs = d.logs := rfl
@[simp] theorem Dev.freeTicket_queues (d : Dev) (t : Nat) : (d.freeTicket t).queues = d.queues := rfl
@[simp] theorem Dev.freeTicket_handed (d : Dev) (t : Nat) : (d.freeTicket t).handed = d.handed := rfl
@[simp] theorem Dev.freeTicket_marks (d : Dev) (t : Nat) : (d.freeTicket t).marks = d.marks := rfl
@[simp] theorem Dev.freeTicket_pool (d : Dev) (t : Nat) : (d.freeTicket t).pool = tdel d.pool t := rfl
@[simp] theorem Dev.freeTicket_incarn (d : Dev) (t : Nat) : (d.freeTicket t).incarn = d.incarn := rfl
@[simp] theorem Dev.freeTicket_lanes (d : Dev) (t : Nat) : (d.freeTicket t).lanes = d.lanes := rfl
@[simp] theorem Dev.freeTicket_ports (d : Dev) (t : Nat) : (d.freeTicket t).ports = d.ports := rfl
@[simp] theorem Dev.freeTicket_queuings (d : Dev) (t : Nat) : (d.freeTicket t).queuings = d.queuings := rfl
@[simp] theorem Dev.freeTicket_rests (d : Dev) (t : Nat) : (d.freeTicket t).rests = d.rests := rfl
@[simp] theorem Dev.freeTicket_shut (d : Dev) (t : Nat) : (d.freeTicket t).shut = d.shut := rfl
@[simp] theorem Dev.freeTicket_xports (d : Dev) (t : Nat) : (d.freeTicket t).xports = d.xports := rfl
@[simp] theorem Dev.freeTicket_cards (d : Dev) (t : Nat) : (d.freeTicket t).cards = d.cards := rfl
@[simp] theorem Dev.freeTicket_red (d : Dev) (t : Nat) : (d.freeTicket t).red = d.red := rfl
@[simp] theorem Dev.freeTicket_colls (d : Dev) (t : Nat) : (d.freeTicket t).colls = d.colls := rfl
@[simp] theorem Dev.freeTicket_collMasks (d : Dev) (t : Nat) : (d.freeTicket t).collMasks = d.collMasks := rfl
@[simp] theorem Dev.freeTicket_collStarts (d : Dev) (t : Nat) : (d.freeTicket t).collStarts = d.collStarts := rfl
@[simp] theorem Dev.freeTicket_axes (d : Dev) (t : Nat) : (d.freeTicket t).axes = d.axes := rfl
@[simp] theorem Dev.freeTicket_sched (d : Dev) (t : Nat) : (d.freeTicket t).sched = d.sched := rfl
@[simp] theorem Dev.freeTicket_schedRun (d : Dev) (t : Nat) : (d.freeTicket t).schedRun = d.schedRun := rfl
@[simp] theorem Dev.freeTicket_chronos (d : Dev) (t : Nat) : (d.freeTicket t).chronos = d.chronos := rfl
@[simp] theorem Dev.freeTicket_outs (d : Dev) (t : Nat) : (d.freeTicket t).outs = d.outs := rfl
@[simp] theorem Dev.freeTicket_cmps (d : Dev) (t : Nat) : (d.freeTicket t).cmps = d.cmps := rfl
@[simp] theorem Dev.freeTicket_tripCfgWritten (d : Dev) (t : Nat) : (d.freeTicket t).tripCfgWritten = d.tripCfgWritten := rfl
@[simp] theorem Dev.freeTicket_fired (d : Dev) (t : Nat) : (d.freeTicket t).fired = d.fired := rfl
@[simp] theorem Dev.freeTicket_worked (d : Dev) (t : Nat) : (d.freeTicket t).worked = d.worked := rfl
@[simp] theorem Dev.freeTicket_caps (d : Dev) (t : Nat) : (d.freeTicket t).caps = d.caps := rfl
@[simp] theorem Dev.freeTicket_tripJobs (d : Dev) (t : Nat) : (d.freeTicket t).tripJobs = d.tripJobs := rfl
@[simp] theorem Dev.freeTicket_tripOut (d : Dev) (t : Nat) : (d.freeTicket t).tripOut = d.tripOut := rfl
@[simp] theorem Dev.freeTicket_link (d : Dev) (t : Nat) : (d.freeTicket t).link = d.link := rfl
@[simp] theorem Dev.freeTicket_vault (d : Dev) (t : Nat) : (d.freeTicket t).vault = d.vault := rfl
@[simp] theorem Dev.freeTicket_outputs (d : Dev) (t : Nat) : (d.freeTicket t).outputs = d.outputs := rfl
@[simp] theorem Dev.freeTicket_events (d : Dev) (t : Nat) : (d.freeTicket t).events = d.events := rfl
@[simp] theorem Dev.freeTicket_free (d : Dev) (t : Nat) : (d.freeTicket t).free = d.free := rfl

/-! `Dev.emit` -/

@[simp] theorem Dev.emit_regs (d : Dev) (o : Output) : (d.emit o).regs = d.regs := rfl
@[simp] theorem Dev.emit_staging (d : Dev) (o : Output) : (d.emit o).staging = d.staging := rfl
@[simp] theorem Dev.emit_latches (d : Dev) (o : Output) : (d.emit o).latches = d.latches := rfl
@[simp] theorem Dev.emit_spiHeld (d : Dev) (o : Output) : (d.emit o).spiHeld = d.spiHeld := rfl
@[simp] theorem Dev.emit_boot (d : Dev) (o : Output) : (d.emit o).boot = d.boot := rfl
@[simp] theorem Dev.emit_clk (d : Dev) (o : Output) : (d.emit o).clk = d.clk := rfl
@[simp] theorem Dev.emit_quads (d : Dev) (o : Output) : (d.emit o).quads = d.quads := rfl
@[simp] theorem Dev.emit_alm (d : Dev) (o : Output) : (d.emit o).alm = d.alm := rfl
@[simp] theorem Dev.emit_oldAlm (d : Dev) (o : Output) : (d.emit o).oldAlm = d.oldAlm := rfl
@[simp] theorem Dev.emit_almValid (d : Dev) (o : Output) : (d.emit o).almValid = d.almValid := rfl
@[simp] theorem Dev.emit_stage (d : Dev) (o : Output) : (d.emit o).stage = d.stage := rfl
@[simp] theorem Dev.emit_apply (d : Dev) (o : Output) : (d.emit o).apply = d.apply := rfl
@[simp] theorem Dev.emit_logs (d : Dev) (o : Output) : (d.emit o).logs = d.logs := rfl
@[simp] theorem Dev.emit_queues (d : Dev) (o : Output) : (d.emit o).queues = d.queues := rfl
@[simp] theorem Dev.emit_handed (d : Dev) (o : Output) : (d.emit o).handed = d.handed := rfl
@[simp] theorem Dev.emit_marks (d : Dev) (o : Output) : (d.emit o).marks = d.marks := rfl
@[simp] theorem Dev.emit_pool (d : Dev) (o : Output) : (d.emit o).pool = d.pool := rfl
@[simp] theorem Dev.emit_incarn (d : Dev) (o : Output) : (d.emit o).incarn = d.incarn := rfl
@[simp] theorem Dev.emit_lanes (d : Dev) (o : Output) : (d.emit o).lanes = d.lanes := rfl
@[simp] theorem Dev.emit_ports (d : Dev) (o : Output) : (d.emit o).ports = d.ports := rfl
@[simp] theorem Dev.emit_queuings (d : Dev) (o : Output) : (d.emit o).queuings = d.queuings := rfl
@[simp] theorem Dev.emit_rests (d : Dev) (o : Output) : (d.emit o).rests = d.rests := rfl
@[simp] theorem Dev.emit_shut (d : Dev) (o : Output) : (d.emit o).shut = d.shut := rfl
@[simp] theorem Dev.emit_xports (d : Dev) (o : Output) : (d.emit o).xports = d.xports := rfl
@[simp] theorem Dev.emit_cards (d : Dev) (o : Output) : (d.emit o).cards = d.cards := rfl
@[simp] theorem Dev.emit_red (d : Dev) (o : Output) : (d.emit o).red = d.red := rfl
@[simp] theorem Dev.emit_colls (d : Dev) (o : Output) : (d.emit o).colls = d.colls := rfl
@[simp] theorem Dev.emit_collMasks (d : Dev) (o : Output) : (d.emit o).collMasks = d.collMasks := rfl
@[simp] theorem Dev.emit_collStarts (d : Dev) (o : Output) : (d.emit o).collStarts = d.collStarts := rfl
@[simp] theorem Dev.emit_axes (d : Dev) (o : Output) : (d.emit o).axes = d.axes := rfl
@[simp] theorem Dev.emit_sched (d : Dev) (o : Output) : (d.emit o).sched = d.sched := rfl
@[simp] theorem Dev.emit_schedRun (d : Dev) (o : Output) : (d.emit o).schedRun = d.schedRun := rfl
@[simp] theorem Dev.emit_chronos (d : Dev) (o : Output) : (d.emit o).chronos = d.chronos := rfl
@[simp] theorem Dev.emit_outs (d : Dev) (o : Output) : (d.emit o).outs = d.outs := rfl
@[simp] theorem Dev.emit_cmps (d : Dev) (o : Output) : (d.emit o).cmps = d.cmps := rfl
@[simp] theorem Dev.emit_tripCfgWritten (d : Dev) (o : Output) : (d.emit o).tripCfgWritten = d.tripCfgWritten := rfl
@[simp] theorem Dev.emit_fired (d : Dev) (o : Output) : (d.emit o).fired = d.fired := rfl
@[simp] theorem Dev.emit_worked (d : Dev) (o : Output) : (d.emit o).worked = d.worked := rfl
@[simp] theorem Dev.emit_caps (d : Dev) (o : Output) : (d.emit o).caps = d.caps := rfl
@[simp] theorem Dev.emit_tripJobs (d : Dev) (o : Output) : (d.emit o).tripJobs = d.tripJobs := rfl
@[simp] theorem Dev.emit_tripOut (d : Dev) (o : Output) : (d.emit o).tripOut = d.tripOut := rfl
@[simp] theorem Dev.emit_link (d : Dev) (o : Output) : (d.emit o).link = d.link := rfl
@[simp] theorem Dev.emit_vault (d : Dev) (o : Output) : (d.emit o).vault = d.vault := rfl
@[simp] theorem Dev.emit_outputs (d : Dev) (o : Output) : (d.emit o).outputs = d.outputs ++ [o] := rfl
@[simp] theorem Dev.emit_events (d : Dev) (o : Output) : (d.emit o).events = d.events := rfl
@[simp] theorem Dev.emit_free (d : Dev) (o : Output) : (d.emit o).free = d.free := rfl

/-! `Dev.post` -/

@[simp] theorem Dev.post_regs (d : Dev) (e : Ev) : (d.post e).regs = d.regs := rfl
@[simp] theorem Dev.post_staging (d : Dev) (e : Ev) : (d.post e).staging = d.staging := rfl
@[simp] theorem Dev.post_latches (d : Dev) (e : Ev) : (d.post e).latches = d.latches := rfl
@[simp] theorem Dev.post_spiHeld (d : Dev) (e : Ev) : (d.post e).spiHeld = d.spiHeld := rfl
@[simp] theorem Dev.post_boot (d : Dev) (e : Ev) : (d.post e).boot = d.boot := rfl
@[simp] theorem Dev.post_clk (d : Dev) (e : Ev) : (d.post e).clk = d.clk := rfl
@[simp] theorem Dev.post_quads (d : Dev) (e : Ev) : (d.post e).quads = d.quads := rfl
@[simp] theorem Dev.post_alm (d : Dev) (e : Ev) : (d.post e).alm = d.alm := rfl
@[simp] theorem Dev.post_oldAlm (d : Dev) (e : Ev) : (d.post e).oldAlm = d.oldAlm := rfl
@[simp] theorem Dev.post_almValid (d : Dev) (e : Ev) : (d.post e).almValid = d.almValid := rfl
@[simp] theorem Dev.post_stage (d : Dev) (e : Ev) : (d.post e).stage = d.stage := rfl
@[simp] theorem Dev.post_apply (d : Dev) (e : Ev) : (d.post e).apply = d.apply := rfl
@[simp] theorem Dev.post_logs (d : Dev) (e : Ev) : (d.post e).logs = d.logs := rfl
@[simp] theorem Dev.post_queues (d : Dev) (e : Ev) : (d.post e).queues = d.queues := rfl
@[simp] theorem Dev.post_handed (d : Dev) (e : Ev) : (d.post e).handed = d.handed := rfl
@[simp] theorem Dev.post_marks (d : Dev) (e : Ev) : (d.post e).marks = d.marks := rfl
@[simp] theorem Dev.post_pool (d : Dev) (e : Ev) : (d.post e).pool = d.pool := rfl
@[simp] theorem Dev.post_incarn (d : Dev) (e : Ev) : (d.post e).incarn = d.incarn := rfl
@[simp] theorem Dev.post_lanes (d : Dev) (e : Ev) : (d.post e).lanes = d.lanes := rfl
@[simp] theorem Dev.post_ports (d : Dev) (e : Ev) : (d.post e).ports = d.ports := rfl
@[simp] theorem Dev.post_queuings (d : Dev) (e : Ev) : (d.post e).queuings = d.queuings := rfl
@[simp] theorem Dev.post_rests (d : Dev) (e : Ev) : (d.post e).rests = d.rests := rfl
@[simp] theorem Dev.post_shut (d : Dev) (e : Ev) : (d.post e).shut = d.shut := rfl
@[simp] theorem Dev.post_xports (d : Dev) (e : Ev) : (d.post e).xports = d.xports := rfl
@[simp] theorem Dev.post_cards (d : Dev) (e : Ev) : (d.post e).cards = d.cards := rfl
@[simp] theorem Dev.post_red (d : Dev) (e : Ev) : (d.post e).red = d.red := rfl
@[simp] theorem Dev.post_colls (d : Dev) (e : Ev) : (d.post e).colls = d.colls := rfl
@[simp] theorem Dev.post_collMasks (d : Dev) (e : Ev) : (d.post e).collMasks = d.collMasks := rfl
@[simp] theorem Dev.post_collStarts (d : Dev) (e : Ev) : (d.post e).collStarts = d.collStarts := rfl
@[simp] theorem Dev.post_axes (d : Dev) (e : Ev) : (d.post e).axes = d.axes := rfl
@[simp] theorem Dev.post_sched (d : Dev) (e : Ev) : (d.post e).sched = d.sched := rfl
@[simp] theorem Dev.post_schedRun (d : Dev) (e : Ev) : (d.post e).schedRun = d.schedRun := rfl
@[simp] theorem Dev.post_chronos (d : Dev) (e : Ev) : (d.post e).chronos = d.chronos := rfl
@[simp] theorem Dev.post_outs (d : Dev) (e : Ev) : (d.post e).outs = d.outs := rfl
@[simp] theorem Dev.post_cmps (d : Dev) (e : Ev) : (d.post e).cmps = d.cmps := rfl
@[simp] theorem Dev.post_tripCfgWritten (d : Dev) (e : Ev) : (d.post e).tripCfgWritten = d.tripCfgWritten := rfl
@[simp] theorem Dev.post_fired (d : Dev) (e : Ev) : (d.post e).fired = d.fired := rfl
@[simp] theorem Dev.post_worked (d : Dev) (e : Ev) : (d.post e).worked = d.worked := rfl
@[simp] theorem Dev.post_caps (d : Dev) (e : Ev) : (d.post e).caps = d.caps := rfl
@[simp] theorem Dev.post_tripJobs (d : Dev) (e : Ev) : (d.post e).tripJobs = d.tripJobs := rfl
@[simp] theorem Dev.post_tripOut (d : Dev) (e : Ev) : (d.post e).tripOut = d.tripOut := rfl
@[simp] theorem Dev.post_link (d : Dev) (e : Ev) : (d.post e).link = d.link := rfl
@[simp] theorem Dev.post_vault (d : Dev) (e : Ev) : (d.post e).vault = d.vault := rfl
@[simp] theorem Dev.post_outputs (d : Dev) (e : Ev) : (d.post e).outputs = d.outputs := rfl
@[simp] theorem Dev.post_events (d : Dev) (e : Ev) : (d.post e).events = d.events ++ [e] := rfl
@[simp] theorem Dev.post_free (d : Dev) (e : Ev) : (d.post e).free = d.free := rfl

end Sys2Proof.Machine
end

