-- ==== Sys2Proof/Laws/Tables.lean ====
section
/-! SUPPORT. The sparse tables, the register file, and loops over parts of the device. -/
namespace Sys2Proof.Machine

/-! ### Tables -/

theorem tget_tdel_same (d : α) (t : List (Nat × α)) (i : Nat) : tget d (tdel t i) i = d := by
  induction t with
  | nil => rfl
  | cons e t ih =>
    obtain ⟨k, x⟩ := e
    by_cases h : k = i
    · simpa [tdel, h] using ih
    · simpa [tdel, h, tget] using ih

theorem tget_tdel_other (d : α) (t : List (Nat × α)) {i j : Nat} (h : j ≠ i) : tget d (tdel t i) j = tget d t j := by
  induction t with
  | nil => rfl
  | cons e t ih =>
    obtain ⟨k, x⟩ := e
    by_cases hk : k = i
    · have : k ≠ j := by omega
      simpa [tdel, hk, tget, this, Ne.symm h] using ih
    · by_cases hj : k = j
      · simp [tdel, tget, hj, h]
      · simpa [tdel, hk, tget, hj] using ih

theorem tget_tins_same (d : α) (t : List (Nat × α)) (i : Nat) (x : α) (h : ∀ e ∈ t, e.1 ≠ i) :
    tget d (tins i x t) i = x := by
  induction t with
  | nil => simp [tins, tget]
  | cons e t ih =>
    obtain ⟨k, y⟩ := e
    have hk : k ≠ i := h (k, y) (by simp)
    by_cases hl : i < k
    · simp [tins, hl, tget]
    · simpa [tins, hl, tget, hk] using ih (fun e he => h e (by simp [he]))

theorem tget_tins_other (d : α) (t : List (Nat × α)) {i j : Nat} (x : α) (h : j ≠ i) :
    tget d (tins i x t) j = tget d t j := by
  induction t with
  | nil => simp [tins, tget, Ne.symm h]
  | cons e t ih =>
    obtain ⟨k, y⟩ := e
    by_cases hl : i < k
    · simp [tins, hl, tget, Ne.symm h]
    · have e : tins i x ((k, y) :: t) = (k, y) :: tins i x t := by simp [tins, hl]
      rw [e]
      by_cases hk : k = j
      · simp [tget, hk]
      · simpa [tget, hk] using ih

theorem tdel_ne (t : List (Nat × α)) (i : Nat) : ∀ e ∈ tdel t i, e.1 ≠ i := by
  intro e he
  simpa [tdel] using (List.mem_filter.mp he).2

/-- An entry that has been set reads back. -/
@[simp] theorem tget_tset_same [DecidableEq α] (d : α) (t : List (Nat × α)) (i : Nat) (x : α) :
    tget d (tset d t i x) i = x := by
  unfold tset
  split
  · next h => rw [tget_tdel_same, h]
  · exact tget_tins_same d _ i x (tdel_ne t i)

/-- Setting an entry leaves every other entry alone. -/
theorem tget_tset_other [DecidableEq α] (d : α) (t : List (Nat × α)) {i j : Nat} (c : α) (x : α) (h : j ≠ i) :
    tget d (tset c t i x) j = tget d t j := by
  unfold tset
  split
  · exact tget_tdel_other d t h
  · rw [tget_tins_other d _ x h, tget_tdel_other d t h]

/-! ### The register file -/

@[simp] theorem Dev.word_setWord_same (d : Dev) (off : Nat) (w : Word) : (d.setWord off w).word off = w := by
  simp [Dev.word, Dev.setWord]

theorem Dev.word_setWord_other (d : Dev) {off o : Nat} (w : Word) (h : o ≠ off) : (d.setWord off w).word o = d.word o := by
  simp [Dev.word, Dev.setWord, tget_tset_other _ _ _ _ h]

/-- A register that has been written reads back. -/
@[simp] theorem Dev.rd_wr_same (d : Dev) (r : Reg) (w : Word) : (d.wr r w).rd r = w := by simp [Dev.rd, Dev.wr]

/-- A write of a register leaves every other register alone. -/
theorem Dev.rd_wr_other (d : Dev) {r q : Reg} (w : Word) (h : q.offset ≠ r.offset) : (d.wr r w).rd q = d.rd q := by
  simp [Dev.rd, Dev.wr, Dev.word_setWord_other _ _ h]

/-- A register reads the same after a change that keeps the register file. -/
theorem Dev.rd_congr {d e : Dev} (h : d.regs = e.regs) (r : Reg) : d.rd r = e.rd r := by
  simp [Dev.rd, Dev.word, h]

/-! ### Loops -/

@[simp] theorem forEach_nil (f : α → Dev → Dev) (d : Dev) : forEach [] f d = d := rfl

@[simp] theorem forEach_cons (a : α) (l : List α) (f : α → Dev → Dev) (d : Dev) :
    forEach (a :: l) f d = forEach l f (f a d) := rfl

/-- What every turn of a loop keeps, the loop keeps. -/
theorem forEach_keeps (P : Dev → Prop) (l : List α) (f : α → Dev → Dev) (h : ∀ a ∈ l, ∀ d, P d → P (f a d)) (d : Dev)
    (hd : P d) : P (forEach l f d) := by
  induction l generalizing d with
  | nil => exact hd
  | cons a t ih => exact ih (fun b hb => h b (by simp [hb])) _ (h a (by simp) d hd)

/-- A part that no turn of a loop changes is unchanged after it. -/
theorem forEach_proj (g : Dev → β) (l : List α) (f : α → Dev → Dev) (h : ∀ a ∈ l, ∀ d, g (f a d) = g d) (d : Dev) :
    g (forEach l f d) = g d :=
  forEach_keeps (fun e => g e = g d) l f (fun a ha e he => (h a ha e).trans he) d rfl

/-- What the turn of `a` brings about and later turns keep holds after the loop. -/
theorem forEach_each (P : α → Dev → Prop) (l : List α) (f : α → Dev → Dev) (h1 : ∀ a ∈ l, ∀ d, P a (f a d))
    (h2 : ∀ a ∈ l, ∀ b ∈ l, ∀ d, P a d → P a (f b d)) (d : Dev) : ∀ a ∈ l, P a (forEach l f d) := by
  induction l generalizing d with
  | nil => simp
  | cons b t ih =>
    intro a ha
    rcases List.mem_cons.mp ha with rfl | ha'
    · exact forEach_keeps (P a) t f (fun c hc e he => h2 a (by simp) c (by simp [hc]) e he) _ (h1 a (by simp) d)
    · exact ih (fun a ha => h1 a (by simp [ha])) (fun a ha b hb => h2 a (by simp [ha]) b (by simp [hb])) _ a ha'

end Sys2Proof.Machine
end

