-- ==== Sys2Proof/Laws/Outcomes.lean ====
section
/-! SUPPORT. Outcomes, the wires between engines, and accepted register writes. -/
namespace Sys2Proof.Machine

/-! ### Wires -/

/-- With no wire raised there is nothing to work off. -/
theorem settleN_of_no_events (d : Dev) (h : d.events = []) (n : Nat) : d.settleN n = d := by
  cases n with
  | zero => cases d; cases h; rfl
  | succ n => simp [Dev.settleN, h]

/-- A device without wires is settled. -/
theorem settle_of_no_events (d : Dev) (h : d.events = []) : d.settle = d := settleN_of_no_events d h _

/-- No wire is left over after the work. -/
theorem settleN_events (n : Nat) (d : Dev) : (d.settleN n).events = [] := by
  induction n generalizing d with
  | zero => rfl
  | succ n ih =>
    simp only [Dev.settleN]
    split
    · assumption
    · exact ih _

@[simp] theorem settle_events (d : Dev) : d.settle.events = [] := settleN_events _ d

/-- A command without wires answers its effect as it is. -/
theorem settled_of_no_events (s : State) (d : Dev) (h : d.events = []) : settled s d = .next { s with dev := d } := by
  simp [settled, toDev, settle_of_no_events d h]

theorem settled_eq (s : State) (d : Dev) : settled s d = .next { s with dev := d.settle } := rfl

theorem settledNv_eq (s : State) (d : Dev) (v : NonVolatile) :
    settledNv s (d, v) = .next { s with dev := d.settle, nv := v } := rfl

/-- An event of a clocked die has its effect. -/
theorem ifClocked_of_clocked (s : State) (f : Dev → Dev) (h : s.dev.clocked = true) :
    ifClocked s f = .next { s with dev := (f s.dev).settle } := by
  simp [ifClocked, h, settled_eq]

/-- An event of a live die has its effect. -/
theorem ifAlive_of_alive (s : State) (f : Dev → Dev) (h : s.dev.alive = true) :
    ifAlive s f = .next { s with dev := (f s.dev).settle } := by
  simp [ifAlive, h, settled_eq]

theorem Dev.alive_of_clocked {d : Dev} (h : d.clocked = true) : d.alive = true := by
  simp [Dev.clocked] at h
  exact h.1

/-! ### Codes -/

theorem checked_ok (d : Dev) (f : Dev → Dev) : checked d .ok f = (.ok, f d) := rfl

theorem checked_of_ok {d : Dev} {c : Code} {f : Dev → Dev} (h : c = .ok) : checked d c f = (.ok, f d) := by
  subst h; rfl

/-! ### Accepted register writes -/

/-- A request wakes nothing out of SLEEP, unless it comes on PCIe while a SLEEP entry is in progress (R188). -/
theorem Dev.hostWakes_awake (d : Dev) (p : Path) (h : d.boot.phase ≠ .sleep)
    (hs : p = .pcie → d.boot.sleeping = false) : d.hostWakes p = d := by
  by_cases hp : p = .pcie
  · simp [Dev.hostWakes, h, hs hp]
  · simp [Dev.hostWakes, hp]

end Sys2Proof.Machine
end

