-- ==== Sys2Proof/Laws/Shared.lean ====
section
/-! SUPPORT. The shared operations: bits of words, two-half registers, the pool, hand-over order, and what signals change.
-/
namespace Sys2Proof.Machine

/-! ### Two-half registers (Table 2.3) -/

@[simp] theorem of48_halves (v : W48) : of48 (lo48 v) (hi48 v) = v := by
  apply BitVec.eq_of_toNat_eq
  have hv := v.isLt
  have h1 : (lo48 v).toNat = v.toNat % 2 ^ 32 := by simp [lo48]
  have h2 : (hi48 v).toNat = v.toNat / 2 ^ 32 := by
    have : v.toNat / 2 ^ 32 < 2 ^ 32 := by omega
    rw [hi48, BitVec.toNat_setWidth, BitVec.toNat_ushiftRight, Nat.shiftRight_eq_div_pow, Nat.mod_eq_of_lt this]
  rw [of48, BitVec.toNat_ofNat, h1, h2]
  omega

/-- A 48-bit value that has been written reads back. -/
@[simp] theorem Dev.rd48_wr48_same (d : Dev) (r : Reg) (v : W48) : (d.wr48 r v).rd48 r = v := by
  have h : r.offset ≠ r.offset + 4 := by omega
  simp [Dev.rd48, Dev.wr48, Dev.rd, Dev.rdHi, Dev.wr, Dev.wrHi, Dev.word_setWord_other _ _ h]

/-! ### The ticket pool (R376) -/

theorem Dev.ticket_setTicket_same (d : Dev) (t : Nat) (k : Ticket) : (d.setTicket t k).ticket t = some k := by
  have h : ∀ l : List (Nat × Ticket), (∀ e ∈ l, e.1 ≠ t) → ((tins t k l).find? (·.1 = t)).map (·.2) = some k := by
    intro l
    induction l with
    | nil => intro _; simp [tins]
    | cons e l ih =>
      intro hl
      obtain ⟨i, x⟩ := e
      have hi : i ≠ t := hl (i, x) (by simp)
      by_cases ht : t < i
      · simp [tins, ht]
      · simpa [tins, ht, hi] using ih (fun e he => hl e (by simp [he]))
  exact h _ (tdel_ne d.pool t)

theorem find_tdel_other (l : List (Nat × α)) {t u : Nat} (h : u ≠ t) :
    (tdel l t).find? (·.1 = u) = l.find? (·.1 = u) := by
  induction l with
  | nil => rfl
  | cons e l ih =>
    obtain ⟨i, x⟩ := e
    by_cases hi : i = t
    · have : i ≠ u := by omega
      simpa [tdel, hi, Ne.symm h] using ih
    · by_cases hu : i = u
      · simp [tdel, hu, h]
      · simpa [tdel, hi, hu] using ih

theorem find_tins_other (l : List (Nat × α)) {t u : Nat} (x : α) (h : u ≠ t) :
    (tins t x l).find? (·.1 = u) = l.find? (·.1 = u) := by
  induction l with
  | nil => simp [tins, Ne.symm h]
  | cons e l ih =>
    obtain ⟨i, y⟩ := e
    by_cases ht : t < i
    · simp [tins, ht, Ne.symm h]
    · have e : tins t x ((i, y) :: l) = (i, y) :: tins t x l := by simp [tins, ht]
      rw [e]
      by_cases hu : i = u
      · simp [hu]
      · simpa [hu] using ih

/-- Replacing an entry leaves every other entry alone. -/
theorem Dev.ticket_setTicket_other (d : Dev) {t u : Nat} (k : Ticket) (h : u ≠ t) :
    (d.setTicket t k).ticket u = d.ticket u := by
  simp [Dev.ticket, Dev.setTicket, find_tins_other _ k h, find_tdel_other _ h]

/-- A released entry is free. -/
theorem Dev.ticket_freeTicket_same (d : Dev) (t : Nat) : (d.freeTicket t).ticket t = none := by
  have h : (tdel d.pool t).find? (·.1 = t) = none :=
    List.find?_eq_none.mpr (fun e he => by simpa using tdel_ne d.pool t e he)
  simp [Dev.ticket, Dev.freeTicket, h]

/-- Releasing an entry leaves every other entry alone. -/
theorem Dev.ticket_freeTicket_other (d : Dev) {t u : Nat} (h : u ≠ t) : (d.freeTicket t).ticket u = d.ticket u := by
  simp [Dev.ticket, Dev.freeTicket, find_tdel_other _ h]

/-- A change of an entry reads back through `ticket`, and changes no other entry. -/
theorem Dev.ticket_onTicket (d : Dev) (t u : Nat) (f : Ticket → Ticket) :
    (d.onTicket t f).ticket u = if u = t then (d.ticket u).map f else d.ticket u := by
  have h : ∀ l : List (Nat × Ticket),
      ((l.map (fun e => if e.1 = t then (e.1, f e.2) else e)).find? (·.1 = u)).map (·.2) =
        if u = t then ((l.find? (·.1 = u)).map (·.2)).map f else (l.find? (·.1 = u)).map (·.2) := by
    intro l
    induction l with
    | nil => simp
    | cons e l ih =>
      obtain ⟨i, x⟩ := e
      by_cases hi : i = t
      · by_cases hu : t = u
        · subst hi; subst hu; simp
        · have : ¬ u = t := fun h => hu h.symm
          simpa [hi, hu, this] using ih
      · by_cases hu : i = u
        · subst hu; simp [hi]
        · simpa [hi, hu] using ih
  exact h d.pool

/-! ### Hand-over (R660) -/

/-- A record handed over is put among the others; none is lost. -/
theorem insertRec_perm (r : Rec) (l : List Rec) : (insertRec r l).Perm (r :: l) := by
  induction l with
  | nil => exact List.Perm.refl _
  | cons a t ih =>
    unfold insertRec
    split
    · exact (ih.cons a).trans (List.Perm.swap r a t)
    · exact List.Perm.refl _

/-- The device after a hand-over has one record more for its logbook. -/
theorem Dev.handOver_length (d : Dev) (r : Rec) : (d.handOver r).handed.length = d.handed.length + 1 := by
  simpa [Dev.handOver] using (insertRec_perm { r with cycle := d.clk.cycle } d.handed).length_eq

/-! ### Signals (R626) -/

/-- A signal changes what has left the device and the pending bits, and nothing else. -/
theorem Dev.signal_eq (d : Dev) (v : Fin 64) :
    d.signal v = { d with outputs := (d.signal v).outputs, boot := { d.boot with msixPending := (d.signal v).boot.msixPending } } := by
  unfold Dev.signal
  split
  · rfl
  · split <;> rfl

/-- While PERST_N is low a signal is lost. -/
theorem Dev.signal_of_perst_low (d : Dev) (v : Fin 64) (h : d.boot.perstHigh = false) : d.signal v = d := by
  simp [Dev.signal, h]

end Sys2Proof.Machine
end

