-- ==== Sys2Proof/Laws/Vault.lean ====
section
/-! SUPPORT. The vault's home pages as a memory: a read after a write, and the canonical form that every write keeps. -/
namespace Sys2Proof.Machine

/-- The canonical form above an offset: the listed offsets rise strictly from it, stay in the array, and no byte of 0x00
is listed. -/
def wfFrom (lo : Nat) : List Host.Cell → Prop
  | [] => True
  | (a, b) :: t => lo ≤ a ∧ a < 2 ^ 20 ∧ b ≠ 0 ∧ wfFrom (a + 1) t

theorem Memory.wf_cons (a : Nat) (b : Byte) (t : List Host.Cell) :
    Memory.wf ((a, b) :: t) = true ↔ a < 2 ^ 20 ∧ b ≠ 0 ∧ wfFrom (a + 1) t := by
  induction t generalizing a b with
  | nil => simp [Memory.wf, wfFrom, and_comm]
  | cons c t ih =>
    obtain ⟨k, e⟩ := c
    have h := ih k e
    simp only [Memory.wf, wfFrom, Bool.and_eq_true, decide_eq_true_eq, h]
    constructor
    · rintro ⟨⟨hb, hk⟩, hlt, he, ht⟩
      exact ⟨by omega, hb, by omega, hlt, he, ht⟩
    · rintro ⟨_, hb, hk, hlt, he, ht⟩
      exact ⟨⟨hb, by omega⟩, hlt, he, ht⟩

/-- The Boolean check says the same as the inductive form. -/
theorem Memory.wf_iff (m : List Host.Cell) : Memory.wf m = true ↔ wfFrom 0 m := by
  cases m with
  | nil => simp [Memory.wf, wfFrom]
  | cons c t =>
    obtain ⟨a, b⟩ := c
    simp [Memory.wf_cons, wfFrom]

theorem wfFrom_mono {lo hi : Nat} (h : lo ≤ hi) (m : List Host.Cell) (hm : wfFrom hi m) : wfFrom lo m := by
  cases m with
  | nil => trivial
  | cons c t =>
    obtain ⟨a, b⟩ := c
    exact ⟨by have := hm.1; omega, hm.2⟩

theorem wfFrom_filter (p : Host.Cell → Bool) (m : List Host.Cell) (lo : Nat) (hm : wfFrom lo m) :
    wfFrom lo (m.filter p) := by
  induction m generalizing lo with
  | nil => trivial
  | cons c t ih =>
    obtain ⟨a, b⟩ := c
    obtain ⟨h1, h2, h3, h4⟩ := hm
    by_cases hp : p (a, b)
    · rw [List.filter_cons_of_pos hp]
      exact ⟨h1, h2, h3, ih _ h4⟩
    · rw [List.filter_cons_of_neg hp]
      exact wfFrom_mono (by omega) _ (ih _ h4)

theorem wfFrom_insCell (a : Nat) (b : Byte) (hb : b ≠ 0) (ha : a < 2 ^ 20) (m : List Host.Cell) (lo : Nat) (hlo : lo ≤ a)
    (hm : wfFrom lo m) (hn : ∀ c ∈ m, c.1 ≠ a) : wfFrom lo (insCell a b m) := by
  induction m generalizing lo with
  | nil => exact ⟨hlo, ha, hb, trivial⟩
  | cons c t ih =>
    obtain ⟨k, e⟩ := c
    obtain ⟨h1, h2, h3, h4⟩ := hm
    have hk : k ≠ a := hn (k, e) (by simp)
    by_cases h : a < k
    · rw [insCell, if_pos h]
      exact ⟨hlo, ha, hb, by omega, h2, h3, h4⟩
    · rw [insCell, if_neg h]
      exact ⟨h1, h2, h3, ih _ (by omega) h4 (fun c hc => hn c (by simp [hc]))⟩

/-- A write of a byte inside the array keeps the canonical form. -/
theorem homeWrite_wf {m : List Host.Cell} (hm : Memory.wf m = true) {a : Nat} (ha : a < 2 ^ 20) (b : Byte) :
    Memory.wf (homeWrite m a b) = true := by
  rw [Memory.wf_iff] at *
  have hf := wfFrom_filter (fun c => c.1 ≠ a) m 0 hm
  unfold homeWrite
  by_cases hb : b = 0
  · simpa [hb] using hf
  · simp only [hb, if_false]
    exact wfFrom_insCell a b hb ha _ 0 (by omega) hf (fun c hc => by simpa using (List.mem_filter.mp hc).2)

/-- Consecutive bytes written inside the array keep the canonical form. -/
theorem homeWriteAll_wf {m : List Host.Cell} (hm : Memory.wf m = true) {a : Nat} (bs : List Byte)
    (ha : a + bs.length ≤ 2 ^ 20) : Memory.wf (homeWriteAll m a bs) = true := by
  induction bs generalizing m a with
  | nil => exact hm
  | cons b t ih =>
    simp only [List.length_cons] at ha
    exact ih (homeWrite_wf hm (by omega) b) (by omega)

/-- Recovery keeps the canonical form: it copies slots that name a home page and hold no more than one (Table 19.4). -/
theorem recover_wf (v : NonVolatile) (h : Memory.wf v.home = true)
    (hj : ∀ e ∈ v.journal, e.1 < 4096 ∧ e.2.length ≤ 256) : Memory.wf v.recover.2.home = true := by
  have fold : ∀ (l : List (Nat × List Byte)) (m : List Host.Cell), Memory.wf m = true →
      (∀ e ∈ l, e.1 < 4096 ∧ e.2.length ≤ 256) →
      Memory.wf (l.foldl (fun m s => homeWriteAll m (256 * s.1) s.2) m) = true := by
    intro l
    induction l with
    | nil => intro m hm _; exact hm
    | cons e t ih =>
      intro m hm hl
      have he := hl e (by simp)
      exact ih _ (homeWriteAll_wf hm e.2 (by omega)) (fun c hc => hl c (by simp [hc]))
  unfold NonVolatile.recover
  cases v.kind with
  | closed => exact h
  | open_ => exact h
  | committed => exact fold _ _ h hj

theorem homeByte_filter_same (m : List Host.Cell) (a : Nat) : homeByte (m.filter (fun c => c.1 ≠ a)) a = 0 := by
  induction m with
  | nil => rfl
  | cons c t ih =>
    obtain ⟨k, e⟩ := c
    by_cases h : k = a
    · simpa [List.filter_cons, h] using ih
    · simpa [List.filter_cons, h, homeByte] using ih

theorem homeByte_filter_other (m : List Host.Cell) {a x : Nat} (hx : x ≠ a) :
    homeByte (m.filter (fun c => c.1 ≠ a)) x = homeByte m x := by
  induction m with
  | nil => rfl
  | cons c t ih =>
    obtain ⟨k, e⟩ := c
    by_cases h : k = a
    · have : k ≠ x := by omega
      simpa [List.filter_cons, h, homeByte, Ne.symm hx] using ih
    · by_cases hk : k = x
      · simp [homeByte, hk, hx]
      · simpa [List.filter_cons, h, homeByte, hk] using ih

theorem homeByte_insCell_same (a : Nat) (b : Byte) (m : List Host.Cell) (h : ∀ c ∈ m, c.1 ≠ a) :
    homeByte (insCell a b m) a = b := by
  induction m with
  | nil => simp [insCell, homeByte]
  | cons c t ih =>
    obtain ⟨k, e⟩ := c
    have hk : k ≠ a := h (k, e) (by simp)
    by_cases hl : a < k
    · simp [insCell, hl, homeByte]
    · simpa [insCell, hl, homeByte, hk] using ih (fun c hc => h c (by simp [hc]))

theorem homeByte_insCell_other {a x : Nat} (b : Byte) (m : List Host.Cell) (hx : x ≠ a) :
    homeByte (insCell a b m) x = homeByte m x := by
  induction m with
  | nil => simp [insCell, homeByte, Ne.symm hx]
  | cons c t ih =>
    obtain ⟨k, e⟩ := c
    by_cases hl : a < k
    · simp [insCell, hl, homeByte, Ne.symm hx]
    · by_cases hk : k = x
      · subst hk; simp [insCell, hl, homeByte]
      · simpa [insCell, hl, homeByte, hk] using ih

/-- A byte that has been written reads back. -/
@[simp] theorem homeByte_homeWrite_same (m : List Host.Cell) (a : Nat) (b : Byte) : homeByte (homeWrite m a b) a = b := by
  unfold homeWrite
  by_cases hb : b = 0
  · simpa [hb] using homeByte_filter_same m a
  · simp only [hb, if_false]
    exact homeByte_insCell_same a b _ (fun c hc => by simpa using (List.mem_filter.mp hc).2)

/-- A write leaves every other byte alone. -/
theorem homeByte_homeWrite_other (m : List Host.Cell) {a x : Nat} (b : Byte) (hx : x ≠ a) :
    homeByte (homeWrite m a b) x = homeByte m x := by
  unfold homeWrite
  by_cases hb : b = 0
  · simpa [hb] using homeByte_filter_other m hx
  · simp only [hb, if_false]
    rw [homeByte_insCell_other b _ hx]
    exact homeByte_filter_other m hx

/-- Consecutive bytes leave every byte outside them alone, and read back inside. -/
theorem homeByte_homeWriteAll (m : List Host.Cell) (a : Nat) (bs : List Byte) (x : Nat) :
    homeByte (homeWriteAll m a bs) x = if a ≤ x ∧ x < a + bs.length then bs.getD (x - a) 0 else homeByte m x := by
  induction bs generalizing m a with
  | nil =>
    have h : ¬ (a ≤ x ∧ x < a + ([] : List Byte).length) := by simp only [List.length_nil]; omega
    rw [if_neg h]; rfl
  | cons b t ih =>
    simp only [homeWriteAll, ih, List.length_cons]
    by_cases hx : x = a
    · subst hx
      have h1 : ¬ (x + 1 ≤ x ∧ x < x + 1 + t.length) := by omega
      simp [h1]
    · by_cases hin : a + 1 ≤ x ∧ x < a + 1 + t.length
      · have h2 : a ≤ x ∧ x < a + (t.length + 1) := by omega
        obtain ⟨k, hk⟩ : ∃ k, x - a = k + 1 := ⟨x - a - 1, by omega⟩
        have hk' : x - (a + 1) = k := by omega
        rw [if_pos hin, if_pos h2, hk, hk', List.getD_cons_succ]
      · have h2 : ¬ (a ≤ x ∧ x < a + (t.length + 1)) := by omega
        rw [if_neg hin, if_neg h2, homeByte_homeWrite_other m b hx]

/-- The array as shipped has the canonical form, and so has the one at reset. -/
theorem reset_home_wf : Memory.wf State.reset.nv.home = true := rfl

end Sys2Proof.Machine
end

