-- ==== Sys2Proof/Laws/Writes.lean ====
section
/-! SUPPORT. Accepted register writes: once, for every register, what a write that its path takes does. -/
namespace Sys2Proof.Machine

theorem Code.lower_ok_left (c : Code) : Code.lower .ok c = c := by simp [Code.lower]

/-- An accepted write of a one-word register runs the register's own rules. -/
theorem commitAt_of_takes {s : State} {p : Path} {r : Reg} {w hi : Word} {e : Dev} {lr : Dev → Word → Result}
    (h : s.takes p r w) (hh : (r.wide && decide (hi &&& r.reservedHi ≠ 0)) = false)
    (own : s.dev.commitReg lr p r w hi = (.ok, e)) : s.dev.commitAt lr p r w hi .ok = (.ok, e) := by
  obtain ⟨-, -, -, hg, hr⟩ := h
  simp only [Dev.commitAt, own, hg, hr, hh]
  simp [lowest, Code.lower]

/-- A word at the offset of a register that is not RO counts as committed. -/
theorem commits_of {r : Reg} (hr : Reg.ofOffset r.offset = some (r, false)) (ha : r.access ≠ .ro) :
    commits r.offset = true := by simp [commits, hr, ha]

/-- A row that writes a one-word register: the register's own effect `e`, counted by its path, with its wires worked
off. -/
theorem writeRow_of_takes {s : State} {p : Path} {r : Reg} {w : Word} {e : Dev} (h : s.takes p r w)
    (hr : Reg.ofOffset r.offset = some (r, false)) (hm : s.dev.msixWord r.offset = none) (ha : r.access ≠ .ro)
    (hj : r ≠ .rejectLog) (hw : r.wide = false)
    (own : s.dev.commitReg (Dev.writeLrCmd s.nv) p r w 0 = (.ok, e)) :
    writeRow s p r w = .next { s with dev := (e.counted p).settle } := by
  have hc := commitAt_of_takes (hi := 0) h (by simp [hw]) own
  obtain ⟨-, hs, ho, -, -⟩ := h
  have z : (0 : Word) = 0#32 := rfl
  rw [z] at hc
  simp [writeRow, settled_eq, Dev.writeReg, Dev.busWrite, Dev.hostWakes_awake _ p hs.1 hs.2, ho, Dev.busWriteAs,
    Dev.putWord, Dev.counted, commits_of hr ha, hm, Dev.writeAt, hr, ha, hj, hw, hc]

/-- A row that writes the low word of a two-half register, whose high word its path has staged. -/
theorem writeRow_of_takesPair {s : State} {p : Path} {r : Reg} {w : Word} {e : Dev} (h : s.takesPair p r w)
    (hr : Reg.ofOffset r.offset = some (r, false)) (hm : s.dev.msixWord r.offset = none) (ha : r.access ≠ .ro)
    (hl : r.access ≠ .rl) (hj : r ≠ .rejectLog) (hw : r.wide = true)
    (own : s.dev.commitReg (Dev.writeLrCmd s.nv) p r w (s.dev.stagedHi p r) = (.ok, e)) :
    writeRow s p r w = .next { s with dev := (e.counted p).settle } := by
  have hc := commitAt_of_takes h.1 (by simp [hw, h.2]) own
  obtain ⟨⟨-, hs, ho, -, -⟩, -⟩ := h
  simp [writeRow, settled_eq, Dev.writeReg, Dev.busWrite, Dev.hostWakes_awake _ p hs.1 hs.2, ho, Dev.busWriteAs,
    Dev.putWord, Dev.counted, commits_of hr ha, hm, Dev.writeAt, hr, ha, hl, hj, hw, hc]

end Sys2Proof.Machine
end

