-- ==== Sys2Proof/Tests/Slice0.lean ====
section
/-! SUPPORT. The tests: what WellFormed refuses, values that the spec itself gives, and, for every statement of
Certificates/Slice0/Obligations.lean that has hypotheses, a state and operands that meet them. -/
namespace Sys2Proof.Tests
open Sys2Proof Sys2Proof.Machine

/- One theorem at a time: checked together, the kernel's threads need more memory than a build may have. -/
set_option Elab.async false

/-! ### States and frames for the tests -/

/-- A bank with a few entries of every kind: bridges 0 (reduced), 1 and 128 (slot 0 of card 0 of port 0) of quadrant 0. -/
def testBank : Bank := {
  gen := 1
  fabric := [(0, [0, 0, 0, 3, 0, 216, 0, 0, 0, 0, 1, 0]), (1, [1, 0, 0, 1, 0, 216, 255, 0, 0, 0, 1, 0]),
    (128, [128, 0, 1, 1, 0, 216, 255, 0, 0, 0, 1, 0])]
  filter := [(0, [0, 0, 0, 255, 128, 0, 0, 0, 0, 0, 5, 0, 0, 0, 0, 0])]
  excite := [(0, [0, 5, 10, 1, 10, 0, 0, 0, 100, 0, 0, 0, 0, 0, 0, 0])]
  reduce := [(0, [0, 1, 0, 0, 0, 0, 0, 0])]
  output := [(0, [0, 1, 0, 0, 64, 0, 255, 255] ++ List.replicate 24 0), (1, [1, 1, 0, 0, 64, 0, 0,
        0] ++ List.replicate 24 0)]
  axes := [(1, [1, 1, 0, 0, 4, 0, 0, 0]), (2, [2, 2, 0, 0, 0, 0, 0, 0])]
  table := [(0, [0, 0, 0, 1, 0, 0, 0, 0] ++ List.replicate 16 0)]
  chrono := [(0, [0, 2, 0, 1, 1, 0, 0, 0])]
  link := [(0, [15, 0, 4, 0] ++ List.replicate 12 0)] }

/-- A device in RUN with its four quadrants up, every access path open, and node 3 of a ring. -/
def dev0 : Dev := {
  boot := { phase := .run, fused := true, journalDone := true, perstHigh := true, linkUp := true, bar0 := some 0
            bar2 := some 0, memSpace := true, busMaster := true, msixEnable := true }
  clk := { now := .mhz250, corePll := true }
  quads := Vector.replicate 4 { fieldPg := true, trained := true, barrierUp := true, configured := true }
  alm := testBank, almValid := true
  link := { east := { up := true }, west := { up := true }, node := 3, idValid := true }
  vault := { ready := true } }

/-- A state around a device. -/
def st (d : Dev) : State := { dev := d, nv := {}, pending := [] }

/-- The device in another state of Table 3.3. -/
def inPhase (p : Phase) : Dev := dev0.onBoot (fun b => { b with phase := p })

/-- A LOADING from a source, with the image bytes so far. -/
def loading (l : Load) : Dev := dev0.onBoot (fun b => { b with phase := .loading, load := some l })

/-- A ticket for a bridge at a stage. -/
def tk (b : Fin 2176) (g : Stage) : Ticket := {
  desc := { bridge := b, tag := 7, excite := 0, filter := 0, gain := 0, reducer := none, noRunAhead := false, pairs := 1
            samples := 1, retry := 2, log := 0, trigger := .immediate, expireMs := 1 }
  stage := g, lane := 0 }

/-- Lane 0 converts the ticket 0 of a bridge at a stage, in the lane state `l`. -/
def conv (b : Fin 2176) (g : Stage) (l : Lane) : Dev :=
  { dev0 with pool := [(0, tk b g)] }.setLane 0 { l with current := some 0 }

/-- Queue 0 has fetched an entry. -/
def queued (bs : List Byte) : Dev := dev0.onQueue 0 (fun q => { q with fetched := [bs ++ List.replicate (64 - bs.length) 0] })

/-- An urgent frame of node 5 with its check. -/
def urgentOf (kind code target : Byte) : UrgentFrame :=
  { kind := kind, code := code, origin := 5, target := target, seq := 1, crc := crc8 [kind, code, 5, target, 1], hops := 0 }

/-- A normal frame with its check. -/
def normalOf (ty : FrameType) (flags origin dest : Byte) (arg : Word) (payload : List Byte) : NormalFrame :=
  let f : NormalFrame :=
    { flags := flags, origin := origin, dest := dest, seq := 1, arg := arg, payload := payload, crc := 0 }
  { f with crc := crc32 (normalHead ty f) }

/-- A beacon of a timekeeper with its check. -/
def beaconOf (tk : Byte) : BeaconFrame :=
  { rho := 0, corr := 0, tk := tk, hops := 0, crc := crc16 (beaconHead 0 0 tk), age := 0, residence := 0 }

/-- A raw plate of bridge 0 on its way to reducer 0. -/
def plate0 : Plate := {
  ticket := 0, lane := 0, bridge := 0, reducer := some 0, gen := 1, old := false, raw := 0, status := 0,
        resistance := none
  tag := 7, log := 0, commit := 0, epoch := 0, w3 := 0, w4 := 0, flags := 0, holds := true }

/-- A line of the coefficient cache. -/
def line0 (fetching : Bool) : CacheLine :=
  { bridge := 0, fetching := fetching, block := List.replicate 192 0, record := List.replicate 16 0 }

/-- A record for logbook 0. -/
def rec0 : Rec :=
  { kind := 1, cls := 0, idx := 0, w2 := 0, w3 := 0, w4 := 0, w5 := 0, w6 := 0, w7 := 0, log := 0, cycle := 0, epoch := 0
    cause := none }

/-- An open transaction of the PCIe path with an operation in progress. -/
def vaultOp (op : Option PageOp) : Dev :=
  { dev0 with vault := { ready := true, phase := .open_, owner := .pcie, op := op, slots := [3] } }

/-- The bytes of a section: KIND, its entries of a size, and its CRC. -/
def sectionOf (kind count size : Byte) (body : List Byte) : List Byte :=
  let bs := [kind, 0, 0, 0] ++ leBytes 4 (20 + body.length) ++ [count, 0, size, 0, 0, 0, 0, 0] ++ body
  bs ++ leBytes 4 (crc32 bs).toNat

/-- A partial image over generation 1 with generation 2: the logbook entry 0. -/
def testImage : Image :=
  { announced := some 76, ended := true
    bytes := sectionOf 1 1 32 ([0x5A, 0x4B, 0x41, 0x4C, 1, 0, 0x76, 0x21, 1, 2, 1, 2, 0, 0, 0, 0, 76, 0, 0, 0, 255,
        255] ++
        List.replicate 10 0) ++ sectionOf 11 1 4 [0, 1, 0, 0] }

/-- A sound directory copy: the primary slot at 0x10000 with 104 bytes, no fallback. -/
def testDir : List Byte :=
  let bs : List Byte := [0x5A, 0x4B, 0x42, 0x44, 1, 0, 0, 0, 0, 0, 1, 0, 104, 0, 0, 0] ++ List.replicate 10 0 ++ [3] ++
    List.replicate 33 0
  bs ++ leBytes 4 (crc32 bs).toNat

/-- A reply frame with SEQ, card and status 0 for the command frame 0. -/
def replyWord (c : Nat) : Word := at_ c 26 ||| at_ (crc5 (at_ c 26)) 0

/-- The same with NAK_BAD. -/
def nakWord (c : Nat) : Word := at_ c 26 ||| at_ 1 20 ||| at_ (crc5 (at_ c 26 ||| at_ 1 20)) 0

/-- The same with NAK_FAULT. -/
def faultWord (c : Nat) : Word := at_ c 26 ||| at_ 2 20 ||| at_ (crc5 (at_ c 26 ||| at_ 2 20)) 0

/-- Template 9 with a descriptor, given by its first five words. -/
def templated (ws : List Word) : Dev :=
  (ws.zipIdx).foldl (fun d e => d.wr (.template 9 (toFin 15 e.2)) e.1) dev0

/-- A FILTER entry that integrates over one cycle of axis 1. -/
def lineEntry : List Byte := [0, 1, 0, 1, 128, 0, 0, 0, 1, 0, 5, 0, 0, 0, 0, 0]

/-- Its fields. -/
def lineFilter : Filter := { firSet := 0, lineAxis := some 1, totalDec := 128, lineCycles := 1, settle := 5 }

/-- A converting ticket of bridge 0 that uses it. -/
def lineTicket : Ticket := { tk 0 .bursts with desc := { (tk 0 .bursts).desc with filter := 1 } }

/-- Lane 0 converts that ticket. -/
def lineDev (w : Work) (p : LanePhase) : Dev :=
  { dev0 with
    pool := [(0, lineTicket)]
    alm := { testBank with filter := [(0, [0, 0, 0, 255, 128, 0, 0, 0, 0, 0, 5, 0, 0, 0, 0, 0]), (1, lineEntry)] } }.setLane 0
    { current := some 0, phase := p, work := w }

/-- Fuses whose factory zone is all 0 but for its CRC (R118). -/
def soundFuses : NonVolatile := { fuses := (0xA66359F1 : BitVec 4096) <<< 2016 }

/-- The same with LINK_BOOT_DISABLE, which lies in the user zone. -/
def noLinkFuses : NonVolatile := { fuses := soundFuses.fuses ||| (1 : BitVec 4096) <<< 2059 }

theorem sound_of_factory_zone (f : BitVec 4096) (bytes : leBytes 252 f.toNat = List.replicate 42 0 ++ (List.replicate 42 0 ++
      (List.replicate 42 0 ++ (List.replicate 42 0 ++ (List.replicate 42 0 ++ List.replicate 42 0)))))
    (sum : BitVec.ofNat 32 (f.toNat / 2 ^ (32 * 63)) = 0x599CA60E#32 ^^^ 0xFFFFFFFF#32) : fusesOk f = true := by
  have run : ∀ (r : BitVec 32) (a b : List Byte), crc32Run r (a ++ b) = crc32Run (crc32Run r a) b :=
    fun r a b => List.foldl_append
  have c0 : crc32Run 0xFFFFFFFF#32 (List.replicate 42 0) = 0x1B90D704#32 := by decide +kernel
  have c1 : crc32Run 0x1B90D704#32 (List.replicate 42 0) = 0x8B331589#32 := by decide +kernel
  have c2 : crc32Run 0x8B331589#32 (List.replicate 42 0) = 0xF52B9ADC#32 := by decide +kernel
  have c3 : crc32Run 0xF52B9ADC#32 (List.replicate 42 0) = 0xF116C36B#32 := by decide +kernel
  have c4 : crc32Run 0xF116C36B#32 (List.replicate 42 0) = 0x812109F4#32 := by decide +kernel
  have c5 : crc32Run 0x812109F4#32 (List.replicate 42 0) = 0x599CA60E#32 := by decide +kernel
  rw [fusesOk, crc32, bytes, run, run, run, run, run, c0, c1, c2, c3, c4, c5, sum]
  exact decide_eq_true rfl

theorem test_sound_fuses : fusesOk soundFuses.fuses = true :=
  sound_of_factory_zone _ (by decide +kernel) (by decide +kernel)

theorem test_no_link_fuses : fusesOk noLinkFuses.fuses = true :=
  sound_of_factory_zone _ (by decide +kernel) (by decide +kernel)

/-! ### What WellFormed refuses -/

theorem test_wf_queue_path : Instr.wf (.bootCtrlHold (.queue 0)) = false ∧
        Instr.wf (.bootCtrlHold .spi) = true := by decide
theorem test_wf_entry_length : Instr.wf (.entryFetchDone 0 [1]) = false := by decide
theorem test_wf_directory_length : Instr.wf (.flashDirectoryReadDone []) = false := by decide
theorem test_wf_staged_check : Instr.wf (.imageSectionCheck true [0]) = false := by decide
theorem test_wf_no_means : Instr.wf (.pairEnd 0 ⟨0, 1, 1, 1, 1⟩) = false := by decide
theorem test_wf_byte_enables : Instr.wf (.registerWrite .spi 0 (7, 0) []) = false ∧
        Instr.wf (.registerWrite .pcie 0 (7, 0) []) = true := by
  decide
theorem test_no_row_has_bits : decodeTableWord 32 0x12345678 = none := rfl

/-! ### Values that the spec itself gives -/

/-- R200: the CRC of "123456789". -/
theorem test_crc32 : crc32 [0x31, 0x32, 0x33, 0x34, 0x35, 0x36, 0x37, 0x38, 0x39] = 0xCBF43926 := by decide +kernel

/-- The worked example of 07_turret.md: the MAKE_A frame and the card's ACK. -/
theorem test_turret_frames :
    cmdFrame .makeA { cmd := .makeA, card := 3, slot := 18, why := .probe } 5 = 0xBD25001B ∧
      replyFrame .makeA 3 5 0 0x4012 = 0xBD480258 := by decide +kernel

/-- The same: three ID words end the probe of card 3 of port X4 with CARD_INFO 0x6009_60C8. -/
theorem test_card_info :
    (match exec (.tbReply 4 (replyFrame .ident 3 5 0 0x096)) (st (dev0.onX 4 (fun p => { p with
      probing := [3], ids := [0x1040, 0x064], outstanding := some (identItem 3 2,
          cmdFrame .ident (identItem 3 2) 5) }))) with
    | .next t => t.dev.rd (.cardInfo 4 3)
    | _ => 0) = 0x600960C8 := by decide +kernel

/-- The worked example of 02_number_formats.md: a reduced value, a temperature, and a coefficient in two encodings. -/
theorem test_number_formats :
    roundDiv (-43217 * 2 ^ 36) 100000 = -29698496261 ∧ ratioLo (BitVec.ofInt 40 (-29698496261)) = 0x15D4E8FB ∧
      ratioHi (BitVec.ofInt 40 (-29698496261)) = 0xFFFFFFF9 ∧ tempWord (satTemp (-819200)) = 0xFFF38000 ∧
      coefOf 0x4E20000000E8 = (20000 * 2 ^ 24, -24) := by decide +kernel

/-- The same: a stamp after a wrap is later, by 2.5 cycles, and its low word is 0x0140_0000. -/
theorem test_stamps_across_a_wrap :
    laterThan 0x000001400000 0xFFFFFEC00000 = true ∧ (0x000001400000 : W48) - 0xFFFFFEC00000 = 0x000002800000 ∧
      lo48 0x000001400000 = 0x01400000 := by decide +kernel

/-- 22_bench_examples.md: FILTER profile 0 of quadrant 2. -/
theorem test_filter_entry :
    let e : List Byte := [2, 0, 3, 4, 0, 0x28, 0, 0, 1, 0, 2, 0, 0, 0, 0, 0]
    filterOk e = true ∧ filterOf { filter := [(32, e)] } 2 0 =
      { firSet := 3, lineAxis := some 4, totalDec := 10240, lineCycles := 1, settle := 2 } := by decide +kernel

/-- 22_bench_examples.md: template 5 names bridge 80 with TAG 0x500, excitation 7, filter 0, gain 7,
        the bound reducer, one
pair, RETRY 2 and logbook 5. -/
theorem test_template :
    (descOf (wordsToBytes [0x00500010, 0x00000500, 0xFF070007, 0x00010001, 0x00000502] ++ List.replicate 44 0)).map
      (fun k => decide (k.bridge = 80 ∧ k.tag = 0x500 ∧ k.excite = 7 ∧ k.filter = 0 ∧ k.gain = 7 ∧ k.reducer = none ∧
        k.pairs = 1 ∧ k.retry = 2 ∧ k.log = 5)) = some true := by decide +kernel

/-- 12_ephemeris.md: the axis entry of A2 and schedule entry 10. -/
theorem test_ephemeris_entries :
    axisOf { axes := [(2, [2, 1, 0, 0, 0, 1, 0, 0])] } 2 = { source := .encoder, reverse := false, counts := 256 } ∧
      tableOf { table := [(10, [0x0A, 0, 2, 1, 3, 0, 0, 0, 0, 0x80, 0x40, 0x0C, 0, 0, 0, 0, 0, 1, 0, 0, 0, 0, 0, 0])] } 10 =
        { axis := 2, action := 1, arg := 3, position := 0x00000C408000, period := 2 ^ 24 } := by decide +kernel

/-- 12_ephemeris.md: the position between edges 64 and 65, at 799.984 µs and 799.988 µs after edge 64. -/
theorem test_interpolation :
    roundDiv (799984 * 65536) 1600000 = 32767 ∧ roundDiv (799988 * 65536) 1600000 = 32768 ∧
      edgePos 256 12 64 = 0x00000C400000 := by decide +kernel

/-- 14_outputs.md: the OUTPUT entry of O17, and its bound value from the plate of P70. -/
theorem test_output_entry :
    let e : List Byte := [0x11, 6, 0, 0, 0, 4, 0x46, 0, 0, 9, 0x3D, 0, 0, 9, 0x3D, 0, 0, 0, 0xE2, 4, 0, 0, 0, 0, 0, 9,
        0x3D, 0,
      0, 0, 0, 0]
    let o := outputOf { output := [(17, e)] } 17
    outputOk e = true ∧ o.range = 6 ∧ o.clkArg = 1024 ∧ o.bind = some 70 ∧ o.safe = 4000000 ∧ o.clear = 4000000 ∧
      o.gain = (320000, 0) ∧ boundPhysical 107264473664 (-32) o.gain o.offset = 11991826 := by decide +kernel

/-- 10_reduction.md: the temperature and the reduced value of P70. -/
theorem test_reduction :
    let rec_ : List Byte := [0, 0, 0x14, 0, 0, 0, 0x5E, 1, 0, 8, 0, 0, 0, 0, 0, 0]
    let block : List Byte := [0xF9, 0xFF, 0xFF, 0xFF, 0xFF, 0xFF, 0xF5, 1, 0, 0, 0, 0] ++ List.replicate 12 0 ++
      [0, 0x20, 0x4E, 0, 0, 0, 1, 0xFF, 0xFF, 0xFF, 0xFF, 0xFF] ++ List.replicate 12 0 ++
      [0, 0x60, 0xFF, 0xFF, 0xFF, 0xFF] ++ List.replicate 138 0
    (resistanceTemp rec_ 0x015E199A).word = 0x14CCD0 ∧
      polyMantissa (coefficients block { en := true, maxI := 2, maxJ := 1, hostTemp := 0 }) 0x0052000000 0x14CCD0 (-32) =
        107264473664 := by decide +kernel

/-- 17_logbook.md: the words of a LOST record after 73 dropped plates, which lay in the buffer. -/
theorem test_lost_record :
    (match exec (.lossRunClose 3) (st ({ dev0 with alm := { gen := 7 } }.onLog 3 (fun l => { l with
      loss := some { count := 73, first := 1127, types := 2 }, seq := 1200 }))) with
    | .next t => t.dev.logs[3].buffer.map (fun e => e.1.words e.2 true)
    | _ => []) = [[0x0A0D0003, 0x4B0, 0x07200000, 0, 0x03000000, 0x49, 0x467, 2]] := by decide +kernel

/-- 18_floper_link.md: a hop delay of 31.375 ns reads 502. -/
theorem test_hop_delay : ({ delays := [1004] } : LinkSide).delayWord = 0x1F6 := by decide +kernel

/-- 18_floper_link.md: the request of the remote write of CHR_COMPARE of C5. -/
theorem test_remote_write :
    (match exec (.lrCmdGo .pcie true true 2) (st (((((dev0.onLink (fun l => { l with
      node := 0, rid := 0x10, west := {} })).wr .lrOffset 0x002C0158).wr .lrKey 0x5A17C3E1).wr .lrData 0).wrHi .lrData 2)) with
    | .next t => t.dev.outputs
    | _ => []) = [.linkFrame .east (normalSymbols .rraReq { normalOf .rraReq 0 0 2 0x311 ([0x58, 1, 0x2C, 0, 0, 0, 0, 0, 2, 0, 0, 0,
        0xE1, 0xC3, 0x17, 0x5A]) with seq := 0, crc := crc32 (normalHead .rraReq { normalOf .rraReq 0 0 2 0x311 ([0x58, 1, 0x2C,
        0, 0, 0, 0, 0, 2, 0, 0, 0, 0xE1, 0xC3, 0x17, 0x5A]) with seq := 0 }) })] := by decide +kernel

/-! ### Witnesses -/

theorem witness_ResetsKeepTheNonvolatile :
    ∃ (s : State), s.dev.boot.phase ≠ .off :=
  ⟨st ({ dev0 with apply := { phase := .mixed } }), by decide +kernel⟩

theorem witness_FusingRuns :
    (∃ (s : State), s.dev.boot.phase = .off) ∧
    (∃ (s : State), s.dev.boot.phase = .off) ∧
    (∃ (s : State), s.quiet ∧ s.dev.boot.phase = .inReset) ∧
    (∃ (s : State), s.quiet ∧ s.dev.boot.phase = .fusing ∧ s.dev.boot.fused = false) ∧
    (∃ (s : State) (p : Path) (b : BitVec 12), s.takes p .fuseProgCtrl (mkBit true 31 ||| b.setWidth 32) ∧
        s.dev.boot.phase = .held ∧ 2048 ≤ b.toNat ∧ s.dev.boot.shadow.getLsbD 2079 = false ∧
        s.dev.boot.programming = none) ∧
    (∃ (s : State) (b : BitVec 12), s.quiet ∧ s.dev.boot.programming = some b) ∧
    (∃ (s : State), s.quiet ∧ s.dev.boot.phase = .fusing ∧ s.dev.boot.fused = false ∧ fusesOk s.nv.fuses = true ∧
        s.dev.boot.mode = 0 ∧ s.dev.boot.journalDone = true) ∧
    (∃ (s : State), s.quiet ∧ s.dev.boot.phase = .fusing ∧ s.dev.boot.fused = false ∧ fusesOk s.nv.fuses = true ∧
        s.dev.boot.mode = 1 ∧ s.dev.boot.journalDone = true) ∧
    (∃ (s : State), s.quiet ∧ s.dev.boot.phase = .fusing ∧ s.dev.boot.fused = false ∧ fusesOk s.nv.fuses = true ∧
        s.dev.boot.mode = 1 ∧ s.dev.boot.journalDone = false) ∧
    (∃ (s : State), s.quiet ∧ s.dev.boot.phase = .fusing ∧ s.dev.boot.fused = false ∧ fusesOk s.nv.fuses = true ∧
        s.dev.boot.mode = 2 ∧ s.dev.boot.journalDone = true) ∧
    (∃ (s : State), s.quiet ∧ s.dev.boot.phase = .fusing ∧ s.dev.boot.fused = false ∧ fusesOk s.nv.fuses = true ∧
        s.dev.boot.mode = 3 ∧ s.dev.boot.journalDone = true) ∧
    (∃ (s : State), s.quiet ∧ s.dev.boot.phase = .fusing ∧ s.dev.boot.fused = false ∧ fusesOk s.nv.fuses = true ∧
        s.dev.boot.mode = 3 ∧ s.dev.boot.journalDone = false) ∧
    (∃ (s : State), s.quiet ∧ s.dev.boot.phase = .fusing ∧ s.dev.boot.fused = false ∧ fusesOk s.nv.fuses = true ∧
        s.dev.boot.mode = 2 ∧ s.nv.fuses.getLsbD 2059 = true) :=
  ⟨⟨st (inPhase .off), by decide +kernel⟩,
    ⟨st (inPhase .off), by decide +kernel⟩,
    ⟨st (inPhase .inReset), by decide +kernel⟩,
    ⟨State.reset, by decide +kernel⟩,
    ⟨st (inPhase .held), .spi, 2048, by decide +kernel⟩,
    ⟨st ((inPhase .held).onBoot (fun b => { b with programming := some 2048 })), 2048, by decide +kernel⟩,
    ⟨{ st ((inPhase .fusing).onBoot (fun b => { b with fused := false, mode := 0, journalDone := true })) with nv := soundFuses }, by exact ⟨by decide +kernel, by decide +kernel, by decide +kernel, test_sound_fuses, by decide +kernel, by decide +kernel⟩⟩,
    ⟨{ st ((inPhase .fusing).onBoot (fun b => { b with fused := false, mode := 1, journalDone := true })) with nv := soundFuses }, by exact ⟨by decide +kernel, by decide +kernel, by decide +kernel, test_sound_fuses, by decide +kernel, by decide +kernel⟩⟩,
    ⟨{ st ((inPhase .fusing).onBoot (fun b => { b with fused := false, mode := 1, journalDone := false })) with nv := soundFuses }, by exact ⟨by decide +kernel, by decide +kernel, by decide +kernel, test_sound_fuses, by decide +kernel, by decide +kernel⟩⟩,
    ⟨{ st ((inPhase .fusing).onBoot (fun b => { b with fused := false, mode := 2, journalDone := true })) with nv := soundFuses }, by exact ⟨by decide +kernel, by decide +kernel, by decide +kernel, test_sound_fuses, by decide +kernel, by decide +kernel⟩⟩,
    ⟨{ st ((inPhase .fusing).onBoot (fun b => { b with fused := false, mode := 3, journalDone := true })) with nv := soundFuses }, by exact ⟨by decide +kernel, by decide +kernel, by decide +kernel, test_sound_fuses, by decide +kernel, by decide +kernel⟩⟩,
    ⟨{ st ((inPhase .fusing).onBoot (fun b => { b with fused := false, mode := 3, journalDone := false })) with nv := soundFuses }, by exact ⟨by decide +kernel, by decide +kernel, by decide +kernel, test_sound_fuses, by decide +kernel, by decide +kernel⟩⟩,
    ⟨{ st ((inPhase .fusing).onBoot (fun b => { b with fused := false, mode := 2 })) with nv := noLinkFuses },
        by exact ⟨by decide +kernel, by decide +kernel, by decide +kernel, test_no_link_fuses, by decide +kernel,
        by decide +kernel⟩⟩⟩

theorem witness_EndpointFollowsPerst :
    (∃ (s : State), s.quiet ∧ s.dev.alive = true) ∧
    (∃ (s : State), s.quiet ∧ s.dev.boot.perstHigh = false) ∧
    (∃ (s : State), s.running ∧ s.dev.boot.training = true) ∧
    (∃ (s : State), s.running ∧ s.dev.boot.linkUp = true) ∧
    (∃ (s : State), s.quiet ∧ s.dev.alive = true ∧ s.dev.boot.perstHigh = true) :=
  ⟨⟨st dev0, by decide +kernel⟩,
    ⟨st (dev0.onBoot (fun b => { b with perstHigh := false })), by decide +kernel⟩,
    ⟨st (dev0.onBoot (fun b => { b with training := true })), by decide +kernel⟩,
    ⟨st dev0, by decide +kernel⟩,
    ⟨st dev0, by decide +kernel⟩⟩

theorem witness_BootLoadsAnImage :
    (∃ (s : State) (l : Load) (bs : List Byte), s.running ∧ s.dev.boot.load = some l ∧ l.source = .directoryA ∧
        dirSound bs = false) ∧
    (∃ (s : State) (l : Load) (bs : List Byte), s.running ∧ s.dev.boot.load = some l ∧
        (l.source = .directoryA ∨ l.source = .directoryB) ∧ dirSound bs = true ∧ dirLegal bs = true ∧
        slotLegal (field bs 8 4, field bs 0xC 4) (field bs 0x10 4, field bs 0x14 4) = true) ∧
    (∃ (s : State) (l : Load) (bs : List Byte), s.running ∧ s.dev.boot.load = some l ∧ l.source = .primary ∧
        l.passed = false ∧ (∀ r, (l.image.take bs).scan ≠ .fail r)) ∧
    (∃ (s : State) (l : Load) (bs : List Byte) (r : Reason), s.running ∧ s.dev.boot.load = some l ∧
        l.source = .primary ∧ l.passed = false ∧ (l.image.take bs).scan = .fail r ∧ l.fallback.1 ≠ 0 ∧
        l.fallback.2 = true ∧ s.dev.fuse 64 10 1 ≠ 1) ∧
    (∃ (s : State) (l : Load), s.running ∧ s.dev.boot.load = some l ∧ l.source = .directoryA ∧ l.image.bytes = [] ∧
        s.dev.boot.journalDone = true) ∧
    (∃ (s : State) (l : Load), s.running ∧ s.dev.boot.load = some l ∧ l.source = .link ∧ l.image.ended = false ∧
        s.dev.boot.journalDone = true) ∧
    (∃ (s : State) (l : Load), s.running ∧ s.dev.boot.load = some l ∧ l.passed = false ∧ l.image.ended = true ∧
        l.source = .service ∧ s.dev.boot.journalDone = true) ∧
    (∃ (s : State), s.running ∧ s.dev.stage.state = .checking ∧ s.dev.stage.image.finish (s.dev.imageSite true) = none) ∧
    (∃ (s : State) (l : Load), s.running ∧ s.dev.boot.load = some l ∧ l.passed = true ∧ s.dev.boot.journalDone = true) ∧
    (∃ (s : State), s.quiet ∧ s.dev.alive = true ∧ s.dev.boot.journalDone = false ∧ s.dev.vault.stopping = false) :=
  ⟨⟨st (loading { source := .directoryA, boot := true }), { source := .directoryA, boot := true }, [],
        by decide +kernel⟩,
    ⟨st (loading { source := .directoryB, boot := true }), { source := .directoryB, boot := true }, testDir,
        by decide +kernel⟩,
    ⟨st (loading { source := .primary, boot := true, image := { announced := some 104 } }),
        { source := .primary, boot := true, image := { announced := some 104 } }, [1], by
    refine ⟨by decide +kernel, by decide +kernel, by decide +kernel, by decide +kernel, ?_⟩
    intro r; cases r <;> decide +kernel⟩,
    ⟨st (loading { source := .primary, boot := true, image := { announced := some 104 }, fallback := (104, true) }),
        { source := .primary, boot := true, image := { announced := some 104 }, fallback := (104, true) },
        List.replicate 52 0, .magic, by decide +kernel⟩,
    ⟨st (loading { source := .directoryA, boot := true }), { source := .directoryA, boot := true },
        by decide +kernel⟩,
    ⟨st (loading { source := .link, boot := true }), { source := .link, boot := true }, by decide +kernel⟩,
    ⟨st (loading { source := .service, boot := false, image := testImage }),
        { source := .service, boot := false, image := testImage }, by decide +kernel⟩,
    ⟨st ({ dev0 with stage := { state := .checking, image := testImage } }), by decide +kernel⟩,
    ⟨st (loading { source := .service, boot := false, image := testImage, passed := true }),
        { source := .service, boot := false, image := testImage, passed := true }, by decide +kernel⟩,
    ⟨State.reset, by decide +kernel⟩⟩

theorem witness_BootControl :
    (∃ (s : State) (p : Path), s.takes p .bootCtrl 4 ∧ s.dev.boot.phase = .held ∧ s.dev.rd .almLoadLen ≠ 0) ∧
    (∃ (s : State) (p : Path), s.takes p .bootCtrl 8 ∧ s.dev.boot.phase = .held) ∧
    (∃ (s : State) (p : Path) (l : Load) (w : Word), s.takes p .almLoadData w ∧ s.dev.boot.load = some l ∧
        l.source = .service ∧ l.image.ended = false ∧ (∀ r, (l.image.take (leBytes 4 w.toNat)).scan ≠ .fail r)) ∧
    (∃ (s : State) (p : Path) (l : Load), s.takes p .bootCtrl 16 ∧ s.dev.boot.load = some l ∧ l.source = .service ∧
        s.dev.boot.journalDone = true) ∧
    (∃ (s : State) (l : Load), s.running ∧ s.dev.boot.load = some l ∧ l.source = .service ∧ l.image.ended = false ∧
        s.dev.boot.journalDone = true) ∧
    (∃ (s : State) (p : Path), s.takes p .bootCtrl 1 ∧ s.dev.boot.phase = .held ∧ s.dev.almValid = true) ∧
    (∃ (s : State) (p : Path), s.takes p .bootCtrl 2 ∧ s.poolOk ∧ s.dev.boot.phase = .run ∧ s.dev.boot.holding = false) ∧
    (∃ (s : State), s.running ∧ s.dev.boot.phase = .run ∧ s.dev.boot.holding = true ∧
        s.dev.pool.all (fun e => e.2.cancelled.isNone) = true ∧ (∀ p : Fin 136, s.dev.ports[p].drive = .off)) :=
  ⟨⟨st ((inPhase .held).wr .almLoadLen 104), .pcie, by decide +kernel⟩,
    ⟨st (inPhase .held), .spi, by decide +kernel⟩,
    ⟨st (loading { source := .service, boot := false, image := { announced := some 104 } }), .spi,
        { source := .service, boot := false, image := { announced := some 104 } }, 1, by
    refine ⟨by decide +kernel, by decide +kernel, by decide +kernel, by decide +kernel, ?_⟩
    intro r; cases r <;> decide +kernel⟩,
    ⟨st (loading { source := .service, boot := false, image := { announced := some 104 } }), .pcie,
        { source := .service, boot := false, image := { announced := some 104 } }, by decide +kernel⟩,
    ⟨st (loading { source := .service, boot := false, image := { announced := some 104 } }),
        { source := .service, boot := false, image := { announced := some 104 } }, by decide +kernel⟩,
    ⟨st (inPhase .held), .pcie, by decide +kernel⟩,
    ⟨st { dev0 with pool := [(0, tk 0 .armed), (9, tk 1 .committed)] }, .spi, by decide +kernel⟩,
    ⟨st (dev0.onBoot (fun b => { b with holding := true })), by decide +kernel⟩⟩

theorem witness_QuadrantsFollowSupply :
    (∃ (s : State), s.quiet ∧ s.dev.boot.phase ≠ .sleep ∧ s.dev.boot.sleeping = false) ∧
    (∃ (s : State) (q : Fin 4), s.quiet ∧ s.poolOk ∧ s.dev.quads[q].fieldPg = true) ∧
    (∃ (s : State) (q : Fin 4), s.running ∧ s.dev.mayTrain q = true) ∧
    (∃ (s : State), s.quiet) ∧
    (∃ (s : State) (q : Fin 4) (n : Fin 32) (t : Nat) (k : Ticket), s.quiet ∧ s.dev.alive = true ∧
        s.dev.quads[q].trained = true ∧ n ∈ lanesOf q ∧ s.dev.working n = some (t, k) ∧
        s.dev.lanes[n].inBurst = true ∧ s.dev.lanes[n].work.ended = true ∧ s.dev.lanes[n].work.taken = false ∧
        s.dev.lanes[n].work.voids < k.desc.retry) ∧
    (∃ (s : State) (q : Fin 4) (n : Fin 32) (t : Nat) (k : Ticket), s.quiet ∧ s.dev.alive = true ∧
        s.dev.quads[q].trained = true ∧ n ∈ lanesOf q ∧ s.dev.working n = some (t, k) ∧ s.dev.bursting n = true ∧
        s.dev.lanes[n].work.voids < k.desc.retry) ∧
    (∃ (s : State) (q : Fin 4), s.quiet ∧ s.dev.alive = true ∧ s.dev.quads[q].trained = true) ∧
    (∃ (s : State) (q : Fin 4), s.quiet ∧ s.dev.alive = true ∧ s.dev.quads[q].trained = true) :=
  ⟨⟨st (dev0.onQuad 3 (fun q => { q with fieldPg := false })), by decide +kernel⟩,
    ⟨st ({ conv 0 .bursts {} with pool := [(0, tk 0 .bursts), (5, tk 1 .queued)] }), 0, by decide +kernel⟩,
    ⟨st (dev0.onQuad 3 (fun q => { q with trained := false, barrierUp := false })), 3, by decide +kernel⟩,
    ⟨st dev0, by decide +kernel⟩,
    ⟨st (conv 0 .bursts { phase := .integrate, work := { ended := true } }), 0, 0, 0, tk 0 .bursts, by decide +kernel⟩,
    ⟨st (conv 0 .bursts { phase := .discard }), 0, 0, 0, tk 0 .bursts, by decide +kernel⟩,
    ⟨st dev0, 3, by decide +kernel⟩,
    ⟨st dev0, 3, by decide +kernel⟩⟩

theorem witness_ClocksSwitch :
    (∃ (s : State) (p : Path) (w : Word), s.takes p .clkCtrl w ∧ Machine.fld w 0 2 ≠ 3 ∧ s.dev.clk.switch = none ∧
        Machine.fld w 0 2 ≠ s.dev.fld .clkCtrl 0 2) ∧
    (∃ (s : State), s.running ∧ s.dev.clk.now ≠ .lpo ∧ s.dev.clk.switch = none ∧ s.dev.clk.corePll = false) ∧
    (∃ (s : State) (w : ClkSwitch), s.running ∧ s.dev.clk.now ≠ .lpo ∧ s.dev.clk.switch = some w) ∧
    (∃ (s : State), s.running ∧ s.dev.clk.switch = none ∧ s.dev.clk.corePll = true ∧ s.dev.clk.now ≠ .lpo) ∧
    (∃ (s : State), s.running ∧ s.dev.clk.measPll = true) ∧
    (∃ (s : State), s.running ∧ s.dev.clk.now ≠ .lpo ∧ s.dev.clk.measPll = false) ∧
    (∃ (s : State), s.running ∧ s.dev.clk.measPll = true) ∧
    (∃ (s : State), s.quiet ∧ s.dev.alive = true) :=
  ⟨⟨st dev0, .pcie, 2, by decide +kernel⟩,
    ⟨st (dev0.onClk (fun c => { c with now := .refclk, corePll := false })), by decide +kernel⟩,
    ⟨st (dev0.onClk (fun c => { c with now := .refclk, switch := some { unlock := true, old := .mhz250 } })),
        { unlock := true, old := .mhz250 }, by decide +kernel⟩,
    ⟨st dev0, by decide +kernel⟩,
    ⟨st dev0, by decide +kernel⟩,
    ⟨st (dev0.onClk (fun c => { c with measPll := false })), by decide +kernel⟩,
    ⟨st dev0, by decide +kernel⟩,
    ⟨st dev0, by decide +kernel⟩⟩

theorem witness_PowerAndHeatAct :
    (∃ (s : State) (p : Path) (off : Bool), s.takes p .pdCtrl (setFld (s.dev.rd .pdCtrl) 0 1 off.toNat) ∧
        (off = true → s.dev.bit .pdCtrl 0 = false → s.dev.reducerBound = false)) ∧
    (∃ (s : State) (p : Path) (off : Bool), s.takes p .pdCtrl (setFld (s.dev.rd .pdCtrl) 1 1 off.toNat) ∧
        (off = true → s.dev.bit .pdCtrl 1 = false → s.dev.linkBound = false)) ∧
    (∃ (s : State) (p : Path) (q : Fin 4) (off : Bool),
        s.takes p .pdCtrl (setFld (s.dev.rd .pdCtrl) (2 + q.val) 1 off.toNat)) ∧
    (∃ (s : State) (die : Fin 5) (t : BitVec 24) (hot : Bool), s.quiet ∧ s.dev.alive = true ∧ t ≠ noTemp ∧
        (die.val ≠ 0 → s.dev.quads[toFin 3 (die.val - 1)].barrierUp = true) ∧ (hot = false ∨ t.toInt < 127 * 65536)) ∧
    (∃ (s : State) (die : Fin 5) (t : BitVec 24), s.quiet ∧ s.dev.alive = true ∧ die.val ≠ 0 ∧ 127 * 65536 ≤ t.toInt ∧
        s.dev.quads[toFin 3 (die.val - 1)].barrierUp = true) ∧
    (∃ (s : State) (t : BitVec 24), s.quiet ∧ s.dev.alive = true ∧ 127 * 65536 ≤ t.toInt) ∧
    (∃ (s : State) (p : Path) (m : BitVec 4), s.takes p .thermCtrl (m.setWidth 32) ∧ (∀ q : Fin 4,
        m.getLsbD q.val = true → s.dev.mayResume q = true)) :=
  ⟨⟨st (dev0), .pcie, false, by decide +kernel⟩,
    ⟨st ({ dev0 with alm := {} }), .spi, true, by decide +kernel⟩,
    ⟨st dev0, .pcie, 3, true, by decide +kernel⟩,
    ⟨st dev0, 4, 0x400000, true, by decide +kernel⟩,
    ⟨st dev0, 4, 0x7F0000, by decide +kernel⟩,
    ⟨st dev0, 0x7F0000, by decide +kernel⟩,
    ⟨st ((dev0.onQuad 3 (fun q => { q with hotOff := true })).wr (.thermTemp 4) 0x80000000), .pcie, 8,
        by decide +kernel⟩⟩

theorem witness_SleepAndWake :
    (∃ (s : State) (p : Path) (w : Word), s.takes p .sleepCtrl (w ||| 1) ∧ s.poolOk ∧ Machine.bit w 8 = true ∧
        s.dev.boot.phase = .run ∧ s.dev.boot.holding = false ∧ s.dev.vault.phase = .idle ∧ s.dev.applying = false ∧
        s.dev.clk.switch = none) ∧
    (∃ (s : State), s.running ∧ s.dev.mayFreeze = true) ∧
    (∃ (s : State) (ev : Fin 6), s.quiet ∧ s.dev.boot.phase = .sleep ∧ s.dev.wakeEnabled ev = true) ∧
    (∃ (s : State) (ev : Fin 6), s.running ∧ s.dev.boot.sleeping = true ∧ s.dev.wakeEnabled ev = true) ∧
    (∃ (s : State), s.quiet ∧ s.dev.boot.phase = .sleep ∧ s.dev.alarmDue = true ∧ s.dev.bit .sleepCtrl 9 = true) ∧
    (∃ (s : State), s.quiet ∧ s.dev.alive = true ∧ s.dev.clk.ledgerRun = true ∧ s.dev.clk.ledger = 2 ^ 48 - 1) ∧
    (∃ (s : State), s.quiet ∧ s.dev.boot.phase = .sleep ∧ s.dev.clk.waking = true) ∧
    (∃ (s : State), s.quiet ∧ s.dev.boot.phase = .run) :=
  ⟨⟨st dev0, .pcie, 0x100, by decide +kernel⟩,
    ⟨st (dev0.onBoot (fun b => { b with sleeping := true })), by decide +kernel⟩,
    ⟨st (inPhase .sleep), 0, by decide +kernel⟩,
    ⟨st (dev0.onBoot (fun b => { b with sleeping := true })), 0, by decide +kernel⟩,
    ⟨st ((((inPhase .sleep).wr .sleepCtrl 0x200).wr .ledgerAlarm 9).onClk (fun c => { c with ledgerRun := true, ledger := 9 })),
        by decide +kernel⟩,
    ⟨st ((inPhase .sleep).onClk (fun c => { c with ledgerRun := true, ledger := 2 ^ 48 - 1 })), by decide +kernel⟩,
    ⟨st ((inPhase .sleep).onClk (fun c => { c with waking := true })), by decide +kernel⟩,
    ⟨st dev0, by decide +kernel⟩⟩

theorem witness_SwitchesAreNotDisturbed :
    (∃ (s : State) (p : Path) (w : Word), s.takes p .clkCtrl w ∧ Machine.fld w 0 2 ≠ 3 ∧ s.dev.clk.switch ≠ none) ∧
    (∃ (s : State) (p : Path) (w : Word), s.takes p .clkCtrl w ∧ Machine.fld w 0 2 ≠ 3 ∧ s.dev.clk.switch = none ∧
        Machine.fld w 0 2 = s.dev.fld .clkCtrl 0 2) :=
  ⟨⟨st (dev0.onClk (fun c => { c with now := .refclk, switch := some { unlock := true, old := .mhz250 } })), .pcie, 2,
        by decide +kernel⟩,
    ⟨st dev0, .spi, 0, by decide +kernel⟩⟩

theorem witness_StagingFollowsItsCommands :
    (∃ (s : State) (p : Path), s.takes p .stageCtrl 1 ∧ s.dev.rd .stageLen ≠ 0 ∧ s.dev.mayStage = true ∧
        s.dev.applying = false) ∧
    (∃ (s : State) (p : Path), s.takes p .stageCtrl 2 ∧ s.dev.mayStage = true) ∧
    (∃ (s : State) (p : Path) (w : Word), s.takes p .stageData w ∧ s.dev.mayStage = true ∧ s.dev.stage.state = .loading) ∧
    (∃ (s : State), s.running ∧ s.dev.stage.state = .merging) :=
  ⟨⟨st (dev0.wr .stageLen 104), .pcie, by decide +kernel⟩,
    ⟨st ({ dev0 with stage := { state := .loading } }), .pcie, by decide +kernel⟩,
    ⟨st ({ dev0 with stage := { state := .loading, image := { announced := some 104 } } }), .pcie, 1,
        by decide +kernel⟩,
    ⟨st ({ dev0 with stage := { state := .merging, image := testImage } }), by decide +kernel⟩⟩

theorem witness_AppliesRun :
    (∃ (s : State) (p : Path) (w : Word) (k : Fin 8), s.takes p .applyCtrl (w ||| 1) ∧ Machine.bit w 1 = false ∧
        triggerField (w ||| 1) = some (.mark k) ∧ s.dev.stage.state = .ready ∧ s.dev.applying = false) ∧
    (∃ (s : State) (p : Path) (w : Word), s.takes p .applyCtrl (w ||| 1) ∧ Machine.bit w 1 = false ∧
        triggerField (w ||| 1) = some .immediate ∧ s.dev.stage.state = .ready ∧ s.dev.applying = false) ∧
    (∃ (s : State) (p : Path), s.takes p .applyCtrl 2 ∧ s.dev.apply.phase = .armed ∧ s.dev.applyDue = false) ∧
    (∃ (s : State) (p : Path), s.takes p .applyCtrl 2 ∧ (s.dev.apply.phase = .mixed ∨ s.dev.applyDue = true)) ∧
    (∃ (s : State), s.running ∧ s.dev.applyDue = true ∧ s.dev.applyCode = .ok) ∧
    (∃ (s : State), s.running ∧ s.dev.applyDue = true ∧ s.dev.applyCode ≠ .ok) ∧
    (∃ (s : State) (n : Fin 32) (m : Fin 32) (r : Rec), s.running ∧ s.dev.apply.phase = .mixed ∧
        s.dev.apply.owed.find? (fun o => decide (o.1 = n)) = some (m, r) ∧ s.dev.laneRecordFree n r = true) ∧
    (∃ (s : State), s.running ∧ s.dev.apply.phase = .mixed ∧ s.dev.apply.unswitched = [] ∧ s.dev.apply.owed = [] ∧
        s.dev.oldPlate (fun _ => true) = false) ∧
    (∃ (s : State) (p : Path), s.takes p .applyCtrl 2 ∧ s.dev.applyDue = true) ∧
    (∃ (s : State), s.running ∧ s.dev.applyDue = true ∧ s.dev.applyCode = .ok ∧ (∀ n : Fin 32,
        s.dev.lanes[n].current = none) ∧ ¬ s.dev.noPlates) :=
  ⟨⟨st ({ dev0 with stage := { state := .ready, image := testImage, merged := { testBank with gen := 2 } } }), .pcie,
        0x708, 7, by decide +kernel⟩,
    ⟨st ({ dev0 with stage := { state := .ready, image := testImage, merged := { testBank with gen := 2 } } }), .pcie,
        0, by decide +kernel⟩,
    ⟨st ({ dev0 with apply := { phase := .armed } }), .pcie, by decide +kernel⟩,
    ⟨st ({ dev0 with apply := { phase := .mixed } }), .pcie, by decide +kernel⟩,
    ⟨st { dev0 with apply := { phase := .armed, trigger := .transit 0, image := testImage, merged := { testBank with gen := 2 } } }, by decide +kernel⟩,
    ⟨st { dev0 with apply := { phase := .armed, trigger := .transit 0 , image := { testImage with bytes := testImage.bytes.set 0x19 1 } } }, by decide +kernel⟩,
    ⟨st ({ dev0 with apply := { phase := .mixed, owed := [(31, rec0)] } }), 31, 31, rec0, by decide +kernel⟩,
    ⟨st ({ dev0 with apply := { phase := .mixed } }), by decide +kernel⟩,
    ⟨st { dev0 with apply := { phase := .armed, trigger := .transit 0 } }, .pcie, by decide +kernel⟩,
    ⟨st { dev0 with apply := { phase := .armed, trigger := .transit 0, image := testImage, merged := { testBank with gen := 2 } }, red := { plates := [plate0] } }, by
    refine ⟨by decide +kernel, by decide +kernel, by decide +kernel, by decide +kernel, ?_⟩
    intro h; exact absurd h.2.1 (by decide +kernel)⟩⟩

theorem witness_PairsDriveTheirPort :
    (∃ (s : State) (n : Fin 32) (t : Nat) (k : Ticket), s.running ∧ s.dev.working n = some (t, k) ∧
        s.dev.mayBurst n k = true ∧ s.dev.portBlank (portOfBridge k.desc.bridge.val) = false) ∧
    (∃ (s : State) (n : Fin 32), s.running ∧ s.dev.lanes[n].phase = .settle ∧ s.dev.lanes[n].work.tail = false ∧
        s.dev.lanes[n].work.ended = false ∧ s.dev.lanes[n].work.taken = false) ∧
    (∃ (s : State) (n : Fin 32) (t : Nat) (k : Ticket), s.running ∧ s.dev.working n = some (t, k) ∧
        s.dev.integrated n k = true ∧ s.dev.lanes[n].work.neg = false) ∧
    (∃ (s : State) (n : Fin 32) (t : Nat) (k : Ticket), s.running ∧ s.dev.working n = some (t, k) ∧
        s.dev.integrated n k = true ∧ s.dev.lanes[n].work.neg = true) ∧
    (∃ (s : State), s.quiet ∧ s.dev.alive = true) :=
  ⟨⟨st (conv 0 .bursts { phase := .turret, closed := some 0 }), 0, 0, tk 0 .bursts, by decide +kernel⟩,
    ⟨st (conv 0 .bursts { phase := .settle }), 0, by decide +kernel⟩,
    ⟨st (conv 0 .bursts { phase := .integrate, work := { samples := 5, length := 1 } }), 0, 0, tk 0 .bursts,
        by decide +kernel⟩,
    ⟨st (conv 0 .bursts { phase := .integrate, work := { samples := 5, length := 1, neg := true } }), 0, 0,
        tk 0 .bursts, by decide +kernel⟩,
    ⟨st ({ dev0 with rests := [2175, 0] }), by decide +kernel⟩⟩

theorem witness_PrewarmPulses :
    (∃ (s : State) (n : Fin 32) (t : Nat) (k : Ticket), s.running ∧ s.dev.lanes[n].runAhead = some t ∧
        s.dev.ticket t = some k ∧ (exciteOf s.dev.alm k.desc.excite.val).prewarm = true ∧
        s.dev.converting n ≠ some k.desc.bridge ∧ k.desc.bridge ∉ s.dev.rests ∧
        s.dev.ports[portOfBridge k.desc.bridge.val].drive = .off ∧
        s.dev.ports[portOfBridge k.desc.bridge.val].pulse = none ∧
        s.dev.ports[portOfBridge k.desc.bridge.val].collimated = false ∧ s.dev.slotReady n k = true ∧
        ((exciteOf s.dev.alm k.desc.excite.val).prewarmN = 0 ∨ k.pulses < (exciteOf s.dev.alm k.desc.excite.val).prewarmN)) ∧
    (∃ (s : State) (p : Fin 136) (h : Word), s.running ∧ s.dev.ports[p].pulse = some h) ∧
    (∃ (s : State) (p : Fin 136), s.running ∧ s.dev.ports[p].pulse = none) ∧
    (∃ (s : State) (p : Fin 136) (h : Word) (k : Ticket), s.running ∧ s.dev.ports[p].pulse = some h ∧
        s.dev.ticket (Machine.fld h 0 11) = some k ∧ s.dev.handle (Machine.fld h 0 11) = h ∧
        k.cancelled.isSome = true ∧ s.dev.breakOwed (Machine.fld h 0 11) k = false) :=
  ⟨⟨st ({ dev0 with pool := [(0, tk 0 .bursts), (1, tk 1 .runAhead)] }.setLane 0 { current := some 0, queue := [1], runAhead := some 1 }),
        0, 1, tk 1 .runAhead, by decide +kernel⟩,
    ⟨st (dev0.onPort 1 (fun p => { p with drive := .pos, pulse := some 0 })), 1, 0, by decide +kernel⟩,
    ⟨st dev0, 135, by decide +kernel⟩,
    ⟨st ({ dev0 with pool := [(0, { tk 0 .turret with cancelled := some { cause := .software, stage := .runAhead, pulseRunning := true, laneMade := false, by_ := none } })], incarn := [(0, 1)] }.onPort 0 (fun p => { p with drive := .pos, pulse := some 0x800 })), 0, 0x800, { tk 0 .turret with cancelled := some { cause := .software, stage := .runAhead, pulseRunning := true, laneMade := false, by_ := none } }, by decide +kernel⟩⟩

theorem witness_ShutterSourcesHoldLines :
    (∃ (s : State), s.running) ∧
    (∃ (s : State) (p : Path) (w : Word), s.takes p .shutForce w) ∧
    (∃ (s : State) (p : Path) (w : Word), s.takes p .shutTrip w) ∧
    (∃ (s : State) (n : Fin 32) (t : Nat) (k : Ticket), s.running ∧ s.dev.working n = some (t, k) ∧
        s.dev.mayBurst n k = true ∧ s.dev.portBlank (portOfBridge k.desc.bridge.val) = true ∧
        s.dev.shutWait (portOfBridge k.desc.bridge.val) ≠ 0) :=
  ⟨⟨st (dev0.wr .shutCfg 0x80), by decide +kernel⟩,
    ⟨st dev0, .pcie, 0x81, by decide +kernel⟩,
    ⟨st (dev0.wr .shutTrip 0x81), .pcie, 0x80, by decide +kernel⟩,
    ⟨st ((((conv 0 .bursts { phase := .turret, closed := some 0 }).wr .shutForce 1).wr (.portCtrl 0) 0x10001)), 0, 0,
        tk 0 .bursts, by decide +kernel⟩⟩

theorem witness_TurretsStep :
    (∃ (s : State) (n : Fin 32) (t : Nat) (k : Ticket), s.running ∧ s.dev.headOf n = some t ∧
        s.dev.ticket t = some k ∧ (∀ x c m, extOfBridge k.desc.bridge.val = some (x, c,
        m) → s.dev.cardState x c = 1) ∧ s.dev.mayConvert n k = true) ∧
    (∃ (s : State) (n : Fin 32) (t : Nat) (k : Ticket) (b : Fin 2176), s.running ∧ s.dev.headOf n = some t ∧
        s.dev.ticket t = some k ∧ (∀ x c m, extOfBridge k.desc.bridge.val = some (x, c,
        m) → s.dev.cardState x c = 1) ∧ s.dev.mayConvert n k = false ∧ s.dev.lanes[n].closed = some b ∧
        b ≠ k.desc.bridge) ∧
    (∃ (s : State) (n : Fin 32) (t : Nat) (k : Ticket), s.running ∧ s.dev.working n = some (t, k) ∧
        k.stage = .turret ∧ s.dev.lanes[n].step = .short ∧ s.dev.slotReady n k = true) ∧
    (∃ (s : State) (n : Fin 32) (t : Nat) (k : Ticket), s.running ∧ s.dev.working n = some (t, k) ∧
        k.stage = .turret ∧ s.dev.lanes[n].shortOpen = true) ∧
    (∃ (s : State) (n : Fin 32), s.running ∧ s.dev.lanes[n].current = none ∧ s.dev.lanes[n].queue = []) ∧
    (∃ (s : State) (x : Fin 8) (h : Fin 32) (slot : Fin 4 × Fin 64), s.running ∧ s.dev.xports[x].holder = some h ∧
        s.dev.lanes[h].current = none ∧ (s.dev.waiters x).any (fun w => decide (w.1 ≠ h)) = true ∧
        s.dev.xports[x].breaking h = false ∧ s.dev.xports[x].made = some slot ∧ (∀ t k,
        s.dev.lanes[h].runAhead = some t → s.dev.ticket t = some k → portOfBridge k.desc.bridge.val ≠ xPort x)) :=
  ⟨⟨st ({ dev0 with pool := [(0, tk 0 .queued)] }.setLane 0 { queue := [0] }), 0, 0, tk 0 .queued, by decide +kernel⟩,
    ⟨st ({ dev0 with pool := [(0, tk 0 .queued)], rests := [0] }.setLane 0 { queue := [0], closed := some 1 }), 0, 0,
        tk 0 .queued, 1, by decide +kernel⟩,
    ⟨st (conv 0 .turret { step := .short }), 0, 0, tk 0 .turret, by decide +kernel⟩,
    ⟨st (conv 0 .turret { step := .short, shortOpen := true }), 0, 0, tk 0 .turret, by decide +kernel⟩,
    ⟨st (dev0.setLane 31 { closed := some 2175 }), 31, by decide +kernel⟩,
    ⟨st (({ dev0 with pool := [(0, { tk 128 .queued with waitSince := some 0, lane := 1 })] }.setLane 1 { queue := [0] }).onX 0 (fun p => { p with holder := some 0, made := some (0, 0) })),
        0, 0, (0, 0), by
    refine ⟨by decide +kernel, by decide +kernel, by decide +kernel, by decide +kernel, by decide +kernel,
        by decide +kernel, ?_⟩
    intro t k h; cases h⟩⟩

theorem witness_BusFramesGoOut :
    (∃ (s : State) (x : Fin 8) (c : BusCmd) (i : BusItem) (rest : List BusItem), s.quiet ∧ s.dev.alive = true ∧
        s.dev.quads[quadOfXport x].barrierUp = true ∧ s.dev.xports[x].wanted = i :: rest ∧ s.dev.busForm x i = c ∧
        (s.dev.busOpen x = true ∨ i.why = .safety) ∧ s.dev.breakWaits x i = false) ∧
    (∃ (s : State) (x : Fin 8), s.quiet ∧ s.dev.alive = true ∧ s.dev.xports[x].releasing = true ∧
        s.dev.xports[x].resetWanted = false ∧ s.dev.xports[x].wanted.all (fun i => decide (i.why ≠ .safety)) = true) ∧
    (∃ (s : State) (x : Fin 8) (i : BusItem), s.quiet ∧ s.dev.alive = true ∧ s.dev.xports[x].timed = some i) ∧
    (∃ (s : State) (x : Fin 8), s.quiet ∧ s.dev.alive = true ∧ s.dev.xports[x].resetWanted = true ∧
        s.dev.quads[quadOfXport x].barrierUp = true) :=
  ⟨⟨st (dev0.onX 7 (fun p => { p with wanted := [{ cmd := .query, card := 3, slot := 63, why := .query }] })), 7,
        .query, { cmd := .query, card := 3, slot := 63, why := .query }, [], by decide +kernel⟩,
    ⟨st (dev0.onX 7 (fun p => { p with releasing := true, made := some (0, 0), holder := some 0 })), 7,
        by decide +kernel⟩,
    ⟨st (dev0.onX 7 (fun p => { p with timed := some { cmd := .makeA, card := 0, slot := 1, why := .connect 1 0 } })),
        7, { cmd := .makeA, card := 0, slot := 1, why := .connect 1 0 }, by decide +kernel⟩,
    ⟨st (dev0.onX 7 (fun p => { p with resetWanted := true })), 7, by decide +kernel⟩⟩

theorem witness_RepliesEndCommands :
    (∃ (s : State) (x : Fin 8) (w : Word) (sent : Word) (i : BusItem), s.quiet ∧ s.dev.alive = true ∧
        s.dev.xports[x].outstanding = some (i, sent) ∧ Machine.busAnswers i sent w) ∧
    (∃ (s : State) (x : Fin 8) (w : Word) (sent : Word) (i : BusItem), s.quiet ∧ s.dev.alive = true ∧
        s.dev.xports[x].outstanding = some (i, sent) ∧ w ≠ 0 ∧ crc5 w ≠ Machine.fld w 0 5) ∧
    (∃ (s : State) (x : Fin 8) (f : Word) (i : BusItem), s.quiet ∧ s.dev.alive = true ∧
        s.dev.xports[x].outstanding = some (i, f) ∧ i.tries < s.dev.fld (.tbCtrl x) 8 3) ∧
    (∃ (s : State) (x : Fin 8) (f : Word) (i : BusItem), s.quiet ∧ s.dev.alive = true ∧
        s.dev.xports[x].outstanding = some (i, f) ∧ s.dev.fld (.tbCtrl x) 8 3 ≤ i.tries ∧
        (i.cmd = .makeA ∨ i.cmd = .dischargeA)) ∧
    (∃ (s : State) (x : Fin 8) (w : Word) (sent : Word) (i : BusItem), s.quiet ∧ s.dev.alive = true ∧
        s.dev.xports[x].outstanding = some (i, sent) ∧ Machine.busFaults i sent w) ∧
    (∃ (s : State) (x : Fin 8) (w : Word) (sent : Word) (i : BusItem), s.quiet ∧ s.dev.alive = true ∧
        s.dev.xports[x].outstanding = some (i, sent) ∧ Machine.busRefuses i sent w ∧
        s.dev.fld (.tbCtrl x) 8 3 ≤ i.tries) ∧
    (∃ (s : State) (x : Fin 8) (w : Word) (sent : Word) (i : BusItem), s.quiet ∧ s.dev.alive = true ∧
        s.dev.xports[x].outstanding = some (i, sent) ∧ Machine.busRefuses i sent w ∧
        i.tries < s.dev.fld (.tbCtrl x) 8 3 ∧ i.cmd ≠ .breakA) ∧
    (∃ (s : State) (x : Fin 8) (w : Word) (sent : Word) (i : BusItem), s.quiet ∧ s.dev.alive = true ∧
        s.dev.xports[x].outstanding = some (i, sent) ∧ Machine.busAnswers i sent w ∧ i.cmd = .makeA) ∧
    (∃ (s : State) (x : Fin 8) (w : Word) (sent : Word) (i : BusItem), s.quiet ∧ s.dev.alive = true ∧
        s.dev.xports[x].outstanding = some (i, sent) ∧ Machine.busAnswers i sent w ∧ i.cmd = .breakA ∧
        s.dev.xports[x].madeElsewhere i.card = false) ∧
    (∃ (s : State) (x : Fin 8) (w : Word) (sent : Word) (i : BusItem), s.quiet ∧ s.dev.alive = true ∧
        s.dev.xports[x].outstanding = some (i, sent) ∧ Machine.busAnswers i sent w ∧ i.cmd = .dischargeA) ∧
    (∃ (s : State) (x : Fin 8) (w : Word) (sent : Word) (i : BusItem), s.quiet ∧ s.dev.alive = true ∧
        s.dev.xports[x].outstanding = some (i, sent) ∧ Machine.busAnswers i sent w ∧ i.cmd = .ident ∧
        s.dev.xports[x].ids.length < 2) ∧
    (∃ (s : State) (x : Fin 8) (w : Word) (sent : Word) (i : BusItem) (t : List (Fin 4)), s.quiet ∧
        s.dev.alive = true ∧ s.dev.xports[x].outstanding = some (i, sent) ∧ Machine.busAnswers i sent w ∧
        i.cmd = .ident ∧ s.dev.xports[x].ids = [4097, 5] ∧ s.dev.xports[x].probing = i.card :: t ∧ i.card ∉ t) ∧
    (∃ (s : State) (x : Fin 8) (w : Word) (sent : Word) (i : BusItem), s.quiet ∧ s.dev.alive = true ∧
        s.dev.xports[x].outstanding = some (i, sent) ∧ Machine.busFaults i sent w ∧ i.cmd = .breakA) ∧
    (∃ (s : State) (x : Fin 8) (w : Word) (sent : Word) (i : BusItem), s.quiet ∧ s.dev.alive = true ∧
        s.dev.xports[x].outstanding = some (i, sent) ∧ Machine.busFaults i sent w ∧ i.cmd = .query) ∧
    (∃ (s : State) (x : Fin 8) (w : Word) (sent : Word) (i : BusItem) (t : List (Fin 4)), s.quiet ∧
        s.dev.alive = true ∧ s.dev.xports[x].outstanding = some (i, sent) ∧ Machine.busFaults i sent w ∧
        i.cmd = .ident ∧ s.dev.xports[x].probing = i.card :: t ∧ i.card ∉ t) ∧
    (∃ (s : State) (x : Fin 8) (w : Word) (sent : Word) (i : BusItem), s.quiet ∧ s.dev.alive = true ∧
        s.dev.xports[x].outstanding = some (i, sent) ∧ Machine.busRefuses i sent w ∧
        s.dev.fld (.tbCtrl x) 8 3 ≤ i.tries ∧ i.cmd = .breakA) ∧
    (∃ (s : State) (x : Fin 8) (w : Word) (sent : Word) (i : BusItem), s.quiet ∧ s.dev.alive = true ∧
        s.dev.xports[x].outstanding = some (i, sent) ∧ Machine.busRefuses i sent w ∧
        s.dev.fld (.tbCtrl x) 8 3 ≤ i.tries ∧ i.cmd = .query) ∧
    (∃ (s : State) (x : Fin 8) (w : Word) (sent : Word) (i : BusItem) (t : List (Fin 4)), s.quiet ∧
        s.dev.alive = true ∧ s.dev.xports[x].outstanding = some (i, sent) ∧ Machine.busRefuses i sent w ∧
        s.dev.fld (.tbCtrl x) 8 3 ≤ i.tries ∧ i.cmd = .ident ∧ s.dev.xports[x].probing = i.card :: t ∧ i.card ∉ t) :=
  ⟨⟨st (dev0.onX 0 (fun p => { p with outstanding := some ({ cmd := .query, card := 0, slot := 0, why := .query }, 0) })),
        0, replyWord 0, 0, { cmd := .query, card := 0, slot := 0, why := .query }, by decide +kernel⟩,
    ⟨st (dev0.onX 0 (fun p => { p with outstanding := some ({ cmd := .makeA, card := 0, slot := 1, why := .connect 1 0 }, 0) })),
        0, 0x20, 0, { cmd := .makeA, card := 0, slot := 1, why := .connect 1 0 }, by decide +kernel⟩,
    ⟨st ((dev0.wr (.tbCtrl 0) 0x700).onX 0 (fun p => { p with outstanding := some ({ cmd := .makeA, card := 0, slot := 1, why := .connect 1 0 }, 0) })),
        0, 0, { cmd := .makeA, card := 0, slot := 1, why := .connect 1 0 }, by decide +kernel⟩,
    ⟨st ((dev0.wr (.tbCtrl 0) 0).onX 0 (fun p => { p with outstanding := some ({ cmd := .makeA, card := 0, slot := 1, why := .connect 1 0 }, 0) })),
        0, 0, { cmd := .makeA, card := 0, slot := 1, why := .connect 1 0 }, by decide +kernel⟩,
    ⟨st (dev0.onX 0 (fun p => { p with outstanding := some ({ cmd := .makeA, card := 0, slot := 1, why := .connect 1 0 }, 0) })), 0, faultWord 0, 0, { cmd := .makeA, card := 0, slot := 1, why := .connect 1 0 }, by decide +kernel⟩,
    ⟨st ((dev0.wr (.tbCtrl 0) 0).onX 0 (fun p => { p with outstanding := some ({ cmd := .makeA, card := 0, slot := 1, why := .connect 1 0 }, 0) })), 0, nakWord 0, 0, { cmd := .makeA, card := 0, slot := 1, why := .connect 1 0 }, by decide +kernel⟩,
    ⟨st ((dev0.wr (.tbCtrl 0) 0x700).onX 0 (fun p => { p with outstanding := some ({ cmd := .query, card := 0, slot := 0, why := .query }, 0) })), 0, nakWord 0, 0, { cmd := .query, card := 0, slot := 0, why := .query }, by decide +kernel⟩,
    ⟨st (dev0.onX 0 (fun p => { p with outstanding := some ({ cmd := .makeA, card := 0, slot := 1, why := .connect 1 0 }, 0) })), 0, replyWord 0, 0, { cmd := .makeA, card := 0, slot := 1, why := .connect 1 0 }, by decide +kernel⟩,
    ⟨st (dev0.onX 0 (fun p => { p with outstanding := some ({ cmd := .breakA, card := 0, slot := 1, why := .break_ 1 }, 0) })), 0, replyWord 0, 0, { cmd := .breakA, card := 0, slot := 1, why := .break_ 1 }, by decide +kernel⟩,
    ⟨st (dev0.onX 0 (fun p => { p with outstanding := some ({ cmd := .dischargeA, card := 0, slot := 1, why := .connect 1 0 }, 0) })), 0, replyWord 0, 0, { cmd := .dischargeA, card := 0, slot := 1, why := .connect 1 0 }, by decide +kernel⟩,
    ⟨st (dev0.onX 0 (fun p => { p with outstanding := some ({ cmd := .ident, card := 0, slot := 1, why := .probe }, 0), probing := [0] })), 0, replyWord 0, 0, { cmd := .ident, card := 0, slot := 1, why := .probe }, by decide +kernel⟩,
    ⟨st (dev0.onX 0 (fun p => { p with outstanding := some ({ cmd := .ident, card := 0, slot := 1, why := .probe }, 0), probing := [0, 3], ids := [4097, 5] })), 0, replyWord 0, 0, { cmd := .ident, card := 0, slot := 1, why := .probe }, [3], by decide +kernel⟩,
    ⟨st (dev0.onX 0 (fun p => { p with outstanding := some ({ cmd := .breakA, card := 0, slot := 1, why := .break_ 1 }, 0) })), 0, faultWord 0, 0, { cmd := .breakA, card := 0, slot := 1, why := .break_ 1 }, by decide +kernel⟩,
    ⟨st (dev0.onX 0 (fun p => { p with outstanding := some ({ cmd := .query, card := 0, slot := 0, why := .query }, 0) })), 0, faultWord 0, 0, { cmd := .query, card := 0, slot := 0, why := .query }, by decide +kernel⟩,
    ⟨st (dev0.onX 0 (fun p => { p with outstanding := some ({ cmd := .ident, card := 0, slot := 1, why := .probe }, 0), probing := [0, 3] })), 0, faultWord 0, 0, { cmd := .ident, card := 0, slot := 1, why := .probe }, [3], by decide +kernel⟩,
    ⟨st ((dev0.wr (.tbCtrl 0) 0).onX 0 (fun p => { p with outstanding := some ({ cmd := .breakA, card := 0, slot := 1, why := .break_ 1 }, 0) })), 0, nakWord 0, 0, { cmd := .breakA, card := 0, slot := 1, why := .break_ 1 }, by decide +kernel⟩,
    ⟨st ((dev0.wr (.tbCtrl 0) 0).onX 0 (fun p => { p with outstanding := some ({ cmd := .query, card := 0, slot := 0, why := .query }, 0) })), 0, nakWord 0, 0, { cmd := .query, card := 0, slot := 0, why := .query }, by decide +kernel⟩,
    ⟨st ((dev0.wr (.tbCtrl 0) 0).onX 0 (fun p => { p with outstanding := some ({ cmd := .ident, card := 0, slot := 1, why := .probe }, 0), probing := [0, 3] })), 0, nakWord 0, 0, { cmd := .ident, card := 0, slot := 1, why := .probe }, [3], by decide +kernel⟩⟩

theorem witness_BusCommandsAndCards :
    (∃ (s : State) (p : Path) (x : Fin 8) (c : Fin 4), s.takes p (.tbCmd x) (at_ c.val 4 ||| 1) ∧
        s.dev.busBusy x = false) ∧
    (∃ (s : State) (p : Path) (x : Fin 8) (c : Fin 4), s.takes p (.tbCmd x) (at_ c.val 4 ||| 2) ∧
        s.dev.busBusy x = false) ∧
    (∃ (s : State) (p : Path) (x : Fin 8), s.takes p (.tbCmd x) 4 ∧ s.dev.busBusy x = false) ∧
    (∃ (s : State) (p : Path) (x : Fin 8), s.takes p (.tbCmd x) 8) ∧
    (∃ (s : State) (x : Fin 8) (c : Fin 4), s.quiet ∧ s.dev.cards[cardIx x c].opening.isSome = true) ∧
    (∃ (s : State) (x : Fin 8) (c : Fin 4) (m : Fin 64), s.quiet ∧ s.dev.cards[cardIx x c].opening = none ∧
        s.dev.cards[cardIx x c].discharging = false ∧ s.dev.cards[cardIx x c].closing = some m) ∧
    (∃ (s : State), s.quiet) :=
  ⟨⟨st dev0, .pcie, 7, 3, by decide +kernel⟩,
    ⟨st dev0, .pcie, 7, 3, by decide +kernel⟩,
    ⟨st dev0, .pcie, 7, by decide +kernel⟩,
    ⟨st (dev0.wr (.tbErrors 7) 5), .pcie, 7, by decide +kernel⟩,
    ⟨st (dev0.onCard 7 3 (fun c => { c with opening := some 63, made := some 63 })), 7, 3, by decide +kernel⟩,
    ⟨st (dev0.onCard 7 3 (fun c => { c with closing := some 63 })), 7, 3, 63, by decide +kernel⟩,
    ⟨st (dev0.onCard 7 3 (fun c => { c with made := some 63 })), by decide +kernel⟩⟩

theorem witness_SamplesSum :
    (∃ (s : State) (n : Fin 32) (t : Nat) (k : Ticket), s.running ∧ s.dev.working n = some (t, k) ∧
        (s.dev.lanes[n].phase = .discard ∨ s.dev.lanes[n].phase = .integrate) ∧ s.dev.lanes[n].work.tail = false ∧
        s.dev.lanes[n].work.ended = false ∧ s.dev.lanes[n].work.taken = false ∧
        (s.dev.lanes[n].work.length = 0 ∨ s.dev.lanes[n].work.samples < (s.dev.filterFor n k).settle + s.dev.lanes[n].work.length) ∧ (∀ a f j, s.dev.lineNext n = some (a, f, j) → s.dev.lanes[n].work.samples + 1 < j)) ∧
    (∃ (s : State) (n : Fin 32) (t : Nat) (k : Ticket) (a : Fin 8) (f : Filter) (j : Nat), s.running ∧
        s.dev.working n = some (t, k) ∧ s.dev.lanes[n].work.ended = false ∧ s.dev.lanes[n].work.taken = false ∧
        s.dev.lanes[n].work.tail = false ∧ s.dev.lineNext n = some (a, f, j) ∧ j = s.dev.lanes[n].work.samples + 1 ∧
        f.settle ≤ j) ∧
    (∃ (s : State) (n : Fin 32), s.running ∧ s.dev.lanes[n].modReset = false ∧ s.dev.modRuns n = true) ∧
    (∃ (s : State) (n : Fin 32), s.running ∧ s.dev.modRuns n = true) ∧
    (∃ (s : State) (n : Fin 32), s.running ∧ s.dev.modRuns n = false) ∧
    (∃ (s : State) (n : Fin 32) (t : Nat) (k : Ticket) (a : Fin 8) (f : Filter) (j : Nat), s.running ∧
        s.dev.working n = some (t, k) ∧ s.dev.lanes[n].work.ended = false ∧ s.dev.lanes[n].work.taken = false ∧
        s.dev.lanes[n].work.tail = false ∧ s.dev.lineNext n = some (a, f, j) ∧ j = s.dev.lanes[n].work.samples + 1 ∧
        f.settle = j ∧ s.dev.axes[a].stall = true) ∧
    (∃ (s : State) (n : Fin 32) (t : Nat) (k : Ticket) (a : Fin 8) (f : Filter) (j : Nat), s.running ∧
        s.dev.working n = some (t, k) ∧ s.dev.lanes[n].work.ended = false ∧ s.dev.lanes[n].work.taken = false ∧
        s.dev.lanes[n].work.tail = false ∧ s.dev.lineNext n = some (a, f, j) ∧ j = s.dev.lanes[n].work.samples + 1 ∧
        f.settle < j ∧ s.dev.axes[a].stall = false ∧
        s.dev.windowDone a (s.dev.axisPos a) (s.dev.lanes[n].work.target.getD 0) f.totalDec = true) :=
  ⟨⟨st (conv 0 .bursts { phase := .integrate, work := { samples := 5, length := 2, sumPos := 4 } }), 0, 0,
        tk 0 .bursts, by
    refine ⟨by decide +kernel, by decide +kernel, by decide +kernel, by decide +kernel, by decide +kernel,
        by decide +kernel, by decide +kernel, ?_⟩
    intro a f j h
    have e : (conv 0 .bursts { phase := .integrate, work := { samples := 5, length := 2, sumPos := 4 } }).lineNext 0 = none := by
      decide +kernel
    exact nomatch e.symm.trans h⟩,
    ⟨st (lineDev { samples := 4, passed := 4 } .discard), 0, 0, lineTicket, 1, lineFilter, 5, by decide +kernel⟩,
    ⟨st dev0, 31, by decide +kernel⟩,
    ⟨st dev0, 31, by decide +kernel⟩,
    ⟨st (dev0.onClk (fun c => { c with measPll := false })), 31, by decide +kernel⟩,
    ⟨st ((lineDev { samples := 4, passed := 4 } .discard).onAxis 1 (fun x => { x with stall := true })), 0, 0,
        lineTicket, 1, lineFilter, 5, by decide +kernel⟩,
    ⟨st (lineDev { samples := 5, passed := 5, target := some 0 } .integrate), 0, 0, lineTicket, 1, lineFilter, 6,
        by decide +kernel⟩⟩

theorem witness_TicketsEnterAndLeave :
    (∃ (s : State) (k : Fin 8) (bs : List Byte) (rest : List (List Byte)) (ds : Desc), s.running ∧
        s.dev.queues[k].fetched = bs :: rest ∧ byteAt bs 0 = 0x10 ∧ s.dev.submitCode bs = .ok ∧ descOf bs = some ds) ∧
    (∃ (s : State) (k : Fin 8) (bs : List Byte) (rest : List (List Byte)), s.running ∧
        s.dev.queues[k].fetched = bs :: rest ∧ byteAt bs 0 = 0x10 ∧ s.dev.submitCode bs ≠ .ok) ∧
    (∃ (bs : List Byte) (k : Desc), descOf bs = some k) ∧
    (∃ (bs : List Byte), descOf bs = none) ∧
    (∃ (s : State) (k : Fin 8) (bs : List Byte) (rest : List (List Byte)) (e : Ticket), s.running ∧
        s.dev.queues[k].fetched = bs :: rest ∧ byteAt bs 0 = 0x11 ∧ s.dev.boot.phase ≠ .safe ∧ cancelCode bs = .ok ∧
        byteAt bs 1 = 0 ∧ s.dev.ticket (Machine.fld (wordAt bs 4) 0 11) = some e ∧ e.cancellable = true ∧
        tget 0 s.dev.incarn (Machine.fld (wordAt bs 4) 0 11) = Machine.fld (wordAt bs 4) 11 21) ∧
    (∃ (s : State) (k : Fin 8) (bs : List Byte) (rest : List (List Byte)), s.running ∧ s.poolOk ∧
        s.dev.queues[k].fetched = bs :: rest ∧ byteAt bs 0 = 0x11 ∧ s.dev.boot.phase ≠ .safe ∧ cancelCode bs = .ok ∧
        byteAt bs 1 ≠ 0) ∧
    (∃ (s : State) (k : Fin 8) (bs : List Byte) (rest : List (List Byte)) (ds : Desc) (a : Fin 8) (q : W48),
        s.running ∧ s.dev.queues[k].fetched = bs :: rest ∧ byteAt bs 0 = 0x10 ∧ s.dev.submitCode bs = .ok ∧
        descOf bs = some ds ∧ ds.trigger = .transit a q ∧ atOrLater (s.dev.axisPos a) q = false) ∧
    (∃ (s : State) (k : Fin 8) (bs : List Byte) (rest : List (List Byte)) (ds : Desc) (a : Fin 8) (q : W48),
        s.running ∧ s.dev.queues[k].fetched = bs :: rest ∧ byteAt bs 0 = 0x10 ∧ s.dev.submitCode bs = .ok ∧
        descOf bs = some ds ∧ ds.trigger = .transit a q ∧ atOrLater (s.dev.axisPos a) q = true ∧
        s.dev.laneFull (fabricOf s.dev.alm ds.bridge.val).lane = false) ∧
    (∃ (s : State) (k : Fin 8) (bs : List Byte) (rest : List (List Byte)) (ds : Desc) (a : Fin 8) (q : W48),
        s.running ∧ s.dev.queues[k].fetched = bs :: rest ∧ byteAt bs 0 = 0x10 ∧ s.dev.submitCode bs = .ok ∧
        descOf bs = some ds ∧ ds.trigger = .transit a q ∧ atOrLater (s.dev.axisPos a) q = true ∧
        s.dev.laneFull (fabricOf s.dev.alm ds.bridge.val).lane = true) ∧
    (∃ (d : Dev) (bs : List Byte) (k : Desc), descOf bs = some k ∧ d.submitCode bs = .ok) ∧
    (∃ (d : Dev) (bs : List Byte) (k : Desc), descOf bs = some k ∧ d.submitCode bs = .state) ∧
    (∃ (d : Dev) (bs : List Byte) (k : Desc), descOf bs = some k ∧ d.submitCode bs = .busy) ∧
    (∃ (d : Dev) (bs : List Byte) (k : Desc), descOf bs = some k ∧ d.submitCode bs = .notPresent) ∧
    (∃ (d : Dev) (bs : List Byte) (k : Desc), descOf bs = some k ∧ d.submitCode bs = .genMismatch) :=
  ⟨⟨st (queued [0x10, 1, 0, 0, 7, 0, 0, 0, 0, 0, 0, 0xFF, 1, 0, 1, 0]), 0,
        [0x10, 1, 0, 0, 7, 0, 0, 0, 0, 0, 0, 0xFF, 1, 0, 1, 0] ++ List.replicate 48 0, [],
        { tk 0 .queued with desc := { (tk 0 .queued).desc with retry := 0, expireMs := 0 } }.desc, by decide +kernel⟩,
    ⟨st (queued [0x10]), 0, 0x10 :: List.replicate 63 0, [], by decide +kernel⟩,
    ⟨[0x10, 1, 0, 0, 7, 0, 0, 0, 0, 0, 0, 0xFF, 1, 0, 1, 0] ++ List.replicate 48 0,
        { tk 0 .queued with desc := { (tk 0 .queued).desc with retry := 0, expireMs := 0 } }.desc, by decide +kernel⟩,
    ⟨[], by decide +kernel⟩,
    ⟨st ({ queued [0x11, 0, 0, 0, 0, 8] with pool := [(0, tk 0 .armed)], incarn := [(0, 1)] }), 0,
        [0x11, 0, 0, 0, 0, 8] ++ List.replicate 58 0, [], tk 0 .armed, by decide +kernel⟩,
    ⟨st ({ queued [0x11, 2] with pool := [(0, tk 0 .armed), (9, tk 1 .armed)] }), 0, [0x11, 2] ++ List.replicate 62 0,
        [], by decide +kernel⟩,
    ⟨st (queued ([0x10, 1, 0, 0, 7, 0, 0, 0, 0, 0, 0, 0xFF, 1, 0, 1, 0, 0, 0, 1, 0, 0, 0, 0, 0, 5])), 0, [0x10, 1, 0,
        0, 7, 0, 0, 0, 0, 0, 0, 0xFF, 1, 0, 1, 0, 0, 0, 1, 0, 0, 0, 0, 0, 5] ++ List.replicate 39 0, [],
        { tk 0 .queued with desc := { (tk 0 .queued).desc with retry := 0, expireMs := 0, trigger := .transit 0 5 } }.desc, 0, 5, by decide +kernel⟩,
    ⟨st (queued ([0x10, 1, 0, 0, 7, 0, 0, 0, 0, 0, 0, 0xFF, 1, 0, 1, 0, 0, 0, 1, 0, 0, 0, 0, 0, 0])), 0, [0x10, 1, 0,
        0, 7, 0, 0, 0, 0, 0, 0, 0xFF, 1, 0, 1, 0, 0, 0, 1, 0, 0, 0, 0, 0, 0] ++ List.replicate 39 0, [],
        { tk 0 .queued with desc := { (tk 0 .queued).desc with retry := 0, expireMs := 0, trigger := .transit 0 0 } }.desc, 0, 0, by decide +kernel⟩,
    ⟨st ((queued ([0x10, 1, 0, 0, 7, 0, 0, 0, 0, 0, 0, 0xFF, 1, 0, 1, 0, 0, 0, 1, 0, 0, 0, 0, 0,
        0])).wr (.lqLimit 0) 0), 0, [0x10, 1, 0, 0, 7, 0, 0, 0, 0, 0, 0, 0xFF, 1, 0, 1, 0, 0, 0, 1, 0, 0, 0, 0, 0,
        0] ++ List.replicate 39 0, [], { tk 0 .queued with desc := { (tk 0 .queued).desc with retry := 0, expireMs := 0, trigger := .transit 0 0 } }.desc, 0, 0, by decide +kernel⟩,
    ⟨dev0, [0x10, 1, 0, 0, 7, 0, 0, 0, 0, 0, 0, 0xFF, 1, 0, 1, 0] ++ List.replicate 48 0,
        { tk 0 .queued with desc := { (tk 0 .queued).desc with retry := 0, expireMs := 0 } }.desc, by decide +kernel⟩,
    ⟨inPhase .held, [0x10, 1, 0, 0, 7, 0, 0, 0, 0, 0, 0, 0xFF, 1, 0, 1, 0] ++ List.replicate 48 0,
        { tk 0 .queued with desc := { (tk 0 .queued).desc with retry := 0, expireMs := 0 } }.desc, by decide +kernel⟩,
    ⟨dev0.wr (.lqLimit 0) 0, [0x10, 1, 0, 0, 7, 0, 0, 0, 0, 0, 0, 0xFF, 1, 0, 1, 0] ++ List.replicate 48 0,
        { tk 0 .queued with desc := { (tk 0 .queued).desc with retry := 0, expireMs := 0 } }.desc, by decide +kernel⟩,
    ⟨dev0.onQuad 0 (fun q => { q with barrierUp := false }), [0x10, 1, 0, 0, 7, 0, 0, 0, 0, 0, 0, 0xFF, 1, 0, 1,
        0] ++ List.replicate 48 0, { tk 0 .queued with desc := { (tk 0 .queued).desc with retry := 0, expireMs := 0 } }.desc, by decide +kernel⟩,
    ⟨dev0, [0x10, 5, 0, 0, 7, 0, 0, 0, 0, 0, 0, 0xFF, 1, 0, 1, 0, 0, 0, 0, 2] ++ List.replicate 44 0,
        { tk 0 .queued with desc := { (tk 0 .queued).desc with retry := 0, expireMs := 0 } }.desc, by decide +kernel⟩⟩

theorem witness_SchedulerEvents :
    (∃ (s : State) (n : Fin 32), s.running ∧ 0 < s.dev.lanes[n].slips.count) ∧
    (∃ (s : State) (t : Fin 2048) (k : Ticket), s.running ∧ s.dev.ticket t.val = some k ∧ s.dev.transitDue k = true ∧
        s.dev.quads[k.quad].barrierUp = true ∧ s.dev.qOff k.quad = false ∧ s.dev.quads[k.quad].hotOff = false ∧
        s.dev.quarantined k.desc.bridge = false ∧ s.dev.laneFull (fabricOf s.dev.alm k.desc.bridge.val).lane = false) ∧
    (∃ (s : State) (t : Fin 2048) (k : Ticket), s.running ∧ s.dev.ticket t.val = some k ∧ k.stage = .armed ∧
        k.cancelled = none ∧ k.desc.expireMs ≠ 0) ∧
    (∃ (s : State) (t : Fin 2048) (k : Ticket), s.quiet ∧ s.dev.alive = true ∧ s.dev.boot.phase = .sleep ∧
        s.dev.ticket t.val = some k ∧ k.stage = .armed ∧ k.desc.expireMs ≠ 0) ∧
    (∃ (s : State) (n : Fin 32) (t : Nat) (q : List Nat) (k : Ticket), s.running ∧ s.dev.lanes[n].queue = t :: q ∧
        s.dev.ticket t = some k ∧ s.dev.lanes[n].current ≠ none ∧ s.dev.lanes[n].runAhead = none ∧
        k.desc.noRunAhead = false) :=
  ⟨⟨st (dev0.setLane 31 { slips := { count := 1, tag := 7 } }), 31, by decide +kernel⟩,
    ⟨st ({ dev0 with pool := [(2047, { tk 0 .armed with desc := { (tk 0 .armed).desc with trigger := .transit 0 0 } })] }),
        2047, { tk 0 .armed with desc := { (tk 0 .armed).desc with trigger := .transit 0 0 } }, by decide +kernel⟩,
    ⟨st ({ dev0 with pool := [(2047, tk 0 .armed)] }), 2047, tk 0 .armed, by decide +kernel⟩,
    ⟨st { inPhase .sleep with pool := [(2047, tk 0 .armed)] }, 2047, tk 0 .armed, by decide +kernel⟩,
    ⟨st ({ dev0 with pool := [(0, tk 0 .bursts), (1, tk 1 .queued)] }.setLane 0 { current := some 0, queue := [1] }),
        0, 1, [], tk 1 .queued, by decide +kernel⟩⟩

theorem witness_ReducersWork :
    (∃ (s : State) (b : Fin 2176), s.running ∧ s.dev.lineFetching b = true) ∧
    (∃ (s : State) (r : Fin 8) (p : Plate) (l : CacheLine) (rest : List Plate), s.running ∧
        s.dev.nextRatio s.dev.red.reducers[r].waiting = some (p, l, rest)) ∧
    (∃ (s : State) (r : Fin 8) (p : Plate) (t : List Plate), s.running ∧ s.dev.red.reducers[r].pipeline = p :: t) ∧
    (∃ (s : State) (p : Plate) (t : List Plate), s.running ∧ s.dev.red.plates = p :: t ∧ p.reached < s.dev.clk.cycle) ∧
    (∃ (s : State), s.running ∧ (∀ p ∈ s.dev.red.plates.head?, s.dev.clk.cycle ≤ p.reached)) ∧
    (∃ (s : State) (p : Path) (r : Fin 8) (w : Word), s.takes p (.redHostTemp r) w ∧ tempWordOk w = true) :=
  ⟨⟨st ({ dev0 with red := { cache := [line0 true] } }), 0, by decide +kernel⟩,
    ⟨st ({ dev0 with red := { cache := [line0 false], reducers := (Vector.replicate 8 {}).set 0 { waiting := [plate0] } } }),
        0, plate0, line0 false, [], by decide +kernel⟩,
    ⟨st ({ dev0 with red := { cache := [line0 false], reducers := (Vector.replicate 8 {}).set 0 { pipeline := [plate0] } } }),
        0, plate0, [], by decide +kernel⟩,
    ⟨st ({ dev0 with red := { plates := [plate0] } }.onClk (fun c => { c with cycle := 1 })), plate0, [],
        by decide +kernel⟩,
    ⟨st { dev0 with red := { plates := [plate0] } }, by decide +kernel⟩,
    ⟨st dev0, .pcie, 7, 0, by decide +kernel⟩⟩

theorem witness_CollimationRuns :
    (∃ (s : State) (q : Fin 4) (b : Fin 2176), s.running ∧ s.dev.collOn q = true ∧ s.dev.collChooses q b = true) ∧
    (∃ (s : State) (q : Fin 4) (r : CollRun), s.running ∧ s.dev.colls[q].run = some r ∧ 1 ≤ r.step ∧ r.step ≤ 7 ∧
        r.yielding = false) ∧
    (∃ (s : State) (q : Fin 4) (r : CollRun), s.running ∧ s.dev.colls[q].run = some r ∧ 1 ≤ r.step ∧ r.step ≤ 7 ∧
        r.yielding = true) ∧
    (∃ (s : State) (q : Fin 4) (r : CollRun), s.running ∧ s.dev.colls[q].run = some r ∧ r.step = 8) ∧
    (∃ (s : State) (p : Path) (w : Word), s.takes p .collCmd (w ||| mkBit true 31) ∧ Machine.fld w 0 12 ≤ 2175 ∧
        s.dev.colls[quadOfBridge (Machine.fld w 0 12)].commanded = none) ∧
    (∃ (s : State) (p : Path) (i : Fin 68) (w : Word), s.takes p (.collFaulted i) w) :=
  ⟨⟨st ((dev0.wr .collCtrl 1).onColl 0 (fun c => { c with commanded := some 0 })), 0, 0, by decide +kernel⟩,
    ⟨st (dev0.onColl 0 (fun c => { c with run := some { bridge := 0, step := 1, readings := [], window := List.replicate 32 0 } })),
        0, { bridge := 0, step := 1, readings := [], window := List.replicate 32 0 }, by decide +kernel⟩,
    ⟨st (dev0.onColl 0 (fun c => { c with run := some { bridge := 0, step := 7, readings := [], window := List.replicate 32 0, yielding := true } })), 0, { bridge := 0, step := 7, readings := [], window := List.replicate 32 0, yielding := true }, by decide +kernel⟩,
    ⟨st (dev0.onColl 0 (fun c => { c with run := some { bridge := 0, step := 8, readings := [], window := List.replicate 32 0 } })),
        0, { bridge := 0, step := 8, readings := [], window := List.replicate 32 0 }, by decide +kernel⟩,
    ⟨st dev0, .pcie, 2175, by decide +kernel⟩,
    ⟨st (dev0.wr (.collFaulted 67) 3), .pcie, 67, 1, by decide +kernel⟩⟩

theorem witness_AxesFollowEdges :
    (∃ (s : State), s.running) ∧
    (∃ (s : State) (a : Fin 8), s.running ∧ s.dev.fld (.axCtrl a) 16 2 ≠ 0 ∧ (s.dev.axisEntry a).source = .encoder ∧
        s.dev.almValid = true ∧ s.dev.axes[a].known = true ∧ s.dev.axes[a].e ≠ 0 ∧ s.dev.axes[a].armed = true) ∧
    (∃ (s : State) (q : Fin 4), s.running ∧ s.dev.quads[q].barrierUp = true ∧ s.dev.almValid = true) ∧
    (∃ (s : State), s.running) :=
  ⟨⟨st ((dev0.onAxis 1 (fun a => { a with known := true, c := 5, e := 3, armed := true })).wr (.axCtrl 1) 0x10000),
        by decide +kernel⟩,
    ⟨st ((dev0.onAxis 1 (fun a => { a with known := true, c := 5, e := 3, armed := true })).wr (.axCtrl 1) 0x10000),
        1, by decide +kernel⟩,
    ⟨st (dev0.onAxis 2 (fun a => { a with known := true, c := 2 ^ 24 - 1 })), 0, by decide +kernel⟩,
    ⟨st dev0, by decide +kernel⟩⟩

theorem witness_PositionsAndEntriesAct :
    (∃ (s : State) (p : Path) (a : Fin 8) (w : Word), s.takesPair p (.axSet a) w ∧ s.dev.almValid = true ∧
        (s.dev.axisEntry a).source = .internal) ∧
    (∃ (s : State) (p : Path) (a : Fin 8) (w : Word) (c : Nat) (i : Nat), s.takesPair p (.axSet a) w ∧
        s.dev.almValid = true ∧ (s.dev.axisEntry a).source.edgeDriven = true ∧
        countsOf (s.dev.axisEntry a).counts (of48 w (s.dev.stagedHi p (.axSet a))) = some (c, i)) ∧
    (∃ (s : State) (i : Fin 512) (e : SchedEntry) (k : Nat), s.running ∧ i.val ∈ s.dev.firing ∧
        s.dev.sched? i.val = some e ∧ k = (if (s.dev.schedEntry i.val).period = 0 then 0 else (s.dev.axisPos (s.dev.schedEntry i.val).axis - e.due).toNat / (s.dev.schedEntry i.val).period)) ∧
    (∃ (s : State) (i : Fin 512), s.running ∧ i.val ∉ s.dev.firing) :=
  ⟨⟨st dev0, .pcie, 7, 5, by decide +kernel⟩,
    ⟨st dev0, .pcie, 1, 0x05C00000, 5, 3, by decide +kernel⟩,
    ⟨st ({ dev0 with schedRun := true, sched := [(0, { fresh := true })] }), 0, { fresh := true }, 0, by decide +kernel⟩,
    ⟨st dev0, 511, by decide +kernel⟩⟩

theorem witness_ChronographsObeyWrites :
    (∃ (s : State) (p : Path) (n : Fin 64), s.takes p (.chrCmd n) 1 ∧ s.dev.chrOff n = false) ∧
    (∃ (s : State) (p : Path) (w : Word), s.takesPair p .chrArm w ∧ (∀ n : Fin 64,
        (if n.val < 32 then Machine.bit w n.val else Machine.bit (s.dev.stagedHi p .chrArm) (n.val - 32)) = true → s.dev.chrOff n = false)) ∧
    (∃ (s : State) (p : Path) (n : Fin 64), s.takes p (.chrCmd n) 2) ∧
    (∃ (s : State) (p : Path) (n : Fin 64) (w : Word), s.takesPair p (.chrCount n) w ∧ s.dev.chrOff n = false) ∧
    (∃ (s : State) (p : Path) (n : Fin 64) (w : Word), s.takesPair p (.chrTerm n) w ∧
        of48 w (s.dev.stagedHi p (.chrTerm n)) ≠ 0) ∧
    (∃ (s : State) (p : Path) (n : Fin 64) (w : Word), s.takesPair p (.chrCompare n) w ∧ s.dev.chrOff n = false) :=
  ⟨⟨st dev0, .pcie, 0, by decide +kernel⟩,
    ⟨st dev0, .pcie, 1, by decide +kernel⟩,
    ⟨st (dev0.onChrono 63 (fun c => { c with running := true })), .pcie, 63, by decide +kernel⟩,
    ⟨st dev0, .pcie, 0, 9, by decide +kernel⟩,
    ⟨st (dev0.onChrono 0 (fun c => { c with running := true, count := 20 })), .pcie, 0, 9, by decide +kernel⟩,
    ⟨st (dev0.onChrono 0 (fun c => { c with running := true, count := 20 })), .pcie, 0, 21, by decide +kernel⟩⟩

theorem witness_ChronographEvents :
    (∃ (s : State) (n : Fin 64), s.running ∧ s.dev.chronos[n].running = true ∧ s.dev.chronos[n].moved = true ∧
        (s.dev.chrEntry n).mode = 2 ∧ s.dev.chronos[n].count = s.dev.rd48 (.chrTerm n)) ∧
    (∃ (s : State) (n : Fin 64), s.running ∧ s.dev.chronos[n].moved = true ∧ s.dev.chronos[n].armed = true ∧
        s.dev.chronos[n].count = s.dev.chrCompareAt n) ∧
    (∃ (s : State) (n : Fin 64) (h : Bool), s.running ∧ (s.dev.chrEntry n).capSrc < 0x40 ∧
        (s.dev.chrPinOut (toFin 63 (s.dev.chrEntry n).capSrc) = false ∨ s.dev.drivenDue n = some h)) ∧
    (∃ (s : State) (n : Fin 64) (h : Bool), s.running ∧ (s.dev.chrEntry n).capSrc < 0x40 ∧
        s.dev.chrPinOut (toFin 63 (s.dev.chrEntry n).capSrc) = true ∧ s.dev.drivenDue n ≠ some h) ∧
    (∃ (s : State) (p : Path), s.quiet ∧ s.dev.boot.phase ≠ .sleep ∧ (p = .pcie → s.dev.boot.sleeping = false) ∧
        s.dev.portOpen p = true) :=
  ⟨⟨st ((dev0.wr48 (.chrTerm 0) 5).onChrono 0 (fun c => { c with running := true, moved := true, count := 5 })), 0,
        by decide +kernel⟩,
    ⟨st ((dev0.wr48 (.chrCompare 0) 5).onChrono 0 (fun c => { c with moved := true, armed := true, count := 5 })), 0,
        by decide +kernel⟩,
    ⟨st dev0, 0, by decide +kernel⟩,
    ⟨st (dev0.wr (.chrCtrl 0) 0x10000), 0, true, by decide +kernel⟩,
    ⟨st dev0, .pcie, by decide +kernel⟩⟩

theorem witness_RangesAndFaultsAct :
    (∃ (s : State) (n : Fin 32) (r : Ranging), s.dev.outs[n].ranging = some r ∧ r.step = 1) ∧
    (∃ (s : State) (n : Fin 32) (r : Ranging), s.dev.outs[n].ranging = some r ∧ r.step = 3) ∧
    (∃ (s : State) (n : Fin 32) (r : Ranging), s.dev.outs[n].ranging = some r ∧ r.step = 5) ∧
    (∃ (s : State) (n : Fin 32) (f : OutFault), s.dev.alive = true ∧ s.dev.faultEvaluated n f = true) ∧
    (∃ (s : State) (n : Fin 32) (f : OutFault), (f = .overvolt ∧ s.dev.outs[n].state = .fault ∧
        s.dev.outs[n].byOvervolt = true ∧ s.dev.bit (.outCtrl n) 8 = true → False)) ∧
    (∃ (s : State) (n : Fin 32), s.dev.outs[n].state = .fault ∧ s.dev.outs[n].byOvervolt = true ∧
        s.dev.bit (.outCtrl n) 8 = true) ∧
    (∃ (s : State) (p : Path) (n : Fin 32), s.takes p (.outCmd n) 2 ∧ s.dev.outs[n].state = .fault ∧
        s.dev.unconfigured n = false ∧ s.dev.outs[n].overvoltNow = false) ∧
    (∃ (s : State) (n : Fin 32), s.dev.outs[n].state = .fault ∧ s.dev.outs[n].byOvervolt = true ∧
        s.dev.bit (.outCtrl n) 8 = true ∧ (s.dev.fieldEntry n).range = 0) :=
  ⟨⟨st (dev0.onOut 0 (fun o => { o with state := .ranging, ranging := some { step := 1, discarded := 0, byApply := true } })),
        0, { step := 1, discarded := 0, byApply := true }, by decide +kernel⟩,
    ⟨st (dev0.onOut 0 (fun o => { o with state := .ranging, ranging := some { step := 3, discarded := 0, byApply := true } })),
        0, { step := 3, discarded := 0, byApply := true }, by decide +kernel⟩,
    ⟨st (dev0.onOut 0 (fun o => { o with state := .ranging, ranging := some { step := 5, discarded := 0, byApply := true } })),
        0, { step := 5, discarded := 0, byApply := true }, by decide +kernel⟩,
    ⟨st (dev0.onOut 0 (fun o => { o with state := .drive })), 0, .overvolt, by decide +kernel⟩,
    ⟨st dev0, 31, .short, by
    intro h; cases h.1⟩,
    ⟨st ((dev0.wr (.outCtrl 0) 0x100).onOut 0 (fun o => { o with state := .fault, byOvervolt := true, overvoltNow := true })),
        0, by decide +kernel⟩,
    ⟨st (dev0.onOut 0 (fun o => { o with state := .fault })), .pcie, 0, by decide +kernel⟩,
    ⟨st ((dev0.wr (.outCtrl 31) 0x100).onOut 31 (fun o => { o with state := .fault, byOvervolt := true, overvoltNow := true })), 31, by decide +kernel⟩⟩

theorem witness_OutputsDriveTheirValues :
    (∃ (s : State) (n : Fin 32) (v : Int) (t : List Int), (s.dev.outEntry n).clkSrc = 0 ∧
        s.dev.outs[n].state = .drive ∧ s.dev.outputsStopped = false ∧ (s.dev.outEntry n).bind = none ∧
        s.dev.bit (.outCtrl n) 0 = true ∧ s.dev.outs[n].queue = v :: t) ∧
    (∃ (s : State) (n : Fin 32) (v : Int), (s.dev.outEntry n).clkSrc = 0 ∧ s.dev.outs[n].state = .drive ∧
        s.dev.outputsStopped = false ∧ (s.dev.outEntry n).bind.isSome = true ∧ s.dev.bit (.outCtrl n) 11 = false ∧
        s.dev.outs[n].pending = some v) ∧
    (∃ (s : State) (p : Path) (n : Fin 32) (w : Word), s.takes p (.outValue n) w ∧ s.dev.unconfigured n = false ∧
        s.dev.inLimits n w.toInt = true ∧ s.dev.bit (.outCtrl n) 0 = false ∧ s.dev.valueBlocked n = false ∧
        (s.dev.outEntry n).bind = none) ∧
    (∃ (s : State) (p : Path) (n : Fin 32) (w : Word), s.takes p (.outQpush n) w ∧ s.dev.unconfigured n = false ∧
        s.dev.inLimits n w.toInt = true ∧ s.dev.bit (.outCtrl n) 0 = true ∧ s.dev.valueBlocked n = false ∧
        (s.dev.outEntry n).bind = none ∧ s.dev.outs[n].queue.length < 64) ∧
    (∃ (s : State) (p : Path) (n : Fin 32), s.takes p (.outCmd n) 1 ∧ s.dev.bit (.outCtrl n) 0 = true ∧
        (s.dev.outEntry n).bind = none ∧ s.dev.unconfigured n = false) :=
  ⟨⟨st ((dev0.wr (.outCtrl 0) 1).onOut 0 (fun o => { o with state := .drive, queue := [5, 6] })), 0, 5, [6],
        by decide +kernel⟩,
    ⟨st (dev0.onOut 1 (fun o => { o with state := .drive, pending := some 5 })), 1, 5, by decide +kernel⟩,
    ⟨st (dev0.onOut 0 (fun o => { o with state := .drive })), .pcie, 0, 5000000, by decide +kernel⟩,
    ⟨st ((dev0.wr (.outCtrl 0) 1).onOut 0 (fun o => { o with state := .drive })), .pcie, 0, 5000000,
        by decide +kernel⟩,
    ⟨st ((dev0.wr (.outCtrl 0) 1).onOut 0 (fun o => { o with state := .drive, queue := [5] })), .pcie, 0,
        by decide +kernel⟩⟩

theorem witness_ClearsReachTheirQuadrant :
    (∃ (s : State), s.dev.alive = true) ∧
    (∃ (s : State), s.dev.alive = true) ∧
    (∃ (s : State) (p : Path) (w : Word), s.takes p .outQclrForce w) ∧
    (∃ (s : State) (p : Path) (w : Word), s.takes p .outQclrTrip w) :=
  ⟨⟨st (dev0.onOut 0 (fun o => { o with state := .drive })), by decide +kernel⟩,
    ⟨st (dev0.onOut 0 (fun o => { o with state := .clear })), by decide +kernel⟩,
    ⟨st (dev0.onOut 0 (fun o => { o with state := .drive })), .pcie, 1, by decide +kernel⟩,
    ⟨st ((dev0.onOut 0 (fun o => { o with state := .clear })).wr .outQclrTrip 1), .pcie, 1, by decide +kernel⟩⟩

theorem witness_ComparatorsTripAndReturn :
    (∃ (d : Dev) (i : Fin 64) (bytes : List Byte), d.cmps[i].entry = bytes ∧ d.cmps[i].tripped = false) ∧
    (∃ (d : Dev) (b : Fin 2176) (red : Bool) (old : Bool) (v : Ratio) (i : Fin 64), v ≠ voidRatio ∧
        (tripFields (entryOf (d.bankOf old).trip i.val)).en = true ∧
        (tripFields (entryOf (d.bankOf old).trip i.val)).bridge = b.val ∧
        (tripFields (entryOf (d.bankOf old).trip i.val)).reduced = red) ∧
    (∃ (bytes : List Byte), (tripFields bytes).actions % 2 = 1) ∧
    (∃ (d : Dev) (i : Fin 64) (bytes : List Byte), d.cmps[i].entry = bytes ∧ d.cmps[i].tripped = true) ∧
    (∃ (s : State) (p : Path) (w : Word), s.takes p .tripHeld w) :=
  ⟨⟨dev0.onCmp 63 (fun c => { c with entry := ([0, 1, 0, 0, 0, 0, 0, 0, 0, 10, 0, 0, 0, 0, 0, 0, 0, 0, 0, 2, 0, 0, 0, 0] : List Byte) }),
        63, ([0, 1, 0, 0, 0, 0, 0, 0, 0, 10, 0, 0, 0, 0, 0, 0, 0, 0, 0, 2, 0, 0, 0, 0] : List Byte),
        by decide +kernel⟩,
    ⟨{ dev0 with alm := { testBank with trip := [(63, [0, 1, 0, 0, 0, 0, 0, 0, 0, 10, 0, 0, 0, 0, 0, 0, 0, 0, 0, 2, 0, 0, 0, 0])] } }, 0, false, false, 0, 63, by decide +kernel⟩,
    ⟨([0, 1] ++ List.replicate 18 0 ++ [1, 0, 0, 0] : List Byte), by decide +kernel⟩,
    ⟨dev0.onCmp 63 (fun c => { c with entry := ([0, 1, 0, 0, 0, 0, 0, 0, 0, 10, 0, 0, 0, 0, 0, 0, 0, 0, 0, 2, 0, 0, 0, 0] : List Byte), tripped := true, side := .high }),
        63, ([0, 1, 0, 0, 0, 0, 0, 0, 0, 10, 0, 0, 0, 0, 0, 0, 0, 0, 0, 2, 0, 0, 0, 0] : List Byte),
        by decide +kernel⟩,
    ⟨st (dev0.wr .tripHeld 0x8080), .pcie, 0x8080, by decide +kernel⟩⟩

theorem witness_RegisterAccesses :
    (∃ (r : Reg) (off : BitVec 22), off.toNat = r.offset) ∧
    (∃ (s : State) (p : Path) (r : Reg) (off : BitVec 22) (hi : Word), s.quiet ∧ s.dev.boot.phase ≠ .sleep ∧
        (p = .pcie → s.dev.boot.sleeping = false) ∧ s.dev.portOpen p = true ∧ off.toNat = r.offset ∧
        r.offset % 8 = 0 ∧ r.wide = true ∧ (r.access = .rw ∨ r.access = .wo) ∧ s.dev.gate p r (r.offset + 4) = .ok ∧
        hi &&& r.reservedHi = 0) ∧
    (∃ (s : State) (p : Path) (k : Fin 256) (i : Fin 16) (off : BitVec 22) (w : Word),
        off.toNat = (Reg.template k i).offset ∧ s.takes p (.template k i) w) ∧
    (∃ (s : State) (p : Path) (off : BitVec 22) (w : Word) (r : Reg) (slot : Nat), s.quiet ∧
        s.dev.boot.phase ≠ .sleep ∧ (p = .pcie → s.dev.boot.sleeping = false) ∧ s.dev.portOpen p = true ∧
        s.dev.msixWord off.toNat = none ∧ Reg.ofOffset off.toNat = some (r, true) ∧ r.wide = true ∧
        (r.access = .rw ∨ r.access = .wo) ∧ s.dev.gate p r off.toNat = .ok ∧ w &&& r.reservedHi = 0 ∧
        pathSlot p = some slot) ∧
    (∃ (s : State) (p : Path) (off : BitVec 22) (r : Reg) (slot : Nat), s.quiet ∧ s.dev.boot.phase ≠ .sleep ∧
        (p = .pcie → s.dev.boot.sleeping = false) ∧ s.dev.portOpen p = true ∧ s.dev.msixWord off.toNat = none ∧
        Reg.ofOffset off.toNat = some (r, false) ∧ r.isRL = true ∧ pathSlot p = some slot) ∧
    (∃ (s : State) (p : Path), s.quiet ∧ s.dev.boot.phase ≠ .sleep ∧ (p = .pcie → s.dev.boot.sleeping = false) ∧
        s.dev.bar2Open p = true) ∧
    (∃ (s : State), s.quiet ∧ s.dev.alive = true ∧ s.dev.boot.phase ≠ .sleep ∧ s.dev.boot.sleeping = false ∧
        s.dev.boot.perstHigh = true) ∧
    (∃ (s : State) (p : Path) (w : Word), s.quiet ∧ s.dev.boot.phase ≠ .sleep ∧
        (p = .pcie → s.dev.boot.sleeping = false) ∧ s.dev.portOpen p = true ∧ Machine.bit w 31 = true) ∧
    (∃ (s : State), s.quiet ∧ s.dev.alive = true ∧ s.dev.boot.phase ≠ .sleep ∧ s.dev.boot.sleeping = false ∧
        s.dev.boot.perstHigh = true ∧ s.dev.portOpen .pcie = false ∧ s.dev.bar2Open .pcie = false) :=
  ⟨⟨.bootCtrl, BitVec.ofNat 22 Reg.bootCtrl.offset, by decide +kernel⟩,
    ⟨st dev0, .pcie, .chrTerm 63, BitVec.ofNat 22 (Reg.chrTerm 63).offset, 5, by decide +kernel⟩,
    ⟨st dev0, .pcie, 255, 15, BitVec.ofNat 22 (Reg.template 255 15).offset, 5, by decide +kernel⟩,
    ⟨st dev0, .pcie, BitVec.ofNat 22 ((Reg.chrTerm 63).offset + 4), 5, .chrTerm 63, 0, by decide +kernel⟩,
    ⟨st dev0, .pcie, BitVec.ofNat 22 (Reg.lkRtime).offset, Reg.lkRtime, 0, by decide +kernel⟩,
    ⟨st dev0, .pcie, by decide +kernel⟩,
    ⟨st dev0, by decide +kernel⟩,
    ⟨st (dev0.wr .rejectLog 0x80000001), .pcie, 0x80000000, by decide +kernel⟩,
    ⟨st (dev0.onBoot (fun b => { b with memSpace := false })), by decide +kernel⟩⟩

theorem witness_RefusedWritesAreLogged :
    (∃ (s : State) (off : BitVec 22), s.quiet ∧ s.dev.boot.phase = .run ∧ s.dev.boot.sleeping = false ∧
        s.dev.portOpen .pcie = true ∧ s.dev.bit .rejectLog 31 = false ∧ s.dev.bit .hostIntCtrl 0 = false ∧
        s.dev.msixWord off.toNat = none ∧ Reg.ofOffset off.toNat = none) ∧
    (∃ (s : State) (k : Fin 256) (i : Fin 16) (off : BitVec 22) (be : BitVec 4) (w : Word), s.quiet ∧
        s.dev.boot.phase = .run ∧ s.dev.boot.sleeping = false ∧ s.dev.portOpen .pcie = true ∧
        s.dev.bit .rejectLog 31 = false ∧ s.dev.bit .hostIntCtrl 0 = false ∧ off.toNat = (Reg.template k i).offset ∧
        be ≠ 0xF ∧ w &&& (Reg.template k i).reservedLo = 0) ∧
    (∃ (s : State), s.quiet ∧ s.dev.boot.phase ≠ .sleep ∧ s.dev.boot.sleeping = false ∧ s.dev.alive = true ∧
        s.dev.boot.perstHigh = true ∧ s.dev.boot.memSpace = true ∧ s.dev.boot.bar2.isSome = true ∧
        s.dev.bit .rejectLog 31 = false ∧ s.dev.bit .hostIntCtrl 0 = false) ∧
    (∃ (s : State) (off : BitVec 22) (w : Word) (r : Reg), s.quiet ∧ s.dev.boot.phase ≠ .sleep ∧
        s.dev.boot.sleeping = false ∧ s.dev.portOpen .pcie = true ∧ s.dev.bit .rejectLog 31 = false ∧
        s.dev.bit .hostIntCtrl 0 = false ∧ s.dev.msixWord off.toNat = none ∧ Reg.ofOffset off.toNat = some (r,
        false) ∧ r.wide = false ∧ r.access ≠ .ro ∧ r ≠ .rejectLog ∧ w &&& r.reservedLo ≠ 0) ∧
    (∃ (s : State) (off : BitVec 22), s.quiet ∧ s.dev.boot.phase = .run ∧ s.dev.boot.sleeping = false ∧
        s.dev.portOpen .pcie = true ∧ s.dev.msixWord off.toNat = none ∧ Reg.ofOffset off.toNat = none ∧
        off.toNat % 4 ≠ 0) :=
  ⟨⟨st dev0, 0x3FFFFC, by decide +kernel⟩,
    ⟨st dev0, 255, 15, BitVec.ofNat 22 (Reg.template 255 15).offset, 7, 5, by decide +kernel⟩,
    ⟨st dev0, by decide +kernel⟩,
    ⟨st dev0, BitVec.ofNat 22 Reg.clkCtrl.offset, 0xFFFFFFFF, .clkCtrl, by decide +kernel⟩,
    ⟨st dev0, 3, by decide +kernel⟩⟩

theorem witness_QueuesRun :
    (∃ (s : State) (p : Path) (k : Fin 8) (w : Word), s.takes p (.qCtrl k) (w ||| mkBit true 31) ∧
        s.dev.queueOn k = false ∧ 4 ≤ Machine.fld w 0 4 ∧ Machine.fld w 0 4 ≤ 12 ∧ s.dev.boot.perstHigh = false) ∧
    (∃ (s : State) (p : Path) (k : Fin 8) (w : Word), s.takes p (.qCtrl k) (w ||| mkBit true 31) ∧
        s.dev.queueOn k = false ∧ 4 ≤ Machine.fld w 0 4 ∧ Machine.fld w 0 4 ≤ 12 ∧ s.dev.boot.perstHigh = true) ∧
    (∃ (s : State) (p : Path) (k : Fin 8) (w : Word), s.takes p (.qCtrl k) (w &&&    (mkBit true 31)) ∧
        s.dev.queueOn k = true ∧ 4 ≤ Machine.fld w 0 4 ∧ Machine.fld w 0 4 ≤ 12 ∧
        Machine.fld w 0 4 = s.dev.fld (.qCtrl k) 0 4 ∧ Machine.fld w 16 4 = s.dev.fld (.qCtrl k) 16 4) ∧
    (∃ (s : State) (p : Path) (k : Fin 8) (w : Word), s.takes p (.qDoorbell k) w ∧ s.dev.queueOn k = true ∧
        Machine.fld w 0 12 < s.dev.queueSize k) ∧
    (∃ (s : State) (k : Fin 8), s.quiet ∧ s.dev.alive = true ∧ s.dev.queues[k].fetching = true ∧
        s.dev.queues[k].stale = false) ∧
    (∃ (s : State) (k : Fin 8), s.quiet ∧ s.dev.alive = true ∧ s.dev.queues[k].fetching = true ∧
        s.dev.queues[k].stale = false ∧ s.dev.queues[k].fetched = [] ∧ s.dev.bit (.qCtrl k) 7 = false) ∧
    (∃ (s : State) (k : Fin 8), s.quiet ∧ s.dev.alive = true ∧ s.dev.queues[k].fetching = true ∧
        s.dev.queues[k].stale = true ∧ s.dev.bit (.qCtrl k) 7 = false) ∧
    (∃ (s : State) (k : Fin 8), s.running ∧ s.dev.queues[k].owed = true ∧ s.dev.canMaster = true ∧
        s.dev.rd64 (.qHeadWb k) ≠ 0) ∧
    (∃ (s : State) (k : Fin 8), s.running ∧ s.dev.rd64 (.qHeadWb k) = 0) ∧
    (∃ (s : State) (p : Path) (k : Fin 8) (w : Word), s.takes p (.qCtrl k) (w &&&    (mkBit true 31)) ∧
        s.dev.queueOn k = true ∧ 4 ≤ Machine.fld w 0 4 ∧ Machine.fld w 0 4 ≤ 12 ∧
        Machine.fld w 0 4 = s.dev.fld (.qCtrl k) 0 4 ∧ Machine.fld w 16 4 = s.dev.fld (.qCtrl k) 16 4 ∧
        s.dev.queues[k].failed = true) :=
  ⟨⟨st (dev0.onBoot (fun b => { b with perstHigh := false })), .spi, 7, 4, by decide +kernel⟩,
    ⟨st dev0, .pcie, 7, 4, by decide +kernel⟩,
    ⟨st (dev0.wr (.qCtrl 7) 0x8000000C), .pcie, 7, 12, by decide +kernel⟩,
    ⟨st (dev0.wr (.qCtrl 7) 0x8000000C), .pcie, 7, 4095, by decide +kernel⟩,
    ⟨st ((dev0.wr (.qCtrl 7) 0x8000000C).onQueue 7 (fun q => { q with fetching := true })), 7, by decide +kernel⟩,
    ⟨st ((dev0.wr (.qCtrl 7) 0x8000000C).onQueue 7 (fun q => { q with fetching := true })), 7, by decide +kernel⟩,
    ⟨st (dev0.onQueue 7 (fun q => { q with fetching := true, stale := true })), 7, by decide +kernel⟩,
    ⟨st (((dev0.wr (.qCtrl 7) 0x8000000C).wr (.qHeadWb 7) 0x1000).onQueue 7 (fun q => { q with owed := true })), 7,
        by decide +kernel⟩,
    ⟨st dev0, 7, by decide +kernel⟩,
    ⟨st ((dev0.wr (.qCtrl 7) 0x8000000C).onQueue 7 (fun q => { q with fetched := [[]], failed := true })), .pcie, 7,
        12, by decide +kernel⟩⟩

theorem witness_EntriesAreProcessed :
    (∃ (s : State) (k : Fin 8) (bs : List Byte) (rest : List (List Byte)), s.running ∧
        s.dev.queues[k].fetched = bs :: rest ∧ byteAt bs 0 = 0x01 ∧ entryReserved bs [(0, 1), (4, 4)] = false) ∧
    (∃ (s : State) (k : Fin 8) (bs : List Byte) (rest : List (List Byte)), s.running ∧
        s.dev.queues[k].fetched = bs :: rest ∧ byteAt bs 0 = 0x12 ∧ field bs 2 2 ≠ 0 ∧ entryReserved bs [(0,
        8)] = false ∧ byteAt bs 1 < 2 ∧ s.dev.boot.phase ≠ .safe ∧ s.dev.apply.phase = .idle) ∧
    (∃ (s : State) (k : Fin 8) (bs : List Byte) (rest : List (List Byte)) (t : Fin 256) (i : Fin 16), s.running ∧
        s.dev.queues[k].fetched = bs :: rest ∧ byteAt bs 0 = 0x20 ∧ byteAt bs 1 = 0 ∧
        field bs 4 4 = (Reg.template t i).offset ∧ wordAt bs 12 = 0 ∧ regForm bs false [(0, 2), (4, 16)] = .ok ∧
        s.dev.gate (.queue k) (.template t i) (Reg.template t i).offset = .ok ∧
        wordAt bs 8 &&& (Reg.template t i).reservedLo = 0) ∧
    (∃ (s : State) (k : Fin 8) (bs : List Byte) (rest : List (List Byte)) (r : Reg), s.running ∧
        s.dev.queues[k].fetched = bs :: rest ∧ byteAt bs 0 = 0x21 ∧ byteAt bs 1 = 0 ∧
        Reg.ofOffset (field bs 4 4) = some (r, false) ∧ s.dev.msixWord (field bs 4 4) = none ∧ regForm bs false [(0,
        2), (4, 4), (0x10, 4)] = .ok) ∧
    (∃ (s : State) (k : Fin 8) (bs : List Byte) (rest : List (List Byte)), s.running ∧
        s.dev.queues[k].fetched = bs :: rest ∧ byteAt bs 0 ∉ opcodes) :=
  ⟨⟨st (queued [1]), 0, 1 :: List.replicate 63 0, [], by decide +kernel⟩,
    ⟨st (queued [0x12, 1, 0, 0x80]), 0, [0x12, 1, 0, 0x80] ++ List.replicate 60 0, [], by decide +kernel⟩,
    ⟨st (queued ([0x20, 0, 0, 0] ++ leBytes 4 (Reg.template 255 15).offset ++ leBytes 4 9 : List Byte)), 0,
        ([0x20, 0, 0, 0] ++ leBytes 4 (Reg.template 255 15).offset ++ leBytes 4 9 : List Byte) ++ List.replicate 52 0,
        [], 255, 15, by decide +kernel⟩,
    ⟨st (queued ([0x21, 0, 0, 0] ++ leBytes 4 (Reg.template 255 15).offset : List Byte)), 0,
        ([0x21, 0, 0, 0] ++ leBytes 4 (Reg.template 255 15).offset : List Byte) ++ List.replicate 56 0, [],
        .template 255 15, by decide +kernel⟩,
    ⟨st (queued [0x99]), 0, 0x99 :: List.replicate 63 0, [], by decide +kernel⟩⟩

theorem witness_ServicePortFrames :
    (∃ (s : State) (a : BitVec 24) (k : Fin 256) (i : Fin 16) (j : Fin 16) (w : Word) (x : Word), s.quiet ∧
        s.dev.boot.phase = .run ∧ s.dev.boot.sleeping = false ∧ s.dev.fuse 64 12 1 = 0 ∧ s.dev.spiHeld = none ∧
        j.val = i.val + 1 ∧ a.toNat = (Reg.template k i).offset ∧ w &&& (Reg.template k i).reservedLo = 0 ∧
        x &&& (Reg.template k j).reservedLo = 0) ∧
    (∃ (s : State) (a : BitVec 24) (k : Fin 256) (i : Fin 16) (ws : List Word) (w : Word), s.quiet ∧
        s.dev.boot.phase = .run ∧ s.dev.boot.sleeping = false ∧ s.dev.fuse 64 12 1 = 0 ∧ s.dev.spiHeld = none ∧
        a.toNat = (Reg.template k i).offset ∧ (∀ x ∈ ws ++ [w], x &&& (Reg.template k i).reservedLo = 0)) ∧
    (∃ (s : State), s.quiet ∧ s.dev.boot.phase = .run ∧ s.dev.boot.sleeping = false ∧ s.dev.spiHeld = none) ∧
    (∃ (s : State) (a : BitVec 24) (k : Fin 256) (i : Fin 16), s.quiet ∧ s.dev.boot.phase = .run ∧
        s.dev.boot.sleeping = false ∧ s.dev.spiHeld = none ∧ a.toNat = (Reg.template k i).offset) ∧
    (∃ (s : State), s.quiet ∧ s.dev.boot.phase = .run ∧ s.dev.boot.sleeping = false ∧ s.dev.spiHeld = none) ∧
    (∃ (s : State) (c : Byte), s.quiet ∧ s.dev.boot.phase = .run ∧ s.dev.boot.sleeping = false ∧
        s.dev.spiHeld = none ∧ spiListed c = false) ∧
    (∃ (s : State), s.quiet ∧ s.dev.boot.phase = .run ∧ s.dev.spiHeld = none) :=
  ⟨⟨st dev0, BitVec.ofNat 24 (Reg.template 255 14).offset, 255, 14, 15, 5, 6, by decide +kernel⟩,
    ⟨st dev0, BitVec.ofNat 24 (Reg.template 255 15).offset, 255, 15, [5], 6, by
    refine ⟨by decide +kernel, by decide +kernel, by decide +kernel, by decide +kernel, by decide +kernel,
        by decide +kernel, ?_⟩
    intro x _; exact BitVec.and_zero⟩,
    ⟨st dev0, by decide +kernel⟩,
    ⟨st dev0, BitVec.ofNat 24 (Reg.template 255 15).offset, 255, 15, by decide +kernel⟩,
    ⟨st dev0, by decide +kernel⟩,
    ⟨st dev0, 0xFF, by decide +kernel⟩,
    ⟨st dev0, by decide +kernel⟩⟩

theorem witness_EndpointAnswers :
    (∃ (s : State) (v : Fin 64), s.quiet ∧ s.dev.alive = true ∧ s.dev.boot.msixPending.getLsbD v.val = true ∧
        s.dev.canMaster = true ∧ s.dev.vectorOpen v = true) ∧
    (∃ (s : State), s.quiet ∧ s.dev.alive = true ∧ s.dev.boot.phase ≠ .sleep ∧ s.dev.boot.sleeping = false ∧
        s.dev.boot.perstHigh = true ∧ s.dev.boot.linkUp = true ∧ s.dev.answersCrs = true) ∧
    (∃ (s : State), s.quiet ∧ s.dev.alive = true ∧ s.dev.boot.phase ≠ .sleep ∧ s.dev.boot.sleeping = false ∧
        s.dev.boot.perstHigh = true ∧ s.dev.boot.linkUp = true ∧ s.dev.answersCrs = false) ∧
    (∃ (s : State) (v : Fin 64), s.quiet ∧ s.dev.alive = true ∧ s.dev.boot.msixPending.getLsbD v.val = true ∧
        s.dev.canMaster = true ∧ s.dev.vectorOpen v = true ∧ s.dev.logs[(0 : Fin 16)].owed = true ∧
        s.dev.vecOf (.lbCtrl 0) = v ∧ s.dev.rd64 (.lbTailWb 0) ≠ 0) :=
  ⟨⟨st ({ dev0 with boot := { dev0.boot with msixPending := 1 <<< 63, msixTable := [(255, 0)] } }), 63,
        by decide +kernel⟩,
    ⟨st (loading { source := .link, boot := true }), by decide +kernel⟩,
    ⟨st dev0, by decide +kernel⟩,
    ⟨st (((dev0.wr (.lbTailWb 0) 0x1000).onLog 0 (fun l => { l with owed := true })).onBoot (fun b => { b with msixPending := 1, msixTable := [(0, 0), (1, 0), (2, 0), (3, 0)] })), 0, by decide +kernel⟩⟩

theorem witness_RecordsAreAdmitted :
    (∃ (s : State) (r : Rec) (t : List Rec), s.dev.handed = r :: t ∧ s.dev.logs[r.log].waiting = []) ∧
    (∃ (s : State) (b : Fin 16) (l : LossRun), s.dev.logs[b].loss = some l ∧ s.dev.bufRoom b 2 = true ∧
        s.dev.logs[b].waiting = [] ∧ s.dev.ringOpen b = false) :=
  ⟨⟨st ({ dev0 with handed := [rec0] }), rec0, [], by decide +kernel⟩,
    ⟨st (dev0.onLog 15 (fun l => { l with loss := some { count := 2, first := 0, types := 2 } })), 15,
        { count := 2, first := 0, types := 2 }, by decide +kernel⟩⟩

theorem witness_LogbooksMoveOn :
    (∃ (s : State) (b : Fin 16) (m : Nat) (k : Fin 8) (r : Rec) (place : MarkPlace) (t : List Waiting),
        s.dev.logs[b].waiting = .mark m k r place :: t ∧ r.log = b ∧ (∀ w ∈ t, ∀ x, w = .held x → x.log = b) ∧
        s.dev.beforeOpen b m k = false) ∧
    (∃ (s : State) (b : Fin 16), s.dev.rd64 (.lbTailWb b) = 0) ∧
    (∃ (s : State) (b : Fin 16), s.dev.logs[b].owed = true ∧ s.dev.canMaster = true ∧ s.dev.rd64 (.lbTailWb b) ≠ 0) ∧
    (∃ (s : State) (b : Fin 16), s.dev.bit (.lbCtrl b) 7 = true ∧ s.dev.fld (.lbMod b) 16 16 ≠ 0 ∧
        0 < s.dev.logs[b].since ∧ s.dev.boot.perstHigh = true) ∧
    (∃ (s : State) (p : Path) (b : Fin 16) (w : Word), s.takes p (.lbHead b) w ∧ s.dev.logOn b = true ∧
        Machine.fld w 0 16 < s.dev.ringSize b ∧
        (Machine.fld w 0 16 + s.dev.ringSize b - s.dev.ringHead b) % s.dev.ringSize b ≤ (s.dev.logs[b].tail + s.dev.ringSize b - s.dev.ringHead b) % s.dev.ringSize b) ∧
    (∃ (s : State) (p : Path) (b : Fin 16) (w : Word), s.takes p (.lbCtrl b) (w ||| mkBit true 31) ∧
        s.dev.logOn b = false ∧ 6 ≤ Machine.fld w 0 5 ∧ Machine.fld w 0 5 ≤ 16 ∧ s.dev.boot.perstHigh = false) ∧
    (∃ (s : State) (p : Path) (b : Fin 16) (w : Word), s.takes p (.lbCtrl b) (w ||| mkBit true 31) ∧
        s.dev.logOn b = false ∧ 6 ≤ Machine.fld w 0 5 ∧ Machine.fld w 0 5 ≤ 16 ∧ s.dev.boot.perstHigh = true) :=
  ⟨⟨st (dev0.onLog 0 (fun l => { l with waiting := [.mark 0 0 rec0 .waits, .held rec0] })), 0, 0, 0, rec0, .waits,
        [.held rec0], by
    refine ⟨by decide +kernel, by decide +kernel, ?_, by decide +kernel⟩
    intro w hw x hx; simp only [List.mem_singleton] at hw; subst hw; cases hx; rfl⟩,
    ⟨st dev0, 15, by decide +kernel⟩,
    ⟨st ((dev0.wr (.lbTailWb 15) 0x1000).onLog 15 (fun l => { l with owed := true })), 15, by decide +kernel⟩,
    ⟨st (((dev0.wr (.lbCtrl 15) 0x80000086).wr (.lbMod 15) 0x10005).onLog 15 (fun l => { l with since := 1 })), 15,
        by decide +kernel⟩,
    ⟨st ((dev0.wr (.lbCtrl 15) 0x80000010).onLog 15 (fun l => { l with tail := 65535 })), .pcie, 15, 65535,
        by decide +kernel⟩,
    ⟨st (dev0.onBoot (fun b => { b with perstHigh := false })), .spi, 15, 6, by decide +kernel⟩,
    ⟨st dev0, .pcie, 15, 6, by decide +kernel⟩⟩

theorem witness_LinkPortsChange :
    (∃ (s : State) (e : LinkPort), s.quiet ∧ s.dev.alive = true ∧ s.dev.linkLive e = true ∧
        (s.dev.link.side e).up = false ∧ (s.dev.link.side e).delays ≠ []) ∧
    (∃ (s : State) (e : LinkPort) (cause : Fin 4), s.quiet ∧ s.dev.alive = true ∧ (s.dev.link.side e).up = true ∧
        (cause = 3 → s.dev.linkLive e = false)) ∧
    (∃ (s : State) (e : LinkPort), s.quiet ∧ s.dev.alive = true ∧ s.dev.linkLive e = true) ∧
    (∃ (s : State) (e : LinkPort) (q : Byte) (c : Byte), s.quiet ∧ s.dev.alive = true ∧ s.dev.linkLive e = true ∧
        crc8 [q] = c) ∧
    (∃ (s : State) (e : LinkPort) (f : DelayRespFrame), s.quiet ∧ s.dev.alive = true ∧ s.dev.linkLive e = true ∧
        crc8 ([f.seq, f.node, f.flags] ++ leBytes 4 f.turn.toNat) = f.crc ∧ (s.dev.link.side e).delayWaits = true ∧
        (f.seq.toNat + 1) % 256 = (s.dev.link.side e).delaySeq) ∧
    (∃ (s : State) (e : LinkPort) (q : Byte) (c : Byte), s.quiet ∧ s.dev.alive = true ∧ s.dev.linkLive e = true ∧
        crc8 [q] ≠ c) ∧
    (∃ (s : State) (e : LinkPort), s.quiet ∧ s.dev.alive = true ∧ (s.dev.link.side e).up = true ∧
        s.dev.linkLive e = false) :=
  ⟨⟨st (dev0.onLink (fun l => { l with west := { delays := [1004] } })), .west, by decide +kernel⟩,
    ⟨st dev0, .west, by decide +kernel⟩,
    ⟨st dev0, .east, by decide +kernel⟩,
    ⟨st dev0, .east, 9, crc8 [9], by decide +kernel⟩,
    ⟨st (dev0.onLink (fun l => { l with east := { up := true, delayWaits := true, delaySeq := 0 } })), .east,
        { seq := 255, node := 4, flags := 1, turn := 16, crc := crc8 ([255, 4, 1] ++ leBytes 4 16), roundTrip := 100 },
        by decide +kernel⟩,
    ⟨st dev0, .east, 9, crc8 [9] + 1, by decide +kernel⟩,
    ⟨st ((inPhase .sleep).onLink (fun l => { l with byAlmanac := true })), .east, by decide +kernel⟩⟩

theorem witness_UrgentFramesAct :
    (∃ (s : State) (e : LinkPort) (k : UrgentKind) (f : UrgentFrame), s.takesUrgent e k f ∧ f.hops ≠ 255 ∧
        (urgentDirected k f && decide (f.target.toNat = s.dev.link.node)) = false) ∧
    (∃ (s : State) (e : LinkPort) (f : UrgentFrame), s.takesUrgent e .trigger f ∧ s.dev.boot.phase = .run ∧ s.poolOk) ∧
    (∃ (s : State) (e : LinkPort) (f : UrgentFrame), s.takesUrgent e .blank f ∧ f.code.toNat < 8 ∧
        (s.dev.boot.phase = .held ∨ s.dev.boot.phase = .run ∨ s.dev.boot.phase = .safe) ∧
        s.dev.bit .lkRx f.code.toNat = true) ∧
    (∃ (s : State) (e : LinkPort) (f : UrgentFrame), s.takesUrgent e .clear f ∧ f.code.toNat < 8 ∧
        (s.dev.boot.phase = .held ∨ s.dev.boot.phase = .run ∨ s.dev.boot.phase = .safe) ∧
        s.dev.bit .lkRx f.code.toNat = true) ∧
    (∃ (s : State) (e : LinkPort) (f : UrgentFrame), s.takesUrgent e .issue f ∧ f.target.toNat = s.dev.link.node ∧
        (s.dev.boot.phase ≠ .run ∨ s.dev.boot.holding = true)) ∧
    (∃ (s : State) (e : LinkPort) (f : UrgentFrame) (bs : List Byte) (k : Desc), s.takesUrgent e .issue f ∧
        f.target.toNat = s.dev.link.node ∧ s.dev.boot.phase = .run ∧ s.dev.boot.holding = false ∧
        bs = s.dev.templateBytes f.code.toNat ∧ descOf bs = some k ∧ k.trigger = .immediate ∧
        lowest (s.dev.submitChecks bs) = .ok) ∧
    (∃ (s : State) (e : LinkPort) (f : UrgentFrame) (bs : List Byte) (c : Code), s.takesUrgent e .issue f ∧
        f.target.toNat = s.dev.link.node ∧ s.dev.boot.phase = .run ∧ s.dev.boot.holding = false ∧
        bs = s.dev.templateBytes f.code.toNat ∧
        c = (if byteAt bs 0x12 = 0 then lowest (s.dev.submitChecks bs) else .range) ∧ c ≠ .ok) ∧
    (∃ (s : State) (e : LinkPort) (f : UrgentFrame), s.takesUrgent e .trip f ∧ f.code.toNat < 8 ∧
        (s.dev.boot.phase = .held ∨ s.dev.boot.phase = .run ∨ s.dev.boot.phase = .safe) ∧
        s.dev.bit .tripRx f.code.toNat = true) ∧
    (∃ (s : State) (e : LinkPort) (f : UrgentFrame), s.takesUrgent e .wake f ∧ s.dev.boot.phase = .sleep ∧
        s.dev.wakeEnabled 3 = true ∧ (urgentAll f = true ∨ f.target.toNat = s.dev.link.node)) ∧
    (∃ (s : State) (p : Path) (w : Word), s.takes p .lkShutLink w) ∧
    (∃ (s : State) (e : LinkPort) (f : UrgentFrame) (bs : List Byte) (k : Desc), s.takesUrgent e .issue f ∧
        f.target.toNat = s.dev.link.node ∧ s.dev.boot.phase = .run ∧ s.dev.boot.holding = false ∧
        bs = s.dev.templateBytes f.code.toNat ∧ descOf bs = some k ∧ k.trigger = .immediate ∧
        lowest (s.dev.submitChecks bs) = .ok ∧ s.dev.fld .poolReserve 0 12 < s.dev.poolFree ∧
        s.dev.laneFull (fabricOf s.dev.alm k.bridge.val).lane = false) ∧
    (∃ (s : State) (e : LinkPort) (f : UrgentFrame) (bs : List Byte) (k : Desc), s.takesUrgent e .issue f ∧
        f.target.toNat = s.dev.link.node ∧ s.dev.boot.phase = .run ∧ s.dev.boot.holding = false ∧
        bs = s.dev.templateBytes f.code.toNat ∧ descOf bs = some k ∧ k.trigger = .immediate ∧
        lowest (s.dev.submitChecks bs) = .ok ∧ s.dev.poolFree ≤ s.dev.fld .poolReserve 0 12) ∧
    (∃ (s : State) (e : LinkPort) (f : UrgentFrame) (bs : List Byte) (k : Desc), s.takesUrgent e .issue f ∧
        f.target.toNat = s.dev.link.node ∧ s.dev.boot.phase = .run ∧ s.dev.boot.holding = false ∧
        bs = s.dev.templateBytes f.code.toNat ∧ descOf bs = some k ∧ k.trigger = .immediate ∧
        lowest (s.dev.submitChecks bs) = .ok ∧ s.dev.laneFull (fabricOf s.dev.alm k.bridge.val).lane = true) :=
  ⟨⟨st dev0, .east, .trigger, urgentOf 0 9 0, by decide +kernel⟩,
    ⟨st ({ dev0 with pool := [(0, { tk 0 .armed with desc := { (tk 0 .armed).desc with trigger := .link 9 } })] }),
        .east, urgentOf 0 9 0, by decide +kernel⟩,
    ⟨st (dev0.wr .lkRx 0x80), .east, urgentOf 1 7 0, by decide +kernel⟩,
    ⟨st ((dev0.wr .lkRx 0x80).wr .lkShutLink 0x80), .east, urgentOf 2 7 0, by decide +kernel⟩,
    ⟨st (dev0.onBoot (fun b => { b with holding := true })), .east, urgentOf 3 9 3, by decide +kernel⟩,
    ⟨st (templated [0x00000110, 7, 0xFF000000, 0x00010001]), .east, urgentOf 3 9 3, [0x10, 1, 0, 0, 7, 0, 0, 0, 0, 0,
        0, 0xFF, 1, 0, 1, 0] ++ List.replicate 48 0,
        { tk 0 .queued with desc := { (tk 0 .queued).desc with retry := 0, expireMs := 0 } }.desc, by decide +kernel⟩,
    ⟨st dev0, .east, urgentOf 3 9 3, List.replicate 64 0, .range, by decide +kernel⟩,
    ⟨st (dev0.wr .tripRx 0x80), .east, urgentOf 4 7 0, by decide +kernel⟩,
    ⟨st ((inPhase .sleep).wr .sleepCtrl 0x808), .east, urgentOf 0x85 0 0, by decide +kernel⟩,
    ⟨st (dev0.wr .lkShutLink 0x81), .pcie, 0x80, by decide +kernel⟩,
    ⟨st (templated [0x00000110, 7, 0xFF000000, 0x00010001]), .east, urgentOf 3 9 3, [0x10, 1, 0, 0, 7, 0, 0, 0, 0, 0,
        0, 0xFF, 1, 0, 1, 0] ++ List.replicate 48 0,
        { tk 0 .queued with desc := { (tk 0 .queued).desc with retry := 0, expireMs := 0 } }.desc, by decide +kernel⟩,
    ⟨st ((templated [0x00000110, 7, 0xFF000000, 0x00010001]).wr .poolReserve 2048), .east, urgentOf 3 9 3, [0x10, 1,
        0, 0, 7, 0, 0, 0, 0, 0, 0, 0xFF, 1, 0, 1, 0] ++ List.replicate 48 0,
        { tk 0 .queued with desc := { (tk 0 .queued).desc with retry := 0, expireMs := 0 } }.desc, by decide +kernel⟩,
    ⟨st ((templated [0x00000110, 7, 0xFF000000, 0x00010001]).wr (.lqLimit 0) 0), .east, urgentOf 3 9 3, [0x10, 1, 0,
        0, 7, 0, 0, 0, 0, 0, 0, 0xFF, 1, 0, 1, 0] ++ List.replicate 48 0,
        { tk 0 .queued with desc := { (tk 0 .queued).desc with retry := 0, expireMs := 0 } }.desc, by decide +kernel⟩⟩

theorem witness_BeaconsSetRingTime :
    (∃ (s : State) (e : LinkPort) (f : BeaconFrame) (err : Int), s.takesBeacon e f ∧
        (s.dev.newTimekeeper f.tk.toNat = true ∨ (s.dev.nextBeacon e f ∧ noWorse (f.hops.toNat,
        e) s.dev.link.seen = true)) ∧ err = ((f.rho.toNat : Int) + f.corr.toNat + ((s.dev.link.side e).delay).getD 0) * 4096 - (s.dev.link.rho - (f.age : Int) * 4096)) ∧
    (∃ (s : State) (e : LinkPort) (f : BeaconFrame), s.takesBeacon e f ∧ s.dev.nextBeacon e f ∧ noWorse (f.hops.toNat,
        e) s.dev.link.seen = false) ∧
    (∃ (s : State) (e : LinkPort) (f : BeaconFrame), s.takesBeacon e f ∧ s.dev.newTimekeeper f.tk.toNat = false ∧
        (s.dev.isTimekeeper = true ∨ f.tk.toNat ≠ s.dev.link.tkNode ∨ (f.rho.toNat = s.dev.link.lastRho ∧
        s.dev.link.spare = none))) ∧
    (∃ (s : State), s.running ∧ s.dev.isTimekeeper = true ∧ s.dev.link.idValid = true) ∧
    (∃ (s : State), s.quiet ∧ s.dev.alive = true ∧ s.dev.isTimekeeper = false) ∧
    (∃ (s : State) (e : LinkPort) (f : BeaconFrame), s.takesBeacon e f ∧ s.dev.nextBeacon e f ∧ noWorse (f.hops.toNat,
        e) s.dev.link.seen = true) ∧
    (∃ (s : State) (e : LinkPort) (f : BeaconFrame), s.takesBeacon e f ∧ s.dev.isTimekeeper = true ∧
        s.dev.newTimekeeper f.tk.toNat = true) ∧
    (∃ (s : State) (e : LinkPort) (f : BeaconFrame), s.takesBeacon e f ∧ s.dev.isTimekeeper = true ∧
        s.dev.newTimekeeper f.tk.toNat = false) :=
  ⟨⟨st (dev0.onLink (fun l => { l with yielded := true })), .east, beaconOf 5, 0, by decide +kernel⟩,
    ⟨st (dev0.onLink (fun l => { l with yielded := true, adopted := true, tkNode := 5, seen := (0, .east) })), .west,
        { beaconOf 5 with rho := 1, crc := crc16 (beaconHead 1 0 5) }, by decide +kernel⟩,
    ⟨st (dev0.onLink (fun l => { l with yielded := true, adopted := true, tkNode := 5 })), .west, beaconOf 5,
        by decide +kernel⟩,
    ⟨st dev0, by decide +kernel⟩,
    ⟨st (dev0.onLink (fun l => { l with yielded := true, adopted := true, aligned := true })), by decide +kernel⟩,
    ⟨st (dev0.onLink (fun l => { l with yielded := true, adopted := true, tkNode := 5, seen := (0, .west) })), .east,
        { beaconOf 5 with rho := 1, crc := crc16 (beaconHead 1 0 5) }, by decide +kernel⟩,
    ⟨st dev0, .east, beaconOf 2, by decide +kernel⟩,
    ⟨st dev0, .east, beaconOf 5, by decide +kernel⟩⟩

theorem witness_MailboxDelivers :
    (∃ (s : State) (e : LinkPort) (f : NormalFrame), s.takesNormal e .mbox f ∧ normalDirected f = true ∧
        s.dev.bit .lkCtrl 27 = true) ∧
    (∃ (s : State) (e : LinkPort) (f : NormalFrame) (m : MboxSend), s.takesNormal e .mboxAck f ∧
        s.dev.link.mbox = some m ∧ m.node = f.origin.toNat ∧ m.mid = Machine.fld f.arg 0 8) ∧
    (∃ (s : State) (p : Path) (bcast : Bool) (node : Byte),
        s.takes p .lkMboxSend (mkBit true 31 ||| mkBit bcast 16 ||| node.setWidth 32) ∧ s.dev.link.idValid = true ∧
        s.dev.link.mbox = none) ∧
    (∃ (s : State) (m : MboxSend), s.running ∧ s.dev.link.mbox = some m) :=
  ⟨⟨st (dev0.wr .lkCtrl 0x08000000), .east, normalOf .mbox 0 5 3 9 [1, 2, 3, 4, 5, 6, 7, 8], by decide +kernel⟩,
    ⟨st (dev0.onLink (fun l => { l with mbox := some { node := 5, mid := 9, lo := 0, hi := 0, sends := 1 } })), .east,
        normalOf .mboxAck 0 5 3 9 [], { node := 5, mid := 9, lo := 0, hi := 0, sends := 1 }, by decide +kernel⟩,
    ⟨st dev0, .pcie, false, 5, by decide +kernel⟩,
    ⟨st (dev0.onLink (fun l => { l with mbox := some { node := 5, mid := 9, lo := 0, hi := 0, sends := 2 } })),
        { node := 5, mid := 9, lo := 0, hi := 0, sends := 2 }, by decide +kernel⟩⟩

theorem witness_RemoteAccessesRun :
    (∃ (s : State) (p : Path) (two : Bool) (write : Bool) (node : Byte),
        s.takes p .lrCmd (mkBit true 31 ||| mkBit two 17 ||| mkBit write 16 ||| node.setWidth 32) ∧
        s.dev.link.idValid = true ∧ s.dev.link.access = none ∧ node.toNat ≠ s.dev.link.node) ∧
    (∃ (s : State) (p : Path) (node : Byte) (k : Fin 256) (i : Fin 16),
        s.takes p .lrCmd (mkBit true 31 ||| mkBit false 17 ||| mkBit false 16 ||| node.setWidth 32) ∧
        s.dev.link.idValid = true ∧ s.dev.link.access = none ∧ node.toNat = s.dev.link.node ∧
        s.dev.bit .lrOffset 31 = false ∧ s.dev.fld .lrOffset 0 22 = (Reg.template k i).offset) ∧
    (∃ (s : State) (e : LinkPort) (f : NormalFrame) (k : Fin 256) (i : Fin 16), s.takesNormal e .rraReq f ∧
        normalDirected f = true ∧ s.dev.link.answered.find? (fun x => decide (x.1 = f.origin.toNat ∧
        x.2.1 = Machine.fld f.arg 0 8)) = none ∧ Machine.fld f.arg 8 3 = 0 ∧
        field f.payload 0 4 = (Reg.template k i).offset) ∧
    (∃ (s : State) (e : LinkPort) (f : NormalFrame) (k : Fin 256) (i : Fin 16), s.takesNormal e .rraReq f ∧
        normalDirected f = true ∧ s.dev.link.answered.find? (fun x => decide (x.1 = f.origin.toNat ∧
        x.2.1 = Machine.fld f.arg 0 8)) = none ∧ Machine.fld f.arg 8 3 = 1 ∧
        field f.payload 0 4 = (Reg.template k i).offset ∧ wordAt f.payload 4 &&& (Reg.template k i).reservedLo = 0 ∧
        s.dev.gate .link (.template k i) (Reg.template k i).offset = .ok) ∧
    (∃ (s : State) (e : LinkPort) (f : NormalFrame) (a : RemoteAccess), s.takesNormal e .rraResp f ∧
        s.dev.link.access = some a ∧ a.node = f.origin.toNat ∧ a.rid = Machine.fld f.arg 0 8) ∧
    (∃ (s : State) (a : RemoteAccess), s.running ∧ s.dev.link.access = some a) :=
  ⟨⟨st dev0, .pcie, true, true, 5, by decide +kernel⟩,
    ⟨st (dev0.wr .lrOffset (BitVec.ofNat 32 (Reg.template 255 15).offset)), .pcie, 3, 255, 15, by decide +kernel⟩,
    ⟨st dev0, .east, normalOf .rraReq 0 5 3 9 (leBytes 4 (Reg.template 255 15).offset ++ List.replicate 12 0), 255,
        15, by decide +kernel⟩,
    ⟨st dev0, .east, normalOf .rraReq 0 5 3 0x109 (leBytes 4 (Reg.template 255 15).offset ++ List.replicate 12 0),
        255, 15, by decide +kernel⟩,
    ⟨st (dev0.onLink (fun l => { l with access := some { node := 5, rid := 9, twoHalf := false, write := false, bar2 := false, offset := 0, lo := 0, hi := 0, key := 0, tries := 1 } })), .east, normalOf .rraResp 0 5 3 9 (List.replicate 8 0), { node := 5, rid := 9, twoHalf := false, write := false, bar2 := false, offset := 0, lo := 0, hi := 0, key := 0, tries := 1 }, by decide +kernel⟩,
    ⟨st (dev0.onLink (fun l => { l with access := some { node := 5, rid := 9, twoHalf := false, write := false, bar2 := false, offset := 0, lo := 0, hi := 0, key := 0, tries := 2 } })), { node := 5, rid := 9, twoHalf := false, write := false, bar2 := false, offset := 0, lo := 0, hi := 0, key := 0, tries := 2 }, by decide +kernel⟩⟩

theorem witness_LinkBootRuns :
    (∃ (s : State) (e : LinkPort) (f : NormalFrame) (l : Load), s.takesNormal e .bootData f ∧
        normalDirected f = true ∧ s.dev.boot.load = some l ∧ l.source = .link ∧ l.image.ended = false ∧
        f.arg.toNat = l.image.bytes.length ∧ (s.dev.link.bootOrigin = some f.origin.toNat ∨ (s.dev.link.bootOrigin = none ∧ f.arg = 0)) ∧ (∀ r, Image.scan { l.image with bytes := l.image.bytes ++ f.payload, ended := f.flags.getLsbD 1 } ≠ .fail r)) ∧
    (∃ (s : State) (e : LinkPort) (f : NormalFrame) (q : BootPush), s.takesNormal e .bootAck f ∧
        s.dev.link.push = some q ∧ q.node = f.origin.toNat) ∧
    (∃ (s : State) (p : Path) (node : Byte), s.takes p .lkBootCtrl (mkBit true 31 ||| node.setWidth 32) ∧
        s.dev.rd .lkBootLen ≠ 0 ∧ s.dev.link.idValid = true ∧ s.dev.link.push = none) ∧
    (∃ (s : State) (p : Path) (w : Word) (q : BootPush), s.takes p .lkBootData w ∧ s.dev.link.push = some q ∧
        q.sent + q.open_.length < q.length ∧ q.frames.length < 8) ∧
    (∃ (s : State) (q : BootPush) (o : Nat) (bs : List Byte) (last : Bool) (n : Nat) (t : List (Nat × List Byte × Bool × Nat)), s.running ∧ s.dev.link.push = some q ∧ q.frames = (o, bs, last, n) :: t) ∧
    (∃ (s : State) (p : Path) (w : Word) (q : BootPush), s.takes p .lkBootData w ∧ s.dev.link.push = some q ∧
        q.sent + q.open_.length < q.length ∧ q.frames.length < 8 ∧ q.open_.length + 4 = 256 ∧
        q.sent + 256 ≠ q.length ∧ s.dev.link.idValid = true ∧ s.dev.link.east.up = true) ∧
    (∃ (s : State) (p : Path) (w : Word) (q : BootPush), s.takes p .lkBootData w ∧ s.dev.link.push = some q ∧
        q.sent + q.open_.length < q.length ∧ q.frames.length < 8 ∧ q.sent + q.open_.length + 4 = q.length) :=
  ⟨⟨st (loading { source := .link, boot := true }), .east, normalOf .bootData 0 5 3 0 [1, 2, 3, 4],
        { source := .link, boot := true }, by
    refine ⟨by decide +kernel, by decide +kernel, by decide +kernel, by decide +kernel, by decide +kernel,
        by decide +kernel, by decide +kernel, ?_⟩
    intro r; cases r <;> decide +kernel⟩,
    ⟨st (dev0.onLink (fun l => { l with push := some { node := 5, length := 1024, open_ := [], frames := [(0, [1], false, 1)], sent := 256, acked := 0 } })),
        .east, normalOf .bootAck 0 5 3 0x01000000 [],
        { node := 5, length := 1024, open_ := [], frames := [(0, [1], false, 1)], sent := 256, acked := 0 },
        by decide +kernel⟩,
    ⟨st (dev0.wr .lkBootLen 1024), .pcie, 5, by decide +kernel⟩,
    ⟨st (dev0.onLink (fun l => { l with push := some { node := 5, length := 1024, open_ := [], frames := [], sent := 256, acked := 0 } })),
        .pcie, 7, { node := 5, length := 1024, open_ := [], frames := [], sent := 256, acked := 0 },
        by decide +kernel⟩,
    ⟨st (dev0.onLink (fun l => { l with push := some { node := 5, length := 1024, open_ := [], frames := [(0, [1], false, 2)], sent := 256, acked := 0 } })),
        { node := 5, length := 1024, open_ := [], frames := [(0, [1], false, 2)], sent := 256, acked := 0 }, 0, [1],
        false, 2, [], by decide +kernel⟩,
    ⟨st (dev0.onLink (fun l => { l with push := some { node := 5, length := 1024, open_ := List.replicate 252 0, frames := [], sent := 256, acked := 0 } })), .pcie, 7, { node := 5, length := 1024, open_ := List.replicate 252 0, frames := [], sent := 256, acked := 0 }, by decide +kernel⟩,
    ⟨st (dev0.onLink (fun l => { l with push := some { node := 5, length := 264, open_ := List.replicate 4 0, frames := [], sent := 256, acked := 0 } })), .pcie, 7, { node := 5, length := 264, open_ := List.replicate 4 0, frames := [], sent := 256, acked := 0 }, by decide +kernel⟩⟩

theorem witness_RingIsCounted :
    (∃ (s : State) (e : LinkPort) (f : NormalFrame), s.quiet ∧ s.dev.alive = true ∧ s.dev.linkLive e = true ∧
        normalOk .enum f = true ∧ s.dev.isOwn f.origin = false ∧ s.dev.boot.phase ≠ .sleep ∧ s.dev.nodeFused = false ∧
        seqNew s.dev.link.normalSeen f.origin.toNat f.seq.toNat 65536 = true ∧ Machine.bit f.arg 8 = false) ∧
    (∃ (s : State) (e : LinkPort) (f : NormalFrame), s.quiet ∧ s.dev.alive = true ∧ s.dev.linkLive e = true ∧
        normalOk .enum f = true ∧ s.dev.isOwn f.origin = false ∧ s.dev.boot.phase ≠ .sleep ∧ s.dev.nodeFused = false ∧
        seqNew s.dev.link.normalSeen f.origin.toNat f.seq.toNat 65536 = true ∧ Machine.bit f.arg 8 = true ∧
        s.dev.link.idValid = true) ∧
    (∃ (s : State) (e : LinkPort) (f : NormalFrame), s.quiet ∧ s.dev.alive = true ∧ s.dev.linkLive e = true ∧
        normalOk .enum f = true ∧ s.dev.isOwn f.origin = true ∧ s.dev.boot.phase ≠ .sleep ∧
        s.dev.link.enumRunning = true) ∧
    (∃ (s : State) (e : LinkPort) (f : NormalFrame), s.quiet ∧ s.dev.alive = true ∧ s.dev.linkLive e = true ∧
        normalOk .census f = true ∧ s.dev.isOwn f.origin = false ∧ normalDirected f = false ∧
        (s.dev.link.side (otherPort e)).up = true) ∧
    (∃ (s : State) (e : LinkPort) (f : NormalFrame), s.quiet ∧ s.dev.alive = true ∧ s.dev.linkLive e = true ∧
        normalOk .census f = true ∧ s.dev.isOwn f.origin = true ∧ s.dev.boot.phase ≠ .sleep ∧
        s.dev.link.censusRunning = true) ∧
    (∃ (s : State) (e : LinkPort) (f : NormalFrame), s.takesNormal e .censusDone f) ∧
    (∃ (s : State) (e : LinkPort) (f : NormalFrame), s.takesNormal e .ringOpen f) ∧
    (∃ (s : State) (p : Path), s.takes p .lkCmd (mkBit true 16) ∧ s.dev.almValid = true ∧
        (linkOf s.dev.alm).enumerate = true ∧ s.dev.enumBusy = false) ∧
    (∃ (s : State) (p : Path), s.takes p .lkCmd (mkBit true 18) ∧ s.dev.link.idValid = true ∧ s.dev.enumBusy = false) ∧
    (∃ (s : State) (p : Path) (all : Bool) (node : Byte),
        s.takes p .lkCmd (mkBit true 17 ||| mkBit all 8 ||| node.setWidth 32) ∧ s.dev.link.idValid = true ∧
        s.dev.link.urgentFree ≤ s.dev.clk.tau ∧ s.dev.link.urgentWait = []) ∧
    (∃ (s : State), s.running ∧ (s.dev.link.enumRunning = true ∨ s.dev.link.censusRunning = true)) ∧
    (∃ (s : State), s.running ∧ s.dev.link.east.up = true ∧ s.dev.link.west.up = true ∧ s.dev.link.idValid = true ∧
        s.dev.link.censusRunning = false) :=
  ⟨⟨st (dev0.onLink (fun l => { l with idValid := false })), .east, normalOf .enum 1 5 0 0x04 [], by decide +kernel⟩,
    ⟨st dev0, .east, normalOf .enum 1 5 0 0x100 [], by decide +kernel⟩,
    ⟨st (dev0.onLink (fun l => { l with enumRunning := true })), .west, normalOf .enum 1 3 0 0x04 [],
        by decide +kernel⟩,
    ⟨st dev0, .east, normalOf .census 1 5 0 0x04 [], by decide +kernel⟩,
    ⟨st (dev0.onLink (fun l => { l with censusRunning := true })), .west, normalOf .census 1 3 0 0x04 [],
        by decide +kernel⟩,
    ⟨st dev0, .east, normalOf .censusDone 1 5 0 0x04 [], by decide +kernel⟩,
    ⟨st (dev0.onLink (fun l => { l with ringClosed := true })), .east, normalOf .ringOpen 1 5 0 1 [],
        by decide +kernel⟩,
    ⟨st dev0, .pcie, by decide +kernel⟩,
    ⟨st dev0, .pcie, by decide +kernel⟩,
    ⟨st dev0, .pcie, true, 0, by decide +kernel⟩,
    ⟨st (dev0.onLink (fun l => { l with enumRunning := true })), by decide +kernel⟩,
    ⟨st dev0, by decide +kernel⟩⟩

theorem witness_VaultCommandsAct :
    (∃ (s : State) (p : Path), s.takes p .vltCmd 1 ∧ (s.dev.boot.phase = .held ∨ s.dev.boot.phase = .run) ∧
        s.dev.vaultOff = false ∧ s.dev.vault.phase = .idle ∧ s.dev.vault.op = none) ∧
    (∃ (s : State) (p : Path) (page : BitVec 12), s.takes p .vltCmd (at_ page.toNat 16 ||| 16) ∧
        s.dev.vault.phase = .open_ ∧ s.dev.vault.owner = p ∧ s.dev.vault.op = none) ∧
    (∃ (s : State) (p : Path) (page : BitVec 12), s.takes p .vltCmd (at_ page.toNat 16 ||| 2) ∧
        s.dev.vault.phase = .open_ ∧ s.dev.vault.owner = p ∧ s.dev.vault.op = none ∧
        (page.toNat ∈ s.dev.vault.slots ∨ s.dev.vault.slots.length < 64)) ∧
    (∃ (s : State) (p : Path), s.takes p .vltCmd 4 ∧ s.dev.vault.phase = .open_ ∧ s.dev.vault.slots ≠ [] ∧
        s.dev.vault.owner = p ∧ s.dev.vault.op = none) ∧
    (∃ (s : State) (p : Path), s.takes p .vltCmd 8 ∧ s.dev.vault.owner = p ∧
        (s.dev.vault.phase ≠ .idle ∨ s.dev.vault.committedLast = true)) ∧
    (∃ (s : State) (p : Path) (i : Fin 64) (w : Word), s.takes p (.vltBuf i) w ∧ s.dev.vault.phase = .open_ ∧
        s.dev.vault.owner = p ∧ (∀ q, s.dev.vault.op ≠ some (.load q))) :=
  ⟨⟨st dev0, .pcie, by decide +kernel⟩,
    ⟨st (vaultOp none), .pcie, 4095, by decide +kernel⟩,
    ⟨st (vaultOp none), .pcie, 4095, by decide +kernel⟩,
    ⟨st (vaultOp none), .pcie, by decide +kernel⟩,
    ⟨st (vaultOp none), .pcie, by decide +kernel⟩,
    ⟨st (vaultOp none), .pcie, 63, 5, by
    refine ⟨by decide +kernel, by decide +kernel, by decide +kernel, ?_⟩
    intro q h; cases h⟩⟩

theorem witness_VaultRefusesWhileBusy :
    (∃ (s : State) (p : Path), s.takes p .vltCmd 1 ∧ (s.dev.boot.phase = .held ∨ s.dev.boot.phase = .run) ∧
        s.dev.vaultOff = false ∧ (s.dev.pageBusy = true ∨ s.dev.notOwner p = true)) ∧
    (∃ (s : State) (p : Path) (page : BitVec 12), s.takes p .vltCmd (at_ page.toNat 16 ||| 16) ∧
        s.dev.vault.phase = .open_ ∧ (s.dev.pageBusy = true ∨ s.dev.notOwner p = true)) ∧
    (∃ (s : State) (p : Path) (page : BitVec 12), s.takes p .vltCmd (at_ page.toNat 16 ||| 2) ∧
        s.dev.vault.phase = .open_ ∧ (page.toNat ∈ s.dev.vault.slots ∨ s.dev.vault.slots.length < 64) ∧
        (s.dev.pageBusy = true ∨ s.dev.notOwner p = true)) ∧
    (∃ (s : State) (p : Path), s.takes p .vltCmd 4 ∧ s.dev.vault.phase = .open_ ∧ s.dev.vault.slots ≠ [] ∧
        (s.dev.pageBusy = true ∨ s.dev.notOwner p = true)) ∧
    (∃ (s : State) (p : Path), s.takes p .vltCmd 8 ∧ s.dev.notOwner p = true) ∧
    (∃ (s : State) (p : Path) (i : Fin 64) (w : Word), s.takes p (.vltBuf i) w ∧ s.dev.vault.phase = .open_ ∧
        s.dev.notOwner p = true) :=
  ⟨⟨st (vaultOp (some .openDesc)), .pcie, by decide +kernel⟩,
    ⟨st (vaultOp (some .openDesc)), .pcie, 4095, by decide +kernel⟩,
    ⟨st (vaultOp (some .openDesc)), .pcie, 4095, by decide +kernel⟩,
    ⟨st ((vaultOp (some .openDesc)).onVault (fun v => { v with slots := [3] })), .pcie, by decide +kernel⟩,
    ⟨st ((vaultOp none).onVault (fun v => { v with owner := .spi })), .pcie, by decide +kernel⟩,
    ⟨st ((vaultOp none).onVault (fun v => { v with owner := .spi })), .pcie, 63, 5, by decide +kernel⟩⟩

theorem witness_VaultOperationsComplete :
    (∃ (s : State), s.quiet ∧ s.dev.alive = true ∧ s.dev.vault.op = some .openDesc ∧ s.dev.vault.stopping = false) ∧
    (∃ (s : State) (page : Fin 4096), s.quiet ∧ s.dev.alive = true ∧ s.dev.vault.op = some (.load page) ∧
        s.dev.vault.stopping = false) ∧
    (∃ (s : State) (page : Fin 4096) (bs : List Byte), s.quiet ∧ s.dev.alive = true ∧
        s.dev.vault.op = some (.put page bs) ∧ s.dev.vault.stopping = false) ∧
    (∃ (s : State), s.quiet ∧ s.dev.alive = true ∧ s.dev.vault.op = some .closing) ∧
    (∃ (s : State) (q : Nat) (t : List Nat) (bs : List Byte), s.quiet ∧ s.dev.alive = true ∧ s.dev.vault.op = none ∧
        s.dev.vault.phase = .copying ∧ s.dev.vault.toCopy = q :: t ∧ s.dev.vault.stopping = false ∧
        s.dev.vault.ready = true ∧ slotOf s.nv.journal q = some bs) ∧
    (∃ (s : State), s.quiet ∧ s.dev.alive = true ∧ s.dev.vault.op = none ∧ s.dev.vault.ready = false) ∧
    (∃ (s : State), s.quiet ∧ s.dev.alive = true ∧ s.dev.vault.phase = .committing ∧ s.dev.vault.ready = true ∧
        s.dev.vault.stopping = false) ∧
    (∃ (s : State), s.quiet ∧ s.dev.alive = true ∧ s.dev.vault.phase = .copying ∧ s.dev.vault.toCopy = [] ∧
        s.dev.vault.ready = true) :=
  ⟨⟨st (vaultOp (some .openDesc)), by decide +kernel⟩,
    ⟨st (vaultOp (some (.load 4095))), 4095, by decide +kernel⟩,
    ⟨st (vaultOp (some (.put 4095 (List.replicate 256 7)))), 4095, List.replicate 256 7, by decide +kernel⟩,
    ⟨st (vaultOp (some .closing)), by decide +kernel⟩,
    ⟨{ st { dev0 with vault := { ready := true, phase := .copying, toCopy := [4095] } } with nv := { kind := .committed, journal := [(4095, List.replicate 256 7)] } },
        4095, [], List.replicate 256 7, by decide +kernel⟩,
    ⟨st { dev0 with vault := {} }, by decide +kernel⟩,
    ⟨st ({ dev0 with vault := { ready := true, phase := .committing } }), by decide +kernel⟩,
    ⟨st ({ dev0 with vault := { ready := true, phase := .copying } }), by decide +kernel⟩⟩

theorem witness_IdleStepPassesAnEdge :
    (∃ (s : State), s.pending = [] ∧ s.dev.alive = false) ∧
    (∃ (s : State), s.pending = [] ∧ s.dev.alive = true ∧ s.dev.boot.phase = .sleep) ∧
    (∃ (s : State), s.pending = [] ∧ s.dev.clocked = true) ∧
    (∃ (s : State), s.pending = [] ∧ s.dev.clocked = true ∧ s.dev.onEdge.2 ≠ []) ∧
    (∃ (s : State), s.pending = [] ∧ s.dev.clocked = true ∧ s.dev.onEdge.2 = []) :=
  ⟨⟨st (inPhase .off), by decide +kernel⟩,
    ⟨st ((inPhase .sleep).onClk (fun c => { c with ledgerRun := true })), by decide +kernel⟩,
    ⟨st dev0, by decide +kernel⟩,
    ⟨st (dev0.onChrono 0 (fun c => { c with moved := true, armed := true })), by decide +kernel⟩,
    ⟨st { dev0 with alm := {} }, by decide +kernel⟩⟩

theorem witness_ReducersSettle :
    (∃ p : Plate, p.raw = voidRatio) ∧
    (∃ (d : Dev) (r : Fin 8) (p : Plate) (l : CacheLine), p.raw ≠ voidRatio ∧
      ∃ c ∈ coefficients l.block (reduceOf (d.bankOf p.old) r.val), c.2.2.1 = badMantissa) ∧
    (∃ (d : Dev) (r : Fin 8) (p : Plate) (l : CacheLine), p.raw ≠ voidRatio ∧ p.raw = satCode true ∧
      ∀ c ∈ coefficients l.block (reduceOf (d.bankOf p.old) r.val), c.2.2.1 ≠ badMantissa) ∧
    (∃ (d : Dev) (r : Fin 8) (p : Plate) (l : CacheLine), p.raw ≠ voidRatio ∧ p.raw = satCode false ∧
      ∀ c ∈ coefficients l.block (reduceOf (d.bankOf p.old) r.val), c.2.2.1 ≠ badMantissa) ∧
    (∃ (d : Dev) (r : Fin 8) (p : Plate) (l : CacheLine), p.raw ≠ voidRatio ∧ p.raw ≠ satCode true ∧
        p.raw ≠ satCode false ∧
      (∀ c ∈ coefficients l.block (reduceOf (d.bankOf p.old) r.val), c.2.2.1 ≠ badMantissa) ∧
      (reduceOf (d.bankOf p.old) r.val).maxJ = 0) ∧
    (∃ (d : Dev) (p : Plate) (l : CacheLine), p.raw ≠ voidRatio ∧ p.raw ≠ satCode true ∧ p.raw ≠ satCode false ∧
      (∀ c ∈ coefficients l.block (reduceOf (d.bankOf p.old) 1), c.2.2.1 ≠ badMantissa) ∧
      (reduceOf (d.bankOf p.old) 1).maxJ ≠ 0 ∧
      (d.plateTemp 1 p (fabricOf (d.bankOf p.old) p.bridge.val) l).word ≠ noTemp) ∧
    (∃ (d : Dev) (p : Plate) (l : CacheLine), p.raw ≠ voidRatio ∧ p.raw ≠ satCode true ∧ p.raw ≠ satCode false ∧
      (∀ c ∈ coefficients l.block (reduceOf (d.bankOf p.old) 1), c.2.2.1 ≠ badMantissa) ∧
      (reduceOf (d.bankOf p.old) 1).maxJ ≠ 0 ∧
      (d.plateTemp 1 p (fabricOf (d.bankOf p.old) p.bridge.val) l).word = noTemp) :=
  ⟨⟨{ plate0 with raw := voidRatio }, rfl⟩,
    ⟨dev0, 0, plate0, { line0 false with block := [0, 0, 0, 0, 0, 0x80] ++ List.replicate 186 0 }, by decide +kernel⟩,
    ⟨dev0, 0, { plate0 with raw := satCode true }, line0 false, by decide +kernel⟩,
    ⟨dev0, 0, { plate0 with raw := satCode false }, line0 false, by decide +kernel⟩,
    ⟨dev0, 0, plate0, line0 false, by decide +kernel⟩,
    ⟨{ dev0 with alm := { testBank with reduce := [(1, [1, 1, 7, 3, 0, 0, 0, 0])] } }.wr (.thermTemp 1) 0, plate0,
        line0 false,
        by decide +kernel⟩,
    ⟨{ dev0 with alm := { testBank with reduce := [(1, [1, 1, 7, 3, 0, 0, 0, 0])] } }.wr (.thermTemp 1) 0xFF800000,
        plate0,
        line0 false, by decide +kernel⟩⟩

theorem witness_EveryStepGoesOn : ∃ s t : State, exec (.measPllLock) s = .next t := ⟨st dev0, _, rfl⟩

theorem witness_WiresAreWorkedOff : ∃ s t : State, s.quiet ∧ step s = .next t := ⟨st dev0, _, rfl, rfl⟩

theorem witness_FusesStay : ∃ (s t : State) (i : Nat), step s = .next t ∧ s.nv.fuses.getLsbD i = true :=
  ⟨{ st dev0 with nv := { fuses := 1 } }, _, 0, rfl, by decide +kernel⟩

theorem witness_TablesKeepTheirForm : ∃ s t : State, s.poolOk ∧ s.cellsOk ∧ step s = .next t :=
  ⟨{ st { dev0 with pool := [(0, tk 0 .armed), (2047, tk 1 .armed)] } with nv := { home := [(0, 1), (1048575, 2)], journal :=
    [(4095, List.replicate 256 7)] } }, _, by decide +kernel, by decide +kernel, rfl⟩

theorem witness_OnlyCommitPointsChangeTheVault : ∃ s t : State, s.vaultOk ∧ step s = .next t := by
  refine ⟨State.reset, _, ?_, rfl⟩
  unfold State.vaultOk
  refine ⟨fun h => absurd rfl h, by simp [State.reset], by simp [State.reset], fun _ => rfl,
        fun _ _ h => (by cases h), ?_, ?_, ?_,
    fun _ => ⟨rfl, rfl⟩⟩
  · rintro (h | h) <;> cases h
  · intro h; cases h
  · intro _ h; cases h

theorem witness_RegistersHaveTheirOffsets : (∃ r : Reg, r.wide = true) ∧ ∃ r q : Reg, r.offset = q.offset :=
  ⟨⟨.chrTerm 63, rfl⟩, ⟨.template 255 15, .template 255 15, rfl⟩⟩

end Sys2Proof.Tests
end

section
/-! SUPPORT. The nonvolatile cells: which commands reach them, and what those commands do to the fuses (R119 to R122, R154).
The vault's commands and journal recovery write its own cells and descriptor; a fuse bit is only ever written by an OR. -/
namespace Sys2Proof

/-- The commands that reach the nonvolatile cells: the end of fuse programming, what cuts it short, the end of journal
recovery, and the vault's own writes. -/
def Instr.reachesNv : Instr → Bool
  | .supplyLoss | .rstNAssert | .fuseProgDone _ | .journalRecoveryEnd | .vaultPageWriteDone | .vaultCommitPoint
  | .vaultClose => true
  | _ => false

end Sys2Proof

namespace Sys2Proof.Machine

/-! ### Commands that leave the nonvolatile cells alone -/

/-- An outcome of `s` in which at most the device has changed. -/
def devOnly (s : State) (o : Host.Outcome State Fault Refusal) : Prop := ∃ d, o = toDev s d

theorem devOnly_toDev (s : State) (d : Dev) : devOnly s (toDev s d) := ⟨d, rfl⟩

theorem devOnly_ite {s : State} {c : Prop} [Decidable c] {a b : Host.Outcome State Fault Refusal} (ha : devOnly s a)
    (hb : devOnly s b) : devOnly s (if c then a else b) := by
  split
  · exact ha
  · exact hb

theorem devOnly_nv {s t : State} {o : Host.Outcome State Fault Refusal} (h : devOnly s o) (ht : o = .next t) :
    t.nv = s.nv := by
  obtain ⟨d, rfl⟩ := h
  cases ht
  rfl

theorem execOutSampleEvent_devOnly (n : Fin 32) (s : State) : devOnly s (execOutSampleEvent n s) :=
  devOnly_ite (devOnly_toDev s _) (devOnly_toDev s _)

theorem execOutFaultDetect_devOnly (n : Fin 32) (f : OutFault) (sense : Word) (s : State) :
    devOnly s (execOutFaultDetect n f sense s) :=
  devOnly_ite (devOnly_toDev s _) (devOnly_toDev s _)

theorem execOutFaultRelease_devOnly (n : Fin 32) (f : OutFault) (s : State) : devOnly s (execOutFaultRelease n f s) :=
  devOnly_ite (devOnly_toDev s _) (devOnly_toDev s _)

theorem execLbModTimeout_devOnly (b : Fin 16) (s : State) : devOnly s (execLbModTimeout b s) :=
  devOnly_ite (devOnly_toDev s _) (devOnly_toDev s _)

theorem execRangeStageOff_devOnly (n : Fin 32) (s : State) : devOnly s (execRangeStageOff n s) := by
  unfold execRangeStageOff
  split
  · exact devOnly_ite (devOnly_ite (devOnly_toDev s _) (devOnly_toDev s _)) (devOnly_toDev s _)
  · exact devOnly_toDev s _

theorem execRangeStageOn_devOnly (n : Fin 32) (s : State) : devOnly s (execRangeStageOn n s) := by
  unfold execRangeStageOn
  split
  · exact devOnly_ite (devOnly_toDev s _) (devOnly_toDev s _)
  · exact devOnly_toDev s _

theorem execRangeDone_devOnly (n : Fin 32) (s : State) : devOnly s (execRangeDone n s) := by
  unfold execRangeDone
  split
  · exact devOnly_ite (devOnly_toDev s _) (devOnly_toDev s _)
  · exact devOnly_toDev s _

theorem execRecordAdmit_devOnly (s : State) : devOnly s (execRecordAdmit s) := by
  unfold execRecordAdmit
  split
  · exact devOnly_toDev s _
  · exact devOnly_toDev s _

theorem execLossRunClose_devOnly (b : Fin 16) (s : State) : devOnly s (execLossRunClose b s) := by
  unfold execLossRunClose
  split
  · exact devOnly_ite (devOnly_toDev s _) (devOnly_toDev s _)
  · exact devOnly_toDev s _

/-- Every command but those that reach the nonvolatile cells changes the device only. The rows named here branch on the state
before they answer; every other row answers `toDev s d` as it stands. -/
theorem exec_devOnly (i : Instr) (s : State) (h : i.reachesNv = false) : devOnly s (exec i s) := by
  cases i with
  | supplyLoss | rstNAssert | fuseProgDone | journalRecoveryEnd | vaultPageWriteDone | vaultCommitPoint | vaultClose =>
    nomatch h
  | outSampleEvent n => exact execOutSampleEvent_devOnly n s
  | outFaultDetect n f sense => exact execOutFaultDetect_devOnly n f sense s
  | outFaultRelease n f => exact execOutFaultRelease_devOnly n f s
  | rangeStageOff n => exact execRangeStageOff_devOnly n s
  | rangeStageOn n => exact execRangeStageOn_devOnly n s
  | rangeDone n => exact execRangeDone_devOnly n s
  | recordAdmit => exact execRecordAdmit_devOnly s
  | lossRunClose b => exact execLossRunClose_devOnly b s
  | lbModTimeout b => exact execLbModTimeout_devOnly b s
  | _ => exact devOnly_toDev s _

/-- An edge of the clock on which no command waits leaves the nonvolatile cells alone. -/
@[simp] theorem State.tick_nv (s : State) : s.tick.nv = s.nv := by
  unfold State.tick
  split
  · rfl
  split
  · dsimp only
    split
    · rfl
    · rfl
  · rfl

/-! ### Fuses are only programmed -/

/-- From `v` to `u` the fuses are programmed at most: bits are set, and none is cleared. -/
def NonVolatile.burnsTo (v u : NonVolatile) : Prop := ∃ m, u.fuses = v.fuses ||| m

theorem NonVolatile.burnsTo_of_fuses_eq {v u : NonVolatile} (h : u.fuses = v.fuses) : v.burnsTo u :=
  ⟨0#4096, by rw [h, BitVec.or_zero]⟩

theorem NonVolatile.burnsTo_refl (v : NonVolatile) : v.burnsTo v := burnsTo_of_fuses_eq rfl

theorem NonVolatile.burnsTo_getLsbD {v u : NonVolatile} (h : v.burnsTo u) {i : Nat} (hi : v.fuses.getLsbD i = true) :
    u.fuses.getLsbD i = true := by
  obtain ⟨m, hm⟩ := h
  rw [hm, BitVec.getLsbD_or, hi, Bool.true_or]

/-- A reset during fuse programming leaves the bit 0 or 1, ORed to the array (R154). -/
theorem Dev.cutFuse_burnsTo (d : Dev) (v : NonVolatile) : v.burnsTo (d.cutFuse v).2 := by
  unfold Dev.cutFuse
  split
  · exact v.burnsTo_refl
  · exact ⟨_, rfl⟩

/-- RST_N low leaves the cells as the cut of a fuse leaves them; all else that it does is to the device. -/
theorem Dev.resetLow_snd (d : Dev) (v : NonVolatile) (h : d.boot.phase ≠ .off) : (d.resetLow v).2 = (d.cutFuse v).2 := by
  simp only [Dev.resetLow, if_neg h]

theorem Dev.resetLow_snd_of_off (d : Dev) (v : NonVolatile) (h : d.boot.phase = .off) : (d.resetLow v).2 = v := by
  simp only [Dev.resetLow, if_pos h]

theorem Dev.resetLow_burnsTo (d : Dev) (v : NonVolatile) : v.burnsTo (d.resetLow v).2 := by
  by_cases h : d.boot.phase = .off
  · rw [d.resetLow_snd_of_off v h]
    exact v.burnsTo_refl
  · rw [d.resetLow_snd v h]
    exact d.cutFuse_burnsTo v

theorem Dev.supplyLost_burnsTo (d : Dev) (v : NonVolatile) : v.burnsTo (d.supplyLost v).2 := d.cutFuse_burnsTo v

/-- The end of fuse programming ORs the bit as it reads back to the array (R121). -/
theorem Dev.fuseDone_burnsTo (d : Dev) (v : NonVolatile) (readBack : Bool) : v.burnsTo (d.fuseDone v readBack).2 := by
  unfold Dev.fuseDone
  split
  · exact v.burnsTo_refl
  · exact ⟨_, rfl⟩

/-! ### The vault leaves the fuses alone -/

@[simp] theorem NonVolatile.recover_fuses (v : NonVolatile) : v.recover.2.fuses = v.fuses := by
  unfold NonVolatile.recover
  cases v.kind with
  | closed | open_ | committed => rfl

@[simp] theorem Dev.journalEnds_fuses (d : Dev) (v : NonVolatile) : (d.journalEnds v).2.fuses = v.fuses := by
  unfold Dev.journalEnds
  split
  · rfl
  · exact v.recover_fuses

@[simp] theorem Dev.pageDone_fuses (d : Dev) (v : NonVolatile) : (d.pageDone v).2.fuses = v.fuses := by
  unfold Dev.pageDone
  split
  · rfl
  · rfl
  · rfl
  · rfl
  · split
    · split
      · rfl
      · rfl
    · rfl

@[simp] theorem Dev.commitPoint_fuses (d : Dev) (v : NonVolatile) : (d.commitPoint v).2.fuses = v.fuses := by
  unfold Dev.commitPoint
  split
  · rfl
  · rfl

@[simp] theorem Dev.vaultClose_fuses (d : Dev) (v : NonVolatile) : (d.vaultClose v).2.fuses = v.fuses := by
  unfold Dev.vaultClose
  split
  · rfl
  · rfl

/-! ### Every command, and every step -/

theorem settledNv_burnsTo {s t : State} {r : Dev × NonVolatile} (h : s.nv.burnsTo r.2) (ht : settledNv s r = .next t) :
    s.nv.burnsTo t.nv := by
  cases ht
  exact h

theorem ifAliveNv_burnsTo {s t : State} {f : Dev → NonVolatile → Dev × NonVolatile}
    (h : (f s.dev s.nv).2.fuses = s.nv.fuses) (ht : ifAliveNv s f = .next t) : s.nv.burnsTo t.nv := by
  refine settledNv_burnsTo ?_ ht
  split
  · exact NonVolatile.burnsTo_of_fuses_eq h
  · exact s.nv.burnsTo_refl

theorem exec_burnsTo {i : Instr} {s t : State} (h : exec i s = .next t) : s.nv.burnsTo t.nv := by
  cases i with
  | supplyLoss => exact settledNv_burnsTo (s.dev.supplyLost_burnsTo s.nv) h
  | rstNAssert => exact settledNv_burnsTo (s.dev.resetLow_burnsTo s.nv) h
  | fuseProgDone readBack => exact settledNv_burnsTo (s.dev.fuseDone_burnsTo s.nv readBack) h
  | journalRecoveryEnd =>
    exact settledNv_burnsTo (NonVolatile.burnsTo_of_fuses_eq (s.dev.journalEnds_fuses s.nv)) h
  | vaultPageWriteDone => exact ifAliveNv_burnsTo (s.dev.pageDone_fuses s.nv) h
  | vaultCommitPoint => exact ifAliveNv_burnsTo (s.dev.commitPoint_fuses s.nv) h
  | vaultClose => exact ifAliveNv_burnsTo (s.dev.vaultClose_fuses s.nv) h
  | _ => exact NonVolatile.burnsTo_of_fuses_eq (congrArg NonVolatile.fuses (devOnly_nv (exec_devOnly _ s rfl) h))

theorem step_burnsTo {s t : State} (h : step s = .next t) : s.nv.burnsTo t.nv := by
  unfold step at h
  split at h
  next =>
    cases h
    exact NonVolatile.burnsTo_of_fuses_eq (congrArg NonVolatile.fuses s.tick_nv)
  next i rest _ => exact exec_burnsTo (s := { s with pending := rest }) h

/-- Settles O57 (R122): a step sets bits of the fuse array and clears none. -/
theorem fusesStay : Obligations.FusesStay := by
  intro s t i h hi
  exact NonVolatile.burnsTo_getLsbD (step_burnsTo h) hi

end Sys2Proof.Machine
end

section
/-! SUPPORT. Refused register writes: once, for every one-word register, what a write changes that its path takes and the
register's own rules refuse (R16, R621, R626, R649). -/
namespace Sys2Proof.Machine

/-! ### What a refused write may change -/

/-- From `d` to `e` at most the log of rejections, the service port's status and the message of the log's vector change: the
frame of `refusedWith`. -/
structure Dev.OnlyRejects (d e : Dev) : Prop where
  rd : ∀ q : Reg, q.offset ≠ Reg.offset .rejectLog → q.offset ≠ Reg.offset .rejectOffset →
    q.offset ≠ Reg.offset .rejectValue → q.offset ≠ Reg.offset .rejectValueHi → q.offset ≠ Reg.offset .spiStatus →
    e.rd q = d.rd q
  rest : e = { d with
    regs := e.regs, outputs := e.outputs, boot := { d.boot with msixPending := e.boot.msixPending } }

theorem Dev.OnlyRejects.refl (d : Dev) : d.OnlyRejects d := ⟨fun _ _ _ _ _ _ => rfl, rfl⟩

theorem Dev.OnlyRejects.trans {a b c : Dev} (hab : a.OnlyRejects b) (hbc : b.OnlyRejects c) : a.OnlyRejects c where
  rd q h1 h2 h3 h4 h5 := (hbc.rd q h1 h2 h3 h4 h5).trans (hab.rd q h1 h2 h3 h4 h5)
  rest := by
    have h := hbc.rest
    rw [hab.rest] at h
    exact h

/-- A write of a register of the log, or of the service port's status, stays in the frame. -/
theorem Dev.onlyRejects_wr (d : Dev) (r : Reg) (w : Word)
    (h : r ∈ [Reg.rejectLog, .rejectOffset, .rejectValue, .rejectValueHi, .spiStatus]) : d.OnlyRejects (d.wr r w) where
  rd q h1 h2 h3 h4 h5 := by
    refine d.rd_wr_other w ?_
    simp only [List.mem_cons, List.not_mem_nil, or_false] at h
    rcases h with rfl | rfl | rfl | rfl | rfl <;> assumption
  rest := rfl

theorem Dev.signal_regs (d : Dev) (v : Fin 64) : (d.signal v).regs = d.regs := by rw [d.signal_eq v]

theorem Dev.onlyRejects_signal (d : Dev) (v : Fin 64) : d.OnlyRejects (d.signal v) where
  rd q _ _ _ _ _ := Dev.rd_congr (d.signal_regs v) q
  rest := by rw [d.signal_eq v]

theorem Dev.OnlyRejects.events_eq {d e : Dev} (h : d.OnlyRejects e) : e.events = d.events := by rw [h.rest]

/-! ### The log of rejections and the service port's status -/

/-- A word of a frame leaves the device as it is, or writes the service port's status. -/
theorem Dev.spiWord_cases (d : Dev) (p : Path) (c : Code) (n : Nat) :
    d.spiWord p c n = d ∨ ∃ w, d.spiWord p c n = d.wr .spiStatus w := by
  unfold Dev.spiWord
  split
  · exact .inl rfl
  split
  · exact .inr ⟨_, rfl⟩
  split
  · exact .inl rfl
  · exact .inr ⟨_, rfl⟩

theorem Dev.onlyRejects_spiWord (d : Dev) (p : Path) (c : Code) (n : Nat) : d.OnlyRejects (d.spiWord p c n) := by
  obtain h | ⟨w, h⟩ := d.spiWord_cases p c n
  · rw [h]
    exact .refl d
  · rw [h]
    exact d.onlyRejects_wr _ w (by simp)

/-- The service port's status is no part of the log. -/
theorem Dev.spiWord_rejectLog (d : Dev) (p : Path) (c : Code) (n : Nat) :
    (d.spiWord p c n).rd .rejectLog = d.rd .rejectLog := by
  obtain h | ⟨w, h⟩ := d.spiWord_cases p c n
  · rw [h]
  · rw [h, Dev.rd_wr_other _ _ (by decide)]

theorem Dev.onlyRejects_logReject (d : Dev) (path : Nat) (off lo hi : Word) (c : Code) :
    d.OnlyRejects (d.logReject path off lo hi c) := by
  unfold Dev.logReject
  split
  · exact d.onlyRejects_wr _ _ (by simp)
  · have logged (a b x y : Word) :
        d.OnlyRejects ((((d.wr .rejectLog a).wr .rejectOffset b).wr .rejectValue x).wr .rejectValueHi y) :=
      (((d.onlyRejects_wr _ a (by simp)).trans (Dev.onlyRejects_wr _ _ b (by simp))).trans
        (Dev.onlyRejects_wr _ _ x (by simp))).trans (Dev.onlyRejects_wr _ _ y (by simp))
    dsimp only
    split
    · exact (logged ..).trans (Dev.onlyRejects_signal _ _)
    · exact logged ..

theorem fld_or (a b : Word) (lo len : Nat) : fld (a ||| b) lo len = fld a lo len ||| fld b lo len := by
  simp only [fld, BitVec.toNat_or, Nat.or_div_two_pow, Nat.or_mod_two_pow]

/-- The code stands in bits [7:0] of a word of REJECT_LOG, below its count, its path and VALID. -/
theorem fld_rejectWord (path : Nat) (c : Code) :
    fld (mkBit true 31 ||| at_ path 28 ||| at_ 1 16 ||| at_ c.num 0) 0 8 = c.num := by
  have hpath : fld (at_ path 28) 0 8 = 0 := by
    simp only [fld, at_, BitVec.toNat_ofNat]
    omega
  have hcode : fld (at_ c.num 0) 0 8 = c.num := by cases c <;> rfl
  have hvalid : fld (mkBit true 31) 0 8 = 0 := rfl
  have hcount : fld (at_ 1 16) 0 8 = 0 := rfl
  simp only [fld_or, hvalid, hpath, hcount, hcode, Nat.zero_or]

/-- A free log takes the code. -/
theorem Dev.logReject_code (d : Dev) (path : Nat) (off lo hi : Word) (c : Code) (free : d.bit .rejectLog 31 = false) :
    (d.logReject path off lo hi c).fld .rejectLog 0 8 = c.num := by
  have logged (a b x y : Word) :
      ((((d.wr .rejectLog a).wr .rejectOffset b).wr .rejectValue x).wr .rejectValueHi y).rd .rejectLog = a := by
    rw [Dev.rd_wr_other _ _ (by decide), Dev.rd_wr_other _ _ (by decide), Dev.rd_wr_other _ _ (by decide),
      Dev.rd_wr_same]
  unfold Dev.logReject
  rw [if_neg (by simp [free])]
  dsimp only
  split
  · rw [Dev.fld, Dev.rd_congr (Dev.signal_regs _ _), logged, fld_rejectWord]
  · rw [Dev.fld, logged, fld_rejectWord]

/-! ### A refused write -/

/-- The device after a refused write of a one-word register: its path's log and counts take it (R621, R649). -/
def Dev.refused (d : Dev) (p : Path) (r : Reg) (w : Word) (c : Code) : Dev :=
  (d.logReject (pathReject p false) (at_ r.offset 0) w 0 c).spiWord p c 1

theorem Dev.onlyRejects_refused (d : Dev) (p : Path) (r : Reg) (w : Word) (c : Code) : d.OnlyRejects (d.refused p r w c) :=
  (d.onlyRejects_logReject ..).trans (Dev.onlyRejects_spiWord ..)

theorem Dev.refused_code (d : Dev) (p : Path) (r : Reg) (w : Word) (c : Code) (free : d.bit .rejectLog 31 = false) :
    (d.refused p r w c).fld .rejectLog 0 8 = c.num := by
  rw [Dev.refused, Dev.fld, Dev.spiWord_rejectLog]
  exact d.logReject_code _ _ _ _ c free

/-- The register's own rules refuse a write that all others take: their code stands. -/
theorem commitAt_of_refused {s : State} {p : Path} {r : Reg} {w hi : Word} {c : Code} {e : Dev}
    {lr : Dev → Word → Result} (h : s.takes p r w) (hw : r.wide = false) (hc : c ≠ .ok)
    (own : s.dev.commitReg lr p r w hi = (c, e)) : s.dev.commitAt lr p r w hi .ok = (c, s.dev) := by
  obtain ⟨-, -, -, hg, hr⟩ := h
  simp [Dev.commitAt, own, hg, hr, hw, hc, lowest, Code.lower]

/-- A row that writes a one-word register whose own rules refuse the word. -/
theorem writeRow_of_refused {s : State} {p : Path} {r : Reg} {w : Word} {c : Code} {e : Dev} (h : s.takes p r w)
    (hr : Reg.ofOffset r.offset = some (r, false)) (hm : s.dev.msixWord r.offset = none) (ha : r.access ≠ .ro)
    (hj : r ≠ .rejectLog) (hw : r.wide = false) (hc : c ≠ .ok)
    (own : s.dev.commitReg (Dev.writeLrCmd s.nv) p r w 0 = (c, e)) :
    writeRow s p r w = .next { s with dev := s.dev.refused p r w c } := by
  have commit : s.dev.commitAt (Dev.writeLrCmd s.nv) p r w 0#32 .ok = (c, s.dev) := commitAt_of_refused h hw hc own
  obtain ⟨quiet, ⟨awake, notEntering⟩, isOpen, -, -⟩ := h
  have effect : s.dev.writeReg s.nv p r w = s.dev.refused p r w c := by
    simp [Dev.writeReg, Dev.busWrite, Dev.hostWakes_awake _ p awake notEntering, isOpen, Dev.busWriteAs, Dev.putWord,
      commits_of hr ha, hm, Dev.writeAt, hr, ha, hj, hw, commit, hc, Dev.refused]
  rw [writeRow, effect]
  exact settled_of_no_events s _ ((s.dev.onlyRejects_refused p r w c).events_eq.trans quiet)

/-- A row that ends as `Dev.refused` says is refused. -/
theorem refusedWith_of_exec {s : State} {i : Instr} {p : Path} {r : Reg} {w : Word} {c : Code}
    (h : exec i s = .next { s with dev := s.dev.refused p r w c }) : refusedWith s i c :=
  have frame := s.dev.onlyRejects_refused p r w c
  ⟨_, h, s.dev.refused_code p r w c, frame.rd, frame.rest⟩

/-! ### A write that its path counts -/

theorem Dev.counted_events (d : Dev) (p : Path) : (d.counted p).events = d.events :=
  (d.onlyRejects_spiWord p .ok 1).events_eq

end Sys2Proof.Machine
end

section
/-! SUPPORT. CLK_CTRL (R159, R161, R164): what its own rules say of a word. -/
namespace Sys2Proof.Machine

theorem Dev.commitReg_clkCtrl (lr : Dev → Word → Result) (d : Dev) (p : Path) (lo hi : Word) :
    d.commitReg lr p .clkCtrl lo hi = d.writeClkCtrl lo := rfl

/-- While a switch runs, BUSY is the one code that a selection in range meets. -/
theorem Dev.writeClkCtrl_of_switching {d : Dev} {w : Word} (hsel : Machine.fld w 0 2 ≠ 3) (hs : d.clk.switch ≠ none) :
    d.writeClkCtrl w = (.busy, d) := by
  simp [Dev.writeClkCtrl, hsel, Option.isSome_iff_ne_none.mpr hs, lowest, Code.lower, checked]

/-- The value in force is taken, and nothing is done. -/
theorem Dev.writeClkCtrl_in_force {d : Dev} {w : Word} (hsel : Machine.fld w 0 2 ≠ 3) (hs : d.clk.switch = none)
    (same : Machine.fld w 0 2 = d.fld .clkCtrl 0 2) : d.writeClkCtrl w = (.ok, d) := by
  have pass : lowest [(decide (Machine.fld w 0 2 = 3), .range), (d.clk.switch.isSome, .busy)] = .ok := by
    simp [hsel, hs, lowest]
  simp only [Dev.writeClkCtrl, checked_of_ok pass, if_pos same]

/-! ### CCLK_SEL_WRITE -/

theorem cclkSelWrite_of_switching {s : State} {p : Path} {w : Word} (h : s.takes p .clkCtrl w)
    (hsel : Machine.fld w 0 2 ≠ 3) (hs : s.dev.clk.switch ≠ none) :
    exec (.cclkSelWrite p w) s = .next { s with dev := s.dev.refused p .clkCtrl w .busy } :=
  writeRow_of_refused h rfl rfl (by decide) (by decide) rfl (by decide)
    ((Dev.commitReg_clkCtrl ..).trans (Dev.writeClkCtrl_of_switching hsel hs))

theorem cclkSelWrite_in_force {s : State} {p : Path} {w : Word} (h : s.takes p .clkCtrl w)
    (hsel : Machine.fld w 0 2 ≠ 3) (hs : s.dev.clk.switch = none) (same : Machine.fld w 0 2 = s.dev.fld .clkCtrl 0 2) :
    exec (.cclkSelWrite p w) s = .next { s with dev := s.dev.counted p } := by
  have quiet : (s.dev.counted p).events = [] := (s.dev.counted_events p).trans h.1
  rw [← settle_of_no_events _ quiet]
  exact writeRow_of_takes h rfl rfl (by decide) (by decide) rfl
    ((Dev.commitReg_clkCtrl ..).trans (Dev.writeClkCtrl_in_force hsel hs same))

/-- Settles O10 (R164): BUSY is the only rule that such a write meets while a switch runs, and the value in force runs no
switch-out. -/
theorem switchesAreNotDisturbed : Obligations.SwitchesAreNotDisturbed :=
  ⟨fun _ _ _ h hsel hs => refusedWith_of_exec (cclkSelWrite_of_switching h hsel hs),
    fun _ _ _ h hsel hs same => cclkSelWrite_in_force h hsel hs same⟩

end Sys2Proof.Machine
end

section
/-! SUPPORT. VLT_CMD and VLT_BUF (R744 to R757, R765): which command a word spells, and what the vault's own rules say of one that
finds PAGE_BUSY at 1 or comes from another path than the owner's. -/
namespace Sys2Proof.Machine

/-! ### The words of VLT_CMD (R765) -/

/-- The command bits of a VLT_CMD word lie below its PAGE. -/
theorem fld_command_of_vltWord (page : BitVec 12) {c : Word} (hc : c.toNat < 32) :
    fld (at_ page.toNat 16 ||| c) 0 5 = c.toNat := by
  have hpage : fld (at_ page.toNat 16) 0 5 = 0 := by
    simp only [fld, at_, BitVec.toNat_ofNat]
    omega
  have hcmd : fld c 0 5 = c.toNat := by
    simp only [fld]
    omega
  rw [fld_or, hpage, hcmd, Nat.zero_or]

/-- PAGE of a VLT_CMD word lies above its command bits. -/
theorem fld_page_of_vltWord (page : BitVec 12) {c : Word} (hc : c.toNat < 32) :
    fld (at_ page.toNat 16 ||| c) 16 12 = page.toNat := by
  have hpage : fld (at_ page.toNat 16) 16 12 = page.toNat := by
    simp only [fld, at_, BitVec.toNat_ofNat]
    omega
  have hcmd : fld c 16 12 = 0 := by
    simp only [fld]
    omega
  rw [fld_or, hpage, hcmd, Nat.or_zero]

theorem Dev.writeVltCmd_open (d : Dev) (p : Path) : d.writeVltCmd p 1 = d.vltOpen p := rfl

theorem Dev.writeVltCmd_commit (d : Dev) (p : Path) : d.writeVltCmd p 4 = d.vltCommit p := rfl

theorem Dev.writeVltCmd_abort (d : Dev) (p : Path) : d.writeVltCmd p 8 = d.vltAbort p := rfl

theorem Dev.writeVltCmd_load (d : Dev) (p : Path) (page : BitVec 12) :
    d.writeVltCmd p (at_ page.toNat 16 ||| 16) = d.vltLoad p (toFin 4095 page.toNat) := by
  have hcmd := fld_command_of_vltWord page (c := 16) (by decide)
  have hpage := fld_page_of_vltWord page (c := 16) (by decide)
  simp only [Dev.writeVltCmd, hcmd, hpage]
  rfl

theorem Dev.writeVltCmd_put (d : Dev) (p : Path) (page : BitVec 12) :
    d.writeVltCmd p (at_ page.toNat 16 ||| 2) = d.vltPut p (toFin 4095 page.toNat) := by
  have hcmd := fld_command_of_vltWord page (c := 2) (by decide)
  have hpage := fld_page_of_vltWord page (c := 2) (by decide)
  simp only [Dev.writeVltCmd, hcmd, hpage]
  rfl

/-! ### BUSY -/

/-- A write that no other rule refuses meets BUSY. -/
theorem checked_busy (d : Dev) (f : Dev → Dev) {b : Bool} (busy : b = true) :
    checked d (lowest [(b, .busy)]) f = (.busy, d) := by
  simp [busy, lowest, Code.lower, checked]

/-- A rule that does not hold gives no code. -/
theorem lowest_cons_of_false {c : Bool} (h : c = false) (k : Code) (l : List (Bool × Code)) :
    lowest ((c, k) :: l) = lowest l := by simp [lowest, h]

/-- A write from another path than the owner's finds a transaction (R746). -/
theorem Dev.phase_ne_idle_of_notOwner {d : Dev} {p : Path} (h : d.notOwner p = true) : d.vault.phase ≠ .idle := by
  simp only [Dev.notOwner, Bool.and_eq_true, decide_eq_true_eq] at h
  exact h.1

theorem Dev.vltOpen_busy {d : Dev} {p : Path} (state : d.boot.phase = .held ∨ d.boot.phase = .run)
    (on : d.vaultOff = false) (busy : d.pageBusy = true ∨ d.notOwner p = true) : d.vltOpen p = (.busy, d) := by
  unfold Dev.vltOpen
  rw [lowest_cons_of_false (by rcases state with h | h <;> simp [h, on])]
  refine checked_busy d _ ?_
  rcases busy with page | other
  · simp [page]
  · simp [Dev.phase_ne_idle_of_notOwner other]

section
variable {d : Dev} {p : Path} (opened : d.vault.phase = .open_) (busy : d.pageBusy = true ∨ d.notOwner p = true)
include opened busy

theorem Dev.vltLoad_busy (page : Fin 4096) : d.vltLoad p page = (.busy, d) := by
  unfold Dev.vltLoad
  rw [lowest_cons_of_false (by simp [opened])]
  exact checked_busy d _ (by simpa [or_comm] using busy)

theorem Dev.vltPut_busy {page : Fin 4096} (room : page.val ∈ d.vault.slots ∨ d.vault.slots.length < 64) :
    d.vltPut p page = (.busy, d) := by
  unfold Dev.vltPut
  have fits : (decide (page.val ∉ d.vault.slots) && decide (64 ≤ d.vault.slots.length)) = false := by
    rcases room with held | free
    · rw [decide_eq_false (not_not_intro held), Bool.false_and]
    · rw [decide_eq_false (Nat.not_le_of_lt free), Bool.and_false]
  rw [lowest_cons_of_false fits, lowest_cons_of_false (by simp [opened])]
  exact checked_busy d _ (by simpa [or_comm] using busy)

theorem Dev.vltCommit_busy (held : d.vault.slots ≠ []) : d.vltCommit p = (.busy, d) := by
  unfold Dev.vltCommit
  rw [lowest_cons_of_false (by simp [opened, held])]
  exact checked_busy d _ (by simpa [or_comm] using busy)

end

/-- In every phase but IDLE an ABORT asks for the owner first (R746). -/
theorem Dev.vltAbort_busy {d : Dev} {p : Path} (other : d.notOwner p = true) : d.vltAbort p = (.busy, d) := by
  unfold Dev.vltAbort
  split
  next => exact checked_busy d _ other
  next idle => exact absurd idle (Dev.phase_ne_idle_of_notOwner other)
  next => exact checked_busy d _ other

theorem Dev.writeVltBuf_busy {d : Dev} {p : Path} (opened : d.vault.phase = .open_) (other : d.notOwner p = true)
    (i : Fin 64) (w : Word) : d.writeVltBuf p i w = (.busy, d) := by
  dsimp only [Dev.writeVltBuf]
  rw [lowest_cons_of_false (by simp [opened])]
  exact checked_busy d _ (by simp [other])

/-! ### The rows -/

/-- A word of the buffer answers at its own offset. -/
theorem ofOffset_vltBuf (i : Fin 64) : Reg.ofOffset (Reg.vltBuf i).offset = some (.vltBuf i, false) := by
  revert i
  decide

/-- The buffer stands outside the MSI-X table (R625). -/
theorem Dev.msixWord_vltBuf (d : Dev) (i : Fin 64) : d.msixWord (Reg.vltBuf i).offset = none := by
  have out : 0x9004 < (Reg.vltBuf i).offset := by
    simp only [Reg.offset]
    omega
  unfold Dev.msixWord
  rw [if_neg (by omega), if_neg (by omega), if_neg (by omega)]

/-- A VLT_CMD row whose word the vault's own rules meet with BUSY. -/
theorem refusedWith_of_writeVltCmd {s : State} {i : Instr} {p : Path} {w : Word}
    (row : exec i s = writeRow s p .vltCmd w) (h : s.takes p .vltCmd w)
    (own : s.dev.writeVltCmd p w = (.busy, s.dev)) : refusedWith s i .busy :=
  refusedWith_of_exec (row.trans
    (writeRow_of_refused h rfl rfl (by decide) (by decide) rfl (by decide) (e := s.dev) own))

/-- A VLT_BUF row that the vault's own rules meet with BUSY. -/
theorem refusedWith_of_writeVltBuf {s : State} {p : Path} {i : Fin 64} {w : Word} (h : s.takes p (.vltBuf i) w)
    (own : s.dev.writeVltBuf p i w = (.busy, s.dev)) : refusedWith s (.vltBufWrite p i w) .busy :=
  refusedWith_of_exec
    (writeRow_of_refused h (ofOffset_vltBuf i) (s.dev.msixWord_vltBuf i) nofun nofun rfl (by decide)
      (e := s.dev) own)

/-- PAGE holds 12 bits. -/
theorem toFin_page_val (page : BitVec 12) : (toFin 4095 page.toNat).val = page.toNat :=
  Nat.mod_eq_of_lt page.isLt

/-- Settles O50 (R746, R751): with every rule of a lower code shut out, BUSY is the one rule that each write meets. -/
theorem vaultRefusesWhileBusy : Obligations.VaultRefusesWhileBusy := by
  refine ⟨?openCmd, ?load, ?put, ?commit, ?abort, ?buffer⟩
  case openCmd =>
    intro s p h state on busy
    exact refusedWith_of_writeVltCmd rfl h ((Dev.writeVltCmd_open ..).trans (Dev.vltOpen_busy state on busy))
  case load =>
    intro s p page h opened busy
    exact refusedWith_of_writeVltCmd rfl h ((Dev.writeVltCmd_load ..).trans (Dev.vltLoad_busy opened busy _))
  case put =>
    intro s p page h opened room busy
    rw [← toFin_page_val page] at room
    exact refusedWith_of_writeVltCmd rfl h ((Dev.writeVltCmd_put ..).trans (Dev.vltPut_busy opened busy room))
  case commit =>
    intro s p h opened held busy
    exact refusedWith_of_writeVltCmd rfl h ((Dev.writeVltCmd_commit ..).trans (Dev.vltCommit_busy opened busy held))
  case abort =>
    intro s p h other
    exact refusedWith_of_writeVltCmd rfl h ((Dev.writeVltCmd_abort ..).trans (Dev.vltAbort_busy other))
  case buffer =>
    intro s p i w h opened other
    exact refusedWith_of_writeVltBuf h (Dev.writeVltBuf_busy opened other i w)

end Sys2Proof.Machine
end

section
/-! SUPPORT. What a read of the vault returns (R741, R752, R754, R758): over a step from a state that keeps the vault's promises, home
pages change only behind a COMMITTED descriptor, and reads only at a commit point. -/
namespace Sys2Proof.Machine

/-! ### Slots -/

theorem slotOf_nil (page : Nat) : slotOf [] page = none := rfl

theorem slotOf_cons (e : Nat × List Byte) (j : List (Nat × List Byte)) (page : Nat) :
    slotOf (e :: j) page = if e.1 = page then some e.2 else slotOf j page := by
  by_cases h : e.1 = page <;> simp [slotOf, h]

theorem mem_of_slotOf {j : List (Nat × List Byte)} {page : Nat} {bs : List Byte} (h : slotOf j page = some bs) :
    (page, bs) ∈ j := by
  induction j with
  | nil => nomatch h
  | cons e j ih =>
    rw [slotOf_cons] at h
    split at h
    next here =>
      cases h
      exact here ▸ List.mem_cons_self
    next => exact List.mem_cons_of_mem e (ih h)

theorem slotOf_of_not_mem {j : List (Nat × List Byte)} {page : Nat} (h : page ∉ j.map (·.1)) : slotOf j page = none := by
  cases hs : slotOf j page with
  | none => rfl
  | some bs => exact absurd (List.mem_map_of_mem (mem_of_slotOf hs)) h

/-! ### Committed contents (R741) -/

@[simp] theorem NonVolatile.describe_kind (v : NonVolatile) (k : DescKind) : (v.describe k).kind = k := rfl

/-- Behind a descriptor that is not COMMITTED a read returns the home page. -/
theorem NonVolatile.committed_of_kind_ne {v : NonVolatile} (h : v.kind ≠ .committed) (a : Nat) :
    v.committed a = homeByte v.home a := by
  unfold NonVolatile.committed
  split
  next kind _ => exact absurd kind h
  next => rfl

/-- Behind a COMMITTED descriptor a read returns the slot of a page that has one, and its home page otherwise. -/
theorem NonVolatile.committed_of_kind {v : NonVolatile} (h : v.kind = .committed) (a : Nat) :
    v.committed a = match slotOf v.journal (a / 256) with
      | some bs => bs.getD (a % 256) 0
      | none => homeByte v.home a := by
  unfold NonVolatile.committed
  rw [h]
  cases slotOf v.journal (a / 256) <;> rfl

/-- A whole page written to its home is read there, and every other page stays. -/
theorem homeByte_writePage (m : List Host.Cell) (page : Nat) {bs : List Byte} (whole : bs.length = 256) (a : Nat) :
    homeByte (homeWriteAll m (256 * page) bs) a = if page = a / 256 then bs.getD (a % 256) 0 else homeByte m a := by
  rw [homeByte_homeWriteAll, whole]
  by_cases h : page = a / 256
  · have offset : a - 256 * page = a % 256 := by omega
    rw [if_pos h, if_pos (by omega), offset]
  · rw [if_neg h, if_neg (by omega)]

/-- Copies of all slots put each slot into its home page and leave every other page alone (Table 19.4). -/
theorem homeByte_copySlots (j : List (Nat × List Byte)) (whole : ∀ e ∈ j, e.2.length = 256) (once : (j.map (·.1)).Nodup)
    (m : List Host.Cell) (a : Nat) :
    homeByte (j.foldl (fun m e => homeWriteAll m (256 * e.1) e.2) m) a =
      match slotOf j (a / 256) with
      | some bs => bs.getD (a % 256) 0
      | none => homeByte m a := by
  induction j generalizing m with
  | nil => rfl
  | cons e j ih =>
    obtain ⟨notLater, once⟩ := List.nodup_cons.mp once
    rw [List.foldl_cons, ih (fun x hx => whole x (List.mem_cons_of_mem e hx)) once, slotOf_cons,
      homeByte_writePage m e.1 (whole e List.mem_cons_self)]
    by_cases here : e.1 = a / 256
    · rw [slotOf_of_not_mem (here ▸ notLater), if_pos here, if_pos here]
    · rw [if_neg here, if_neg here]

/-! ### Changes of the cells that no read shows -/

/-- From `v` to `u` home pages change only behind a COMMITTED descriptor, and no read changes. -/
structure NonVolatile.ReadsStay (v u : NonVolatile) : Prop where
  home : u.home ≠ v.home → v.kind = .committed
  reads : ∀ a, u.committed a = v.committed a

theorem NonVolatile.ReadsStay.refl (v : NonVolatile) : v.ReadsStay v := ⟨fun h => absurd rfl h, fun _ => rfl⟩

/-- The fuses are no part of the vault. -/
theorem NonVolatile.readsStay_fuses (v : NonVolatile) (f : BitVec 4096) : v.ReadsStay { v with fuses := f } :=
  ⟨fun h => absurd rfl h, fun _ => rfl⟩

/-- What the journal holds before the commit point reaches no read (R752). -/
theorem NonVolatile.readsStay_of_uncommitted {v u : NonVolatile} (hv : v.kind ≠ .committed) (hu : u.kind ≠ .committed)
    (home : u.home = v.home) : v.ReadsStay u where
  home h := absurd home h
  reads a := by rw [committed_of_kind_ne hu, committed_of_kind_ne hv, home]

theorem Dev.cutFuse_readsStay (d : Dev) (v : NonVolatile) : v.ReadsStay (d.cutFuse v).2 := by
  unfold Dev.cutFuse
  split
  · exact .refl v
  · exact v.readsStay_fuses _

theorem Dev.resetLow_readsStay (d : Dev) (v : NonVolatile) : v.ReadsStay (d.resetLow v).2 := by
  by_cases h : d.boot.phase = .off
  · rw [d.resetLow_snd_of_off v h]
    exact .refl v
  · rw [d.resetLow_snd v h]
    exact d.cutFuse_readsStay v

theorem Dev.fuseDone_readsStay (d : Dev) (v : NonVolatile) (readBack : Bool) : v.ReadsStay (d.fuseDone v readBack).2 := by
  unfold Dev.fuseDone
  split
  · exact .refl v
  · exact v.readsStay_fuses _

/-- Recovery brings a COMMITTED transaction home and discards an OPEN one (R759, Table 19.4). -/
theorem NonVolatile.recover_readsStay (v : NonVolatile) (whole : ∀ e ∈ v.journal, e.2.length = 256)
    (once : (v.journal.map (·.1)).Nodup) : v.ReadsStay v.recover.2 := by
  unfold NonVolatile.recover
  split
  next => exact .refl v
  next kind => exact readsStay_of_uncommitted (by simp [kind]) nofun rfl
  next kind =>
    refine ⟨fun _ => kind, fun a => ?_⟩
    rw [committed_of_kind_ne (by simp), committed_of_kind kind]
    exact homeByte_copySlots v.journal whole once v.home a

theorem Dev.journalEnds_readsStay (d : Dev) (v : NonVolatile) (whole : ∀ e ∈ v.journal, e.2.length = 256)
    (once : (v.journal.map (·.1)).Nodup) : v.ReadsStay (d.journalEnds v).2 := by
  unfold Dev.journalEnds
  split
  · exact .refl v
  · exact v.recover_readsStay whole once

/-- The copy of a slot to its home page changes no read: the slot has been read since the commit point (R741). -/
theorem NonVolatile.readsStay_of_copy (v : NonVolatile) (page : Nat) (committed : v.kind = .committed)
    (whole : ∀ e ∈ v.journal, e.2.length = 256) :
    v.ReadsStay { v with home := homeWriteAll v.home (256 * page) ((slotOf v.journal page).getD []) } := by
  refine ⟨fun _ => committed, fun a => ?_⟩
  refine ((committed_of_kind (by exact committed) a).trans ?_).trans (committed_of_kind committed a).symm
  dsimp only
  cases held : slotOf v.journal (a / 256) with
  | some bs => rfl
  | none =>
    cases slot : slotOf v.journal page with
    | none => rfl
    | some bs =>
      have other : page ≠ a / 256 := by
        rintro rfl
        rw [held] at slot
        cases slot
      exact (homeByte_writePage v.home page (whole _ (mem_of_slotOf slot)) a).trans (if_neg other)

/-! ### The vault's own commands -/

section
variable {s : State} (ok : s.vaultOk)
include ok

/-- Before the commit point every page operation stays in the journal (R752); after it a copy brings a slot home. -/
theorem pageDone_readsStay : s.nv.ReadsStay (s.dev.pageDone s.nv).2 := by
  obtain ⟨opened, whole, -, -, -, uncommitted, copying, -⟩ := ok
  have before {o : PageOp} (h : s.dev.vault.op = some o) : s.nv.kind ≠ .committed :=
    (uncommitted (.inl (opened (by simp [h])))).1
  unfold Dev.pageDone
  split
  next h => exact NonVolatile.readsStay_of_uncommitted (before h) nofun rfl
  next => exact .refl s.nv
  next h => exact NonVolatile.readsStay_of_uncommitted (u := { s.nv with journal := _ }) (before h) (before h) rfl
  next h => exact NonVolatile.readsStay_of_uncommitted (before h) nofun rfl
  next =>
    split
    next page _ phase _ =>
      split
      · exact .refl s.nv
      · exact s.nv.readsStay_of_copy page (copying phase).1 whole
    next => exact .refl s.nv

/-- The close finds every slot in its home page (Table 19.3 steps 4 and 5). -/
theorem vaultClose_readsStay : s.nv.ReadsStay (s.dev.vaultClose s.nv).2 := by
  obtain ⟨-, -, -, -, -, -, copying, -⟩ := ok
  unfold Dev.vaultClose
  split
  next h =>
    obtain ⟨phase, noneLeft, -⟩ := h
    obtain ⟨committed, copied⟩ := copying phase
    refine ⟨fun h => absurd rfl h, fun a => ?_⟩
    rw [NonVolatile.committed_of_kind_ne (by simp), NonVolatile.committed_of_kind committed]
    cases slot : slotOf s.nv.journal (a / 256) with
    | none => rfl
    | some bs =>
      have home := copied _ (mem_of_slotOf slot) (by simp [noneLeft]) (a % 256) (Nat.mod_lt a (by decide))
      rwa [Nat.div_add_mod] at home
  next => exact .refl s.nv

end

theorem Dev.commitPoint_home (d : Dev) (v : NonVolatile) : (d.commitPoint v).2.home = v.home := by
  unfold Dev.commitPoint
  split
  · rfl
  · rfl

/-! ### Every command, and every step -/

theorem ifAliveNv_readsStay {s t : State} {f : Dev → NonVolatile → Dev × NonVolatile}
    (h : s.nv.ReadsStay (f s.dev s.nv).2) (ht : ifAliveNv s f = .next t) : s.nv.ReadsStay t.nv := by
  cases ht
  dsimp only
  split
  · exact h
  · exact .refl s.nv

/-- Every command but the commit point leaves what a read of the vault returns. -/
theorem exec_readsStay {i : Instr} {s t : State} (ok : s.vaultOk) (notCommit : i ≠ .vaultCommitPoint)
    (h : exec i s = .next t) : s.nv.ReadsStay t.nv := by
  have ⟨_, whole, once, _⟩ := ok
  cases i with
  | supplyLoss =>
    cases h
    exact s.dev.cutFuse_readsStay s.nv
  | rstNAssert =>
    cases h
    exact s.dev.resetLow_readsStay s.nv
  | fuseProgDone readBack =>
    cases h
    exact s.dev.fuseDone_readsStay s.nv readBack
  | journalRecoveryEnd =>
    cases h
    exact s.dev.journalEnds_readsStay s.nv whole once
  | vaultPageWriteDone => exact ifAliveNv_readsStay (pageDone_readsStay ok) h
  | vaultCommitPoint => exact absurd rfl notCommit
  | vaultClose => exact ifAliveNv_readsStay (vaultClose_readsStay ok) h
  | _ =>
    rw [devOnly_nv (exec_devOnly _ s rfl) h]
    exact .refl s.nv

theorem execVaultCommitPoint_home {s t : State} (h : exec .vaultCommitPoint s = .next t) : t.nv.home = s.nv.home := by
  cases h
  dsimp only
  split
  · exact s.dev.commitPoint_home s.nv
  · rfl

/-- What O59 says of home pages and of reads holds of every step from a state that keeps the vault's promises. -/
theorem step_changes_reads_only_at_commitPoint {s t : State} (ok : s.vaultOk) (h : step s = .next t) :
    (t.nv.home ≠ s.nv.home → s.nv.kind = .committed) ∧
      ((∀ a, t.nv.committed a = s.nv.committed a) ∨ ∃ rest, s.pending = .vaultCommitPoint :: rest) := by
  unfold step at h
  split at h
  next =>
    cases h
    exact ⟨fun changed => absurd (congrArg NonVolatile.home s.tick_nv) changed,
      .inl fun a => congrArg (·.committed a) s.tick_nv⟩
  next i rest pending =>
    by_cases commit : i = .vaultCommitPoint
    · subst commit
      exact ⟨fun changed => absurd (execVaultCommitPoint_home h) changed, .inr ⟨rest, pending⟩⟩
    · have stay := exec_readsStay (s := { s with pending := rest }) ok commit h
      exact ⟨stay.home, .inl stay.reads⟩

end Sys2Proof.Machine
end

section
/-! SUPPORT. The promises of the vault's journal (R747, R750, R752): a PUT that completes fills a slot and writes no descriptor. -/
namespace Sys2Proof.Machine

theorem tins_ne_nil (i : Nat) (x : α) (t : List (Nat × α)) : tins i x t ≠ [] := by
  cases t with
  | nil => exact List.cons_ne_nil _ _
  | cons e t =>
    unfold tins
    split
    · exact List.cons_ne_nil _ _
    · exact List.cons_ne_nil _ _

/-- The end of a PUT's page write fills the page's slot and changes nothing else of the cells (R750). -/
theorem Dev.pageDone_put_nv {d : Dev} {page : Fin 4096} {bs : List Byte} (h : d.vault.op = some (.put page bs))
    (v : NonVolatile) :
    (d.pageDone v).2 = { v with journal := tins page.val (bs.take 256) (tdel v.journal page.val) } := by
  simp only [Dev.pageDone, h]

/-- Where a PUT is in progress while the descriptor in force is still CLOSED, its end leaves a slot behind a CLOSED
descriptor. -/
theorem not_vaultOk_of_put_behind_closed {s t : State} {page : Fin 4096} {bs : List Byte} (alive : s.dev.alive = true)
    (put : s.dev.vault.op = some (.put page bs)) (closed : s.nv.kind = .closed)
    (h : exec .vaultPageWriteDone s = .next t) : ¬ t.vaultOk := by
  have cells : t.nv = { s.nv with journal := tins page.val (bs.take 256) (tdel s.nv.journal page.val) } := by
    have row : exec .vaultPageWriteDone s = settledNv s (s.dev.pageDone s.nv) := by
      change settledNv s (if s.dev.alive then _ else _) = _
      rw [if_pos alive]
    cases row.symm.trans h
    exact Dev.pageDone_put_nv put s.nv
  rintro ⟨-, -, -, emptyBehindClosed, -⟩
  rw [cells] at emptyBehindClosed
  exact tins_ne_nil _ _ _ (emptyBehindClosed closed)

/-- Refutes O59: `vaultOk` is not kept by every step. R751 admits no PUT before the OPEN descriptor is written, but `vaultOk` does not
say so: it holds of the state below, in which page 0 is being put while the descriptor in force is still CLOSED. The end of the PUT
then leaves a slot behind the CLOSED descriptor, which `vaultOk` forbids. The rest of the statement holds:
`step_changes_reads_only_at_commitPoint`. -/
theorem not_onlyCommitPointsChangeTheVault : ¬ Obligations.OnlyCommitPointsChangeTheVault := by
  intro h
  have ok : State.vaultOk {
      dev := {
        boot := { phase := .run, journalDone := true }
        vault := { phase := .open_, op := some (.put 0 (List.replicate 256 7)), slots := [0], ready := true } }
      nv := { kind := .closed }
      pending := [.vaultPageWriteDone] } := by
    refine ⟨fun _ => rfl, nofun, List.nodup_nil, fun _ => rfl, ?_, fun _ => ⟨nofun, nofun⟩, nofun, nofun, nofun⟩
    intro q bs hq
    cases hq
    exact ⟨by decide, List.length_replicate⟩
  exact not_vaultOk_of_put_behind_closed rfl rfl rfl rfl (h _ _ ok rfl).1

end Sys2Proof.Machine
end
